-- ==== Sys2Proof/Word.lean ====
section
/-!
DEFINITION. The word types of the LK8 and their plainest arithmetic: 16-bit words, bytes, 48-bit
word addresses (Scope and Conventions, R5, R6, R41), and the clock ratios of R4 and R45.
-/

namespace Sys2Proof

/-- A 16-bit word: the unit of memory and of every register (R5, R41). -/
abbrev Word := BitVec 16

/-- An 8-bit byte of a byte-exact format (R5). -/
abbrev Byte := BitVec 8

/-- A 48-bit word address (R41). -/
abbrev Addr := BitVec 48

/-- A 256-bit number: a digest, a key coordinate or a signature half (R69, R74). -/
abbrev W256 := BitVec 256

/-- A ring address, 0 the hub, 1 to 4 the compute dies, 5 and 6 the port dies, 7 the NV die (R22). -/
abbrev DieAddr := BitVec 3

/-- CK1 cycles in one CK2 cycle (R45). -/
abbrev ck2 : Nat := 2

/-- CK1 cycles in one CK4 cycle (R45). -/
abbrev ck4 : Nat := 4

/-- CK1 cycles in one CK8 cycle (R45). -/
abbrev ck8 : Nat := 8

/-- CK1 cycles in one microsecond: CK1 runs at 3.0 GHz (R4). -/
abbrev usCk1 : Nat := 3000

/-- CK1 cycles in one millisecond (R4). -/
abbrev msCk1 : Nat := 3000000

/-- CK1 cycles in one second (R4). -/
abbrev secCk1 : Nat := 3000000000

/-- The larger half first: a 32-bit value from its high and low words (R69, R10). -/
abbrev word2 (hi lo : Word) : BitVec 32 := hi ++ lo

end Sys2Proof
end

