-- ==== Sys2Proof/Syntax.lean ====
section
/-!
DEFINITION. The commands of the LK8, one constructor for each row of the opcode table, and their
operands. Every command begins with `t`, the CK1 time at which it comes about; a command that is a
write of a register names its master and the value written; what only the world outside the device
decides (a reading, a comparison that differs, a supply that fails) is an operand.
-/

namespace Sys2Proof

/-- A core by its number 2 × engine + core, core 0 the locked engine or En.M and 1 En.K (R274). -/
abbrev CoreId := BitVec 8

/-- An engine number, E0 to E127 (R15). -/
abbrev EngId := BitVec 7

/-- A D or V register number (R206). -/
abbrev Reg := BitVec 4

/-- An A register number (R206). -/
abbrev AReg := BitVec 3

/-- The maker of a CSR access: the Trifle, a core, a DMA channel of a compute or port die, or a debug session (R6,
R42, R328, R488). -/
inductive Master where
  | trifle
  | core (c : CoreId)
  | dma (die : DieAddr) (ch : BitVec 2)
  | debug
deriving DecidableEq, Repr

/-- The transport of a management frame (R92, R523, R534). -/
inductive MgmtPort where
  | mspi
  | eth (p1 : Bool) (assign : BitVec 4)
deriving DecidableEq, Repr

/-- A management request frame with good CRC and length: its transport, SEQ and argument words (R92). -/
structure MgmtReq where
  port : MgmtPort
  seq : Word
  args : List Word
deriving DecidableEq, Repr

/-- The second operand of the two-operand scalar instructions: Ds of Format A or imm16 of Format I
(R247). -/
inductive Src where
  | reg (s : Reg)
  | imm (v : Word)
deriving DecidableEq, Repr

/-- The part of an accumulator that a MOV names (R250). -/
inductive AccPart where
  | l | h | g | q
deriving DecidableEq, Repr

/-- The effective-address forms of R253; `rsv` are the reserved bits 15:8 and 4 of the mode-4
extension word, `an` the reserved An field of mode 5 and of mode 6. -/
inductive Ea where
  | ind (an : AReg)
  | postInc (an : AReg)
  | preDec (an : AReg)
  | disp (an : AReg) (d : Word)
  | index (an : AReg) (scale : BitVec 3) (dm : Reg) (rsv : BitVec 9)
  | abs (an : AReg) (a : Addr)
  | imm (an : AReg) (w0 : Word) (w1 : Word)
deriving DecidableEq, Repr

/-- The addend of ADDA: sub 0 with Dm, or sub 1 with imm16 and its reserved X field (R258). -/
inductive AddaSrc where
  | reg (dm : Reg)
  | imm (x : Reg) (v : Word)
deriving DecidableEq, Repr

/-- The forms of MOVA: sub 2, sub 4 and sub 5, with their reserved bits (R258). -/
inductive MovaOp where
  | aFromA (an : AReg) (am : AReg) (rsv : BitVec 1)
  | dFromA (an : AReg) (d : Reg) (w : BitVec 2) (rsv : BitVec 14)
  | aFromD (an : AReg) (d : Reg) (w : BitVec 2) (rsv : BitVec 14)
deriving DecidableEq, Repr

/-- The fields of a vector ALU instruction: Vd, Va, Pp, Vb and X (R260). -/
structure VArg where
  vd : Reg
  va : Reg
  p : BitVec 2
  vb : Reg
  x : BitVec 6
deriving DecidableEq, Repr

/-- The target of CALLM: F 0 with disp32, whose bits 8:0 of word 0 are reserved, or F 1 with An,
whose bits 8:3 are reserved (R263). -/
inductive CallTgt where
  | disp (d : BitVec 32) (rsv : BitVec 9)
  | reg (an : AReg) (rsv : BitVec 6)
deriving DecidableEq, Repr

/-- The fields of MFS and MTS: reg, A, W, the system register number and the reserved bits (R265). -/
structure SysArg where
  reg : Reg
  a : BitVec 1
  w : BitVec 2
  num : BitVec 8
  rsv0 : BitVec 3
  rsv1 : BitVec 8
deriving DecidableEq, Repr

/-- The fields of a block instruction: Dc, Ad, As, RAW, POLY, Dx and the reserved bits 15:11 and 7:6
of word 1 (R267). -/
structure BlockArg where
  dc : Reg
  ad : AReg
  as_ : AReg
  raw : BitVec 1
  poly : BitVec 2
  dx : Reg
  rsvHi : BitVec 5
  rsvLo : BitVec 2
deriving DecidableEq, Repr

/-- What the G-code decoder finds in a codeword that a step reads: the error class present in it
(R315). -/
inductive GErr where
  | none | single | adj | checkbit | double | nibble | addr | other
deriving DecidableEq, Repr

/-- A watchdog: TWD0, TWD1, or the watchdog of a core (R429). -/
inductive WdtId where
  | twd (n : BitVec 1)
  | core (c : CoreId)
deriving DecidableEq, Repr

/-- A GNSS solution of a fix: authenticated by OSNMA or not, its distance in cm from the dead-reckoned
position, its position, and its Doppler speed in cm/s (R173, R174). -/
structure GnssSol where
  auth : Bool
  dist : Nat
  east : BitVec 32
  north : BitVec 32
  lat : BitVec 32
  lon : BitVec 32
  doppler : Word
deriving DecidableEq, Repr

/-- What the Attestor firmware brings to a position fix: the dead-reckoned position, heading and
protection level, the GNSS solution where there is one, and whether OSNMA verification failed for a
navigation page since the last fix (R173, R196). -/
structure FixInput where
  east : BitVec 32
  north : BitVec 32
  lat : BitVec 32
  lon : BitVec 32
  hdg : Word
  hpl : BitVec 32
  sol : Option GnssSol
  pageFail : Bool
deriving DecidableEq, Repr

/-- A record as its maker hands it to the Ledger Unit: type, flags and body words (R178, R179). -/
structure RecordIn where
  type : BitVec 8
  flags : Word
  body : List Word
deriving DecidableEq, Repr
/-- A request to an HBM stack (R291, R302, R305): requester, first word address, whether it writes, the words
of a write, the error class that the array has come to hold in the line's first codeword, and of a read the attribute C
(WT, or NC) and the number of words asked for. -/
structure HbmReq where
  req : BitVec 9
  addr : Addr
  write : Bool
  words : List Word
  cls : GErr
  wt : Bool
  n : BitVec 6
deriving DecidableEq, Repr
/-- A burst of a DMA channel (R336, R344): channel ch of a compute or port die moves n words from src upward to
dst upward. -/
structure Burst where
  die : DieAddr
  ch : BitVec 2
  src : Addr
  dst : Addr
  n : Nat
deriving DecidableEq, Repr
/-- The SecTAG of a received frame as the cipher of R519 finds it: association, packet number, SCI,
and whether the ICV holds under the installed key. -/
structure SecTag where
  an : BitVec 2
  pn : BitVec 32
  sci : BitVec 64
  icvOk : Bool
deriving DecidableEq, Repr

/-- A whole frame at the MAC (R519): its bytes from the destination address to the last before the
FCS (in the clear, where it came protected), whether the FCS is good, the CK1 time at which the end
of the start-frame delimiter crossed the MAC-PHY boundary, its SecTAG where it was protected, and
whether the two CRC datapaths of the CVU differ over it (R390). -/
structure EthRx where
  bytes : List Byte
  fcsOk : Bool
  sfdAt : Nat
  sec : Option SecTag
  mism : Bool
deriving DecidableEq, Repr

/-- Where ISO 11898-1 leaves a controller: error state, TEC and REC (R541). -/
structure CanErr where
  state : BitVec 2
  tec : BitVec 8
  recv : Word
deriving DecidableEq, Repr

/-- A CAN frame on the wire (R530), and the controller's error counters after it. -/
structure CanFrame where
  fmt : BitVec 2
  ide : Bool
  rtr : Bool
  brs : Bool
  esi : Bool
  id : BitVec 29
  xlt : Word
  af : BitVec 32
  data : List Byte
  err : CanErr
deriving DecidableEq, Repr

/-- The outcome of one attempt to send: sent, or arbitration lost or an error, with the error counters
after it (R530). -/
structure CanOutcome where
  sent : Bool
  err : CanErr
deriving DecidableEq, Repr

/-- Where the second classifier of the Crumb tray decides otherwise on a report of the cycle: the report's fault ID, and
the level of the reaction that it decides, or none for a repeat or a consequential report (R415). -/
abbrev OtherClass := Option (BitVec 16 × Option (BitVec 3))

/-- The commands of the LK8, in the order of the opcode table. -/
inductive Instr where
  /-- REGISTER_WRITE (R6): A write to a CSR that has no row of its own, applied under its access types with
  state and encoding checks. -/
  | registerWrite (t : Nat) (m : Master) (addr : Addr) (v : Word)
  /-- POWER_GOOD (R447): PORST_N rises with every rail in limits, starting power-on start-up, ROOT lock and the
  first alignment marker. -/
  | powerGood (t : Nat) (railsOk : BitVec 13) (vbatLost : Bool) (elapsed : Nat)
  /-- POWER_ON_DETECTOR_RELEASE (R547): The internal power-on detector releases once VDDH, VDDS and VDDNV reach
  their minimum. -/
  | powerOnDetectorRelease (t : Nat)
  /-- POWER_LOSS (R187): PORST_N falls: loads are shed and the ledger and biscuit tin flushes start. -/
  | powerLoss (t : Nat) (vholdGood : Bool)
  /-- FLUSH_DEADLINE (R447): 1.2 ms after PORST_N falls the device resets if the flush has not yet ended. -/
  | flushDeadline (t : Nat)
  /-- RESET_N_REQUEST (R447): RESET_N held low for 1,500 CK4 requests a warm reset, forcing fault pins and
  starting the flush. -/
  | resetNRequest (t : Nat)
  /-- LEDGER_FLUSH_END (R187): The ledger flush ends and the pending device reset takes place. -/
  | ledgerFlushEnd (t : Nat)
  /-- TRIFLE_START (R450): The Trifle boot ROM issues its first instruction after reset, starting enumeration,
  TWD0/TWD1 and the boot ROM steps. -/
  | trifleStart (t : Nat) (voteTestFail : BitVec 3)
  /-- RSTOUT_RELEASE (R447): RSTOUT_N is released 1.000 ms after the Trifle starts running. -/
  | rstoutRelease (t : Nat)
  /-- FIRMWARE_START (R454): The boot ROM finishes verifying a firmware slot, copies the TRIFLE module and
  jumps to it. -/
  | firmwareStart (t : Nat)
  /-- ENUM_ANSWER (R22): A die answers the enumeration token on a lane and takes the address of its position. -/
  | enumAnswer (t : Nat) (seat : DieAddr) (ccwLane : Bool) (hops : BitVec 4) (type : BitVec 2)
  /-- ENUMERATION_END (R23): 40 µs after enumeration starts the hub latches DIE_PRESENT and classifies each
  position. -/
  | enumerationEnd (t : Nat)
  /-- HEARTBEAT_SEND (R25): A present non-hub die sends a heartbeat on both lanes at each due time. -/
  | heartbeatSend (t : Nat) (die : DieAddr)
  /-- HEARTBEAT_DUE (R25): The hub judges a heartbeat due time after the ring hop delay. -/
  | heartbeatDue (t : Nat) (die : DieAddr)
  /-- LINK_TRAINING_END (R20): A wide link finishes training at start-up, coming up at full width or failing. -/
  | linkTrainingEnd (t : Nat) (die : DieAddr) (link : BitVec 3) (ok : Bool) (repaired : BitVec 4)
  /-- LINK_DOWN (R26): A hub link goes down at run time and cannot be repaired, fencing the die at that edge. -/
  | linkDown (t : Nat) (die : DieAddr)
  /-- DIE_FENCE (R39): A Trifle write to DIE_FENCE fences the named die. -/
  | dieFence (t : Nat) (m : Master) (v : Word)
  /-- ALIGNMENT_MARKER (R46): The hub issues the alignment marker every 4,096 CK8 and each die checks its
  dividers. -/
  | alignmentMarker (t : Nat) (offPhase : BitVec 8)
  /-- MONITOR_WINDOW (R53): A 128-OSC clock monitor window closes and its REFCLK, CK8/4 and lock checks are
  judged. -/
  | monitorWindow (t : Nat) (refCount : BitVec 8) (ck8Count : BitVec 8) (lockFell : Bool)
  /-- MON_DEAD (R55): No monitor window closes for 1,024 CK8 and the CRW domain reports MON_DEAD. -/
  | monDead (t : Nat)
  /-- PLL_LOCK_LOSS (R65): A port die's PLL-A or PLL-B loses lock and PLLA_LOSS or PLLB_LOSS is raised. -/
  | pllLockLoss (t : Nat) (p1 : Bool) (pllB : Bool)
  /-- CFG_CTRL_LOAD (R77): A Trifle write of CFG_CTRL.LOAD 1 starts an image load from the selected slot. -/
  | cfgCtrlLoad (t : Nat) (m : Master) (v : Word)
  /-- CFG_CTRL_EN (R80): A Trifle write of CFG_CTRL.EN 1 starts the consistency check. -/
  | cfgCtrlEn (t : Nat) (m : Master) (v : Word)
  /-- LOAD_COMPLETE (R77): The image loader finishes, writing the registers and entering LOADED, or failing
  with a reason. -/
  | loadComplete (t : Nat)
  /-- CHECK_COMPLETE (R80): The consistency check finishes with acceptance or exactly one refusal reason. -/
  | checkComplete (t : Nat)
  /-- MGMT_FRAME_BAD (R93): A management request with a bad CRC or length is discarded without response. -/
  | mgmtFrameBad (t : Nat) (port : MgmtPort)
  /-- UNKNOWN_COMMAND (R94): A request whose CMD is undefined or has bit 15 set is answered UNKNOWN. -/
  | unknownCommand (t : Nat) (cmd : Word) (req : MgmtReq)
  /-- GET_STATUS (R97): Returns CFG_STATUS, CFG_REASON, CFG_DETAIL and CFG_IMGVER. -/
  | getStatus (t : Nat) (req : MgmtReq)
  /-- GET_NONCE (R96): Returns a fresh 4-word nonce for one authorised request. -/
  | getNonce (t : Nat) (req : MgmtReq)
  /-- GET_DIGEST (R97): Returns CFG_DIGEST. -/
  | getDigest (t : Nat) (req : MgmtReq)
  /-- LOAD_IMAGE (R97): Owner-authorised command that loads the named image slot and returns the load result. -/
  | loadImage (t : Nat) (req : MgmtReq)
  /-- ENABLE (R97): Owner-authorised command that runs the consistency check and returns its reason code. -/
  | enable (t : Nat) (req : MgmtReq)
  /-- DISABLE (R98): Owner-authorised command that takes the device from RUN to LOADED at attested speed 0,
  forcing STOP and stopping the frame clock. -/
  | disable (t : Nat) (req : MgmtReq)
  /-- FRAME_BOUNDARY (R100): A frame boundary falls: the frame is sealed, notices are pushed and the next ring
  slot clear starts. -/
  | frameBoundary (t : Nat)
  /-- INTAKE_CUTOFF (R102): Intake into the frame ends 288 CK8 before its sealing boundary and the next frame's
  opening time is computed. -/
  | intakeCutoff (t : Nat)
  /-- CLEAR_WRITE (R308): In a CLR slot position the clear writes the next 16 lines of the ring slot, or
  rewrites failed lines. -/
  | clearWrite (t : Nat) (parity : Word)
  /-- SLOT_CLEAR_END (R104): A ring slot clear reports completion 262,144 CK8 after it starts. -/
  | slotClearEnd (t : Nat)
  /-- SIFTER_BATCH_START (R110): A Sifter turns to the next enabled stream input with a header pop-visible and
  pops the header. -/
  | sifterBatchStart (t : Nat) (n : Bool)
  /-- SIFTER_POINT_TAKE (R110): A Sifter takes one point when its words are pop-visible and runs it through the
  stages to its column commit. -/
  | sifterPointTake (t : Nat) (n : Bool) (mism : Bool)
  /-- SIFTER_DISCARD_POP (R111): A Sifter pops and discards one flit of a failed or discarded batch when it is
  pop-visible. -/
  | sifterDiscardPop (t : Nat) (n : Bool)
  /-- SAMPLE_STEP (R172): Every 125 µs the sample integrator reads P and dpsi and forms a motion sample. -/
  | sampleStep (t : Nat)
  /-- MOTION_SAMPLE_PUBLISH (R123): The Attestor publishes a motion sample 24,000 CK8 after its instant, or
  late as soon as it has it. -/
  | motionSamplePublish (t : Nat) (next : Bool) (k : Int)
  /-- EGO_STALE (R124): A motion sample passes its due time unpublished and EGO_STALE is raised once for the
  frame. -/
  | egoStale (t : Nat)
  /-- LAT_PCTRL_GO (R135): Writing LAT_PCTRL.GO starts a policy-pack expansion of the named pack slot. -/
  | latPctrlGo (t : Nat) (m : Master) (v : Word)
  /-- EXPANSION_COMPLETE (R135): A pack expansion ends READY with the directory written, or FAILED. -/
  | expansionComplete (t : Nat)
  /-- VERDICT_FLIT_POP (R147): At a CK4 edge the Gate pops the pop-visible producer flits, classifies them and
  votes. -/
  | verdictFlitPop (t : Nat) (voterDiffer : Bool)
  /-- DEADLINE (R148): The deadline edge of an undecided frame decides it STOP with cause DEADLINE. -/
  | deadline (t : Nat) (voterDiffer : Bool)
  /-- VETO_TOGGLE (R156): In no-veto state the VETO pair inverts every 7,500 CK4. -/
  | vetoToggle (t : Nat)
  /-- VDG_PIN (R158): A VETO pad differs from its commanded level for 8 consecutive CK4. -/
  | vdgPin (t : Nat)
  /-- PPS_IN (R167): A PPS_IN rising edge latches device time into TIME_PPS. -/
  | ppsIn (t : Nat)
  /-- TIME_ADJ (R166): A Trifle write of TIME_ADJ sets the slew and recomputes the step. -/
  | timeAdj (t : Nat) (m : Master) (v : BitVec 32)
  /-- TIME_STEP (R168): A Trifle write of TIME_STEP's highest word sets device time and appends a TIME record. -/
  | timeStep (t : Nat) (m : Master) (v : BitVec 80)
  /-- TIME_SYNC (R169): A Trifle write of TIME_SYNC loads TIME_UNC, sets LOCKED and restarts the holdover
  timer. -/
  | timeSync (t : Nat) (m : Master) (v : BitVec 32)
  /-- TIME_HOLD (R194): The 10 s holdover timer expires and TQ falls from LOCKED to HOLDOVER. -/
  | timeHold (t : Nat)
  /-- HOLDOVER_UNC_STEP (R169): In HOLDOVER each 10,000 µs of device time adds 1 µs to TIME_UNC. -/
  | holdoverUncStep (t : Nat)
  /-- MS_PAIRING (R171): The Trifle pairs the motion sensor at boot, setting MSPAIR or raising POS_MS. -/
  | msPairing (t : Nat) (ok : Bool)
  /-- POSITION_FIX (R173): Every 100 ms the Attestor publishes a position fix, judges the attested speed and
  appends a POSITION record. -/
  | positionFix (t : Nat) (fix : FixInput)
  /-- LEDGER_RECORD_HANDOVER (R180): A record is handed to the Ledger Unit and enters the pending FIFO, or is
  discarded when it is full. -/
  | ledgerRecordHandover (t : Nat) (r : RecordIn)
  /-- LEDGER_CHAIN (R180): The unit chains the next pending record, giving it SEQ and PREV and exporting it. -/
  | ledgerChain (t : Nat)
  /-- LEDGER_WRITE_DONE (R184): The record and head writes to both MRAM copies complete. -/
  | ledgerWriteDone (t : Nat)
  /-- BATCH_TIMER (R181): 1.0 s after the previous BATCH_SIGN the open batch is closed. -/
  | batchTimer (t : Nat)
  /-- BATCH_SIGN_DONE (R181): The ECDSA signature completes and the BATCH_SIGN record is chained. -/
  | batchSignDone (t : Nat) (ok : Bool)
  /-- ARCHIVE_WRITE (R185): The unit appends a closed batch's entry to the flash archive, erasing old sectors
  as needed. -/
  | archiveWrite (t : Nat) (ok : Bool)
  /-- GNOMI_HELLO (R189): Returns DIE_UID, ledger certificate, next SEQ, head hash and a nonce. -/
  | gnomiHello (t : Nat) (req : MgmtReq)
  /-- GNOMI_OPEN (R190): Verifies an inspector certificate and signature and opens a session. -/
  | gnomiOpen (t : Nat) (req : MgmtReq)
  /-- GNOMI_READ (R191): Returns up to count records held in MRAM from a SEQ. -/
  | gnomiRead (t : Nat) (req : MgmtReq)
  /-- GNOMI_ARCH (R191): Returns up to count records of an archive entry. -/
  | gnomiArch (t : Nat) (req : MgmtReq)
  /-- GNOMI_CLOSE (R190): Closes the Gnomi session. -/
  | gnomiClose (t : Nat) (req : MgmtReq)
  /-- GNOMI_TIMEOUT (R190): A session ends after 60 s without a Gnomi command. -/
  | gnomiTimeout (t : Nat)
  /-- INTERRUPT_ENTRY (R235): A pending enabled line or notice is taken at the next boundary and the handler is
  entered. -/
  | interruptEntry (t : Nat) (c : CoreId)
  /-- TIMER_LINE (R232): CYC reaches TCMP and TIMER lines assert. -/
  | timerLine (t : Nat) (c : CoreId)
  /-- WRITE_BUFFER_DRAIN (R203): The next write-buffer entry starts to drain towards its target. -/
  | writeBufferDrain (t : Nat) (c : CoreId)
  /-- WRITE_BUFFER_ACK (R256): A target acknowledges or errors a drained write. -/
  | writeBufferAck (t : Nat) (c : CoreId) (err : Bool)
  /-- ENG_SWINT (R238): A write to ENG_SWINT sets IPEND bits of SOFT lines. -/
  | engSwint (t : Nat) (m : Master) (c : CoreId) (v : BitVec 32)
  /-- ADD (R247): Dd ← Dd + S. -/
  | add (t : Nat) (c : CoreId) (d : Reg) (x : Src)
  /-- ADDC (R247): Dd ← Dd + S + C. -/
  | addc (t : Nat) (c : CoreId) (d : Reg) (x : Src)
  /-- SUB (R247): Dd ← Dd − S. -/
  | sub (t : Nat) (c : CoreId) (d : Reg) (x : Src)
  /-- SUBB (R247): Dd ← Dd − S − (1 − C). -/
  | subb (t : Nat) (c : CoreId) (d : Reg) (x : Src)
  /-- ADDS (R247): Signed saturating add. -/
  | adds (t : Nat) (c : CoreId) (d : Reg) (x : Src)
  /-- SUBS (R247): Signed saturating subtract. -/
  | subs (t : Nat) (c : CoreId) (d : Reg) (x : Src)
  /-- AND (R247): Dd ← Dd AND S. -/
  | and (t : Nat) (c : CoreId) (d : Reg) (x : Src)
  /-- OR (R247): Dd ← Dd OR S. -/
  | or (t : Nat) (c : CoreId) (d : Reg) (x : Src)
  /-- XOR (R247): Dd ← Dd XOR S. -/
  | xor (t : Nat) (c : CoreId) (d : Reg) (x : Src)
  /-- CMP (R247): Flags of Dd − S. -/
  | cmp (t : Nat) (c : CoreId) (d : Reg) (x : Src)
  /-- TST (R247): Flags of Dd AND S. -/
  | tst (t : Nat) (c : CoreId) (d : Reg) (x : Src)
  /-- MOV (R247): Dd ← S. -/
  | mov (t : Nat) (c : CoreId) (d : Reg) (x : Src)
  /-- SHL (R248): Logical shift left. -/
  | shl (t : Nat) (c : CoreId) (d : Reg) (x : Src)
  /-- SHLS (R251): Saturating shift left. -/
  | shls (t : Nat) (c : CoreId) (d : Reg) (x : Src)
  /-- SHR (R248): Logical shift right. -/
  | shr (t : Nat) (c : CoreId) (d : Reg) (x : Src)
  /-- SAR (R248): Arithmetic shift right. -/
  | sar (t : Nat) (c : CoreId) (d : Reg) (x : Src)
  /-- ROL (R248): Rotate left. -/
  | rol (t : Nat) (c : CoreId) (d : Reg) (x : Src)
  /-- ROR (R248): Rotate right. -/
  | ror (t : Nat) (c : CoreId) (d : Reg) (x : Src)
  /-- MUL (R247): Signed multiply, low 16 bits. -/
  | mul (t : Nat) (c : CoreId) (d : Reg) (x : Src)
  /-- MULU (R247): Unsigned multiply, low 16 bits. -/
  | mulu (t : Nat) (c : CoreId) (d : Reg) (x : Src)
  /-- MULQ (R247): Q15 rounded saturating multiply. -/
  | mulq (t : Nat) (c : CoreId) (d : Reg) (x : Src)
  /-- DIV (R252): Signed divide giving quotient and remainder. -/
  | div (t : Nat) (c : CoreId) (d : Reg) (x : Src)
  /-- DIVU (R252): Unsigned divide. -/
  | divu (t : Nat) (c : CoreId) (d : Reg) (x : Src)
  /-- DIVS (R252): Signed divide with saturated quotient. -/
  | divs (t : Nat) (c : CoreId) (d : Reg) (x : Src)
  /-- REM (R252): Signed remainder. -/
  | rem (t : Nat) (c : CoreId) (d : Reg) (x : Src)
  /-- MAC (R249): Wrapping multiply-accumulate into ACk. -/
  | mac (t : Nat) (c : CoreId) (d : Reg) (ds : Reg) (k : BitVec 1)
  /-- MACS (R249): Saturating multiply-accumulate into ACk. -/
  | macs (t : Nat) (c : CoreId) (d : Reg) (ds : Reg) (k : BitVec 1)
  /-- NEG (R250): Dd ← 0 − Dd. -/
  | neg (t : Nat) (c : CoreId) (d : Reg)
  /-- NEGS (R250): Saturating negate. -/
  | negs (t : Nat) (c : CoreId) (d : Reg)
  /-- ABS (R250): Wrapping absolute value. -/
  | abs (t : Nat) (c : CoreId) (d : Reg)
  /-- ABSS (R250): Saturating absolute value. -/
  | abss (t : Nat) (c : CoreId) (d : Reg)
  /-- NOT (R250): Bitwise complement. -/
  | not (t : Nat) (c : CoreId) (d : Reg)
  /-- CLZ (R250): Count leading zeros. -/
  | clz (t : Nat) (c : CoreId) (d : Reg)
  /-- POPC (R250): Count set bits. -/
  | popc (t : Nat) (c : CoreId) (d : Reg)
  /-- MOV_FROM_ACC (R250): Moves a part of an accumulator into Dd. -/
  | movFromAcc (t : Nat) (c : CoreId) (d : Reg) (k : BitVec 1) (x : AccPart)
  /-- MOV_TO_ACC (R250): Moves Dd into a part of an accumulator. -/
  | movToAcc (t : Nat) (c : CoreId) (d : Reg) (k : BitVec 1) (x : AccPart)
  /-- MOV_FROM_PRED (R250): Moves a half of a predicate into Dd. -/
  | movFromPred (t : Nat) (c : CoreId) (d : Reg) (p : BitVec 2) (h : BitVec 1)
  /-- MOV_TO_PRED (R250): Moves Dd into a half of a predicate. -/
  | movToPred (t : Nat) (c : CoreId) (d : Reg) (p : BitVec 2) (h : BitVec 1)
  /-- MOVI (R251): Loads a sign-extended 6-bit immediate. -/
  | movi (t : Nat) (c : CoreId) (d : Reg) (imm6 : BitVec 6)
  /-- EXT (R251): Extracts a bit field. -/
  | ext (t : Nat) (c : CoreId) (d : Reg) (ds : Reg) (wm1 : BitVec 4) (pos : BitVec 4) (rsv : BitVec 8)
  /-- INS (R251): Inserts a bit field. -/
  | ins (t : Nat) (c : CoreId) (d : Reg) (ds : Reg) (wm1 : BitVec 4) (pos : BitVec 4) (rsv : BitVec 8)
  /-- LD (R254): Loads one word. -/
  | ld (t : Nat) (c : CoreId) (d : Reg) (ea : Ea)
  /-- ST (R254): Stores one word. -/
  | st (t : Nat) (c : CoreId) (r : Reg) (ea : Ea)
  /-- LDP (R254): Loads two words. -/
  | ldp (t : Nat) (c : CoreId) (d : Reg) (ea : Ea)
  /-- STP (R254): Stores two words. -/
  | stp (t : Nat) (c : CoreId) (r : Reg) (ea : Ea)
  /-- LEA (R254): Loads an effective address. -/
  | lea (t : Nat) (c : CoreId) (a : AReg) (rsv : BitVec 1) (ea : Ea)
  /-- VLD (R254): Loads 32 consecutive words into a vector. -/
  | vld (t : Nat) (c : CoreId) (v : Reg) (ea : Ea)
  /-- VST (R254): Stores a vector to 32 consecutive words. -/
  | vst (t : Nat) (c : CoreId) (v : Reg) (ea : Ea)
  /-- VLDS (R259): Strided vector load. -/
  | vlds (t : Nat) (c : CoreId) (v : Reg) (a : AReg) (dm : Reg) (rsv0 : BitVec 3) (rsv1 : BitVec 12)
  /-- VGATH (R259): Predicated vector gather. -/
  | vgath (t : Nat) (c : CoreId) (v : Reg) (a : AReg) (p : BitVec 2) (vi : Reg) (rsv0 : BitVec 3) (rsv1 : BitVec 10)
  /-- VSCAT (R259): Predicated vector scatter. -/
  | vscat (t : Nat) (c : CoreId) (v : Reg) (a : AReg) (p : BitVec 2) (vi : Reg) (rsv0 : BitVec 3) (rsv1 : BitVec 10)
  /-- ADDA (R258): Adds a sign-extended value to an address register. -/
  | adda (t : Nat) (c : CoreId) (a : AReg) (x : AddaSrc)
  /-- MOVA (R258): Moves between address registers, or a word of one and a D register. -/
  | mova (t : Nat) (c : CoreId) (o : MovaOp)
  /-- CMPA (R258): Unsigned 48-bit address compare. -/
  | cmpa (t : Nat) (c : CoreId) (a : AReg) (b : AReg) (rsv : BitVec 1)
  /-- VADD (R260): Lane-wise wrapping add. -/
  | vadd (t : Nat) (c : CoreId) (o : VArg)
  /-- VSUB (R260): Lane-wise wrapping subtract. -/
  | vsub (t : Nat) (c : CoreId) (o : VArg)
  /-- VADDS (R260): Lane-wise saturating add. -/
  | vadds (t : Nat) (c : CoreId) (o : VArg)
  /-- VMUL (R260): Lane-wise multiply. -/
  | vmul (t : Nat) (c : CoreId) (o : VArg)
  /-- VMULQ (R260): Lane-wise Q15 multiply. -/
  | vmulq (t : Nat) (c : CoreId) (o : VArg)
  /-- VMAC (R260): Lane-wise multiply-accumulate. -/
  | vmac (t : Nat) (c : CoreId) (o : VArg)
  /-- VMIN (R260): Lane-wise signed minimum. -/
  | vmin (t : Nat) (c : CoreId) (o : VArg)
  /-- VMAX (R260): Lane-wise signed maximum. -/
  | vmax (t : Nat) (c : CoreId) (o : VArg)
  /-- VAND (R260): Lane-wise AND. -/
  | vand (t : Nat) (c : CoreId) (o : VArg)
  /-- VOR (R260): Lane-wise OR. -/
  | vor (t : Nat) (c : CoreId) (o : VArg)
  /-- VXOR (R260): Lane-wise XOR. -/
  | vxor (t : Nat) (c : CoreId) (o : VArg)
  /-- VSHL (R260): Lane-wise shift left. -/
  | vshl (t : Nat) (c : CoreId) (o : VArg)
  /-- VSHR (R260): Lane-wise logical shift right. -/
  | vshr (t : Nat) (c : CoreId) (o : VArg)
  /-- VSAR (R260): Lane-wise arithmetic shift right. -/
  | vsar (t : Nat) (c : CoreId) (o : VArg)
  /-- VCMP (R260): Lane-wise compare into a predicate. -/
  | vcmp (t : Nat) (c : CoreId) (o : VArg)
  /-- VSEL (R260): Lane-wise select by predicate. -/
  | vsel (t : Nat) (c : CoreId) (o : VArg)
  /-- VRED (R260): Reduces predicated lanes into Dd. -/
  | vred (t : Nat) (c : CoreId) (o : VArg)
  /-- VPERM (R260): Lane permutation. -/
  | vperm (t : Nat) (c : CoreId) (o : VArg)
  /-- VBIN (R260): Histogram binning of lanes. -/
  | vbin (t : Nat) (c : CoreId) (o : VArg)
  /-- QPUSH (R261): Pushes D0–D7 as one flit on a producer port, holding for credit on a WAIT port. -/
  | qpush (t : Nat) (c : CoreId) (p : BitVec 6) (rsv : BitVec 4)
  /-- QPUSHV (R261): Pushes N flits from a vector, all or none. -/
  | qpushv (t : Nat) (c : CoreId) (p : BitVec 6) (v : Reg) (nm1 : BitVec 2) (rsv : BitVec 14)
  /-- QPOP (R261): Pops one flit into D0–D7, holding on an empty WAIT port. -/
  | qpop (t : Nat) (c : CoreId) (p : BitVec 6) (rsv : BitVec 4)
  /-- QPEEK (R261): Reads the head flit without popping it. -/
  | qpeek (t : Nat) (c : CoreId) (p : BitVec 6) (rsv : BitVec 4)
  /-- QCRED (R261): Reads credits or pop-visible flits of a port. -/
  | qcred (t : Nat) (c : CoreId) (p : BitVec 6) (d : Reg)
  /-- QUE_DROP (R294): A write to QUE_DROP discards the poisoned head of a queue. -/
  | queDrop (t : Nat) (m : Master) (die : DieAddr) (v : Word)
  /-- BR (R262): Unconditional short branch. -/
  | br (t : Nat) (c : CoreId) (disp : BitVec 10)
  /-- BCC (R262): Conditional branch. -/
  | bcc (t : Nat) (c : CoreId) (cond : BitVec 4) (disp : Word) (rsv : BitVec 6)
  /-- JMP (R262): Jump to an effective address. -/
  | jmp (t : Nat) (c : CoreId) (ea : Ea) (rsv : BitVec 4)
  /-- LOOP (R262): Decrements Dd and branches while it is nonzero. -/
  | loop (t : Nat) (c : CoreId) (d : Reg) (disp : BitVec 6)
  /-- CALLM (R263): Pushes named registers and the return address and calls. -/
  | callm (t : Nat) (c : CoreId) (mask : Word) (tgt : CallTgt)
  /-- RETM (R263): Restores named registers and PC from a CALLM frame. -/
  | retm (t : Nat) (c : CoreId) (mask : Word) (rsv : BitVec 10)
  /-- TRAP (R227): Checks a gate and enters its target ring with a gate frame. -/
  | trap (t : Nat) (c : CoreId) (n : BitVec 8) (rsv : BitVec 2)
  /-- MFS (R265): Reads a system register. -/
  | mfs (t : Nat) (c : CoreId) (o : SysArg)
  /-- MTS (R265): Writes a system register, including CACHEOP, SNOTE and TCMP. -/
  | mts (t : Nat) (c : CoreId) (o : SysArg)
  /-- NOP (R266): No operation. -/
  | nop (t : Nat) (c : CoreId) (rsv : BitVec 4)
  /-- FENCE (R204): Waits until the write buffer is empty and earlier accesses completed. -/
  | fence (t : Nat) (c : CoreId) (rsv : BitVec 4)
  /-- SYNC (R266): FENCE, then refetches. -/
  | sync (t : Nat) (c : CoreId) (rsv : BitVec 4)
  /-- CHK (R358): FENCE, then takes a lockstep checkpoint once the comparators match. -/
  | chk (t : Nat) (c : CoreId) (rsv : BitVec 4)
  /-- WAIT (R234): Stops issue until an enabled line or notice is pending. -/
  | wait (t : Nat) (c : CoreId) (rsv : BitVec 4)
  /-- GMSET (R266): Sets the global mask. -/
  | gmset (t : Nat) (c : CoreId) (rsv : BitVec 4)
  /-- GMCLR (R266): Clears the global mask outside the double-fault state. -/
  | gmclr (t : Nat) (c : CoreId) (rsv : BitVec 4)
  /-- MPUSW (R340): FENCE, then inverts SW.MPUS to switch protection sets. -/
  | mpusw (t : Nat) (c : CoreId) (rsv : BitVec 4)
  /-- RETE (R222): Returns from an exception, popping a frame when ENEST is above 0. -/
  | rete (t : Nat) (c : CoreId) (rsv : BitVec 4)
  /-- RETG (R228): Returns from a gate frame. -/
  | retg (t : Nat) (c : CoreId) (rsv : BitVec 4)
  /-- DFCLR (R231): Ends the double-fault state. -/
  | dfclr (t : Nat) (c : CoreId) (rsv : BitVec 4)
  /-- SPLIT (R369): Splits the executing switchable locked engine into En.M and En.K. -/
  | split (t : Nat) (c : CoreId) (rsv : BitVec 4)
  /-- JOIN (R370): En.M starts joining its engine, cancelling En.K and copying state into the checker. -/
  | join (t : Nat) (c : CoreId) (rsv : BitVec 4)
  /-- BMOV (R267): Resumable block move. -/
  | bmov (t : Nat) (c : CoreId) (o : BlockArg) (n : Nat)
  /-- BFILL (R267): Resumable block fill. -/
  | bfill (t : Nat) (c : CoreId) (o : BlockArg) (n : Nat)
  /-- BCRC (R268): Resumable block CRC. -/
  | bcrc (t : Nat) (c : CoreId) (o : BlockArg) (n : Nat)
  /-- HBM_REQUEST_SERVED (R305): A waiting HBM request is served in its requester's slot position. -/
  | hbmRequestServed (t : Nat) (stack : BitVec 1) (req : HbmReq)
  /-- MERGE_WRITE (R306): A partial-line write is written merged in the first write slot at least 83 positions
  after its read. -/
  | mergeWrite (t : Nat) (stack : BitVec 1) (req : BitVec 9)
  /-- REFRESH (R307): A refresh is made in every REF position. -/
  | refresh (t : Nat) (stack : BitVec 1)
  /-- SCRUB_READ (R317): The HBM scrubber reads the next line of a lane in an SCRB read slot. -/
  | scrubRead (t : Nat) (stack : BitVec 1) (cls : GErr)
  /-- SCRUB_REWRITE (R317): The scrubber rewrites a corrected line in its write slot. -/
  | scrubRewrite (t : Nat) (stack : BitVec 1)
  /-- POOL_SCRUB (R310): In each reserved die-pool cycle the pool scrubber reads or writes back one codeword. -/
  | poolScrub (t : Nat) (die : DieAddr) (cls : GErr)
  /-- SPAD_WRITEBACK (R311): A corrected scratchpad codeword is written back in the first idle cycle. -/
  | spadWriteback (t : Nat) (c : CoreId)
  /-- HBM_DEAD (R320): Eight consecutive parity errors or lost strobe lock mark a stack dead. -/
  | hbmDead (t : Nat) (stack : BitVec 1) (strobe : Bool)
  /-- HBM_TEMP_READ (R322): Every 1 ms the controller reads a stack's temperature. -/
  | hbmTempRead (t : Nat) (stack : BitVec 1) (celsius : Int)
  /-- HBM_TABLE_SWITCH (R309): At the first slot frame at or after commit the image slot tables replace the
  boot table. -/
  | hbmTableSwitch (t : Nat)
  /-- HBM_TRAINING_END (R450): HBM training and BIST end at start-up. -/
  | hbmTrainingEnd (t : Nat) (stack : BitVec 1) (ok : Bool)
  /-- HBM_INJT_ARM (R319): A Trifle write of HBM_INJT with ARM arms a check-bit injection for the next encode. -/
  | hbmInjtArm (t : Nat) (m : Master) (v : Word)
  /-- DMA_BURST (R344): A DMA channel or Sifter makes a burst, checked by its protection unit. -/
  | dmaBurst (t : Nat) (b : Burst)
  /-- MPU_SYNINFO_CLEAR (R347): Clearing MPU_SYNINFOu.VALID re-arms the syndrome and releases a stopped DMA
  channel. -/
  | mpuSyninfoClear (t : Nat) (m : Master) (addr : Addr) (v : Word)
  /-- SIG_WINDOW_CLOSE (R355): A 64-CK1 signature window closes and the SIG comparator compares. -/
  | sigWindowClose (t : Nat) (e : EngId) (differ : Bool)
  /-- LOCKSTEP_MISMATCH (R357): A comparator mismatch stops both cores and starts the self-test. -/
  | lockstepMismatch (t : Nat) (e : EngId) (comp : BitVec 4) (pc : Addr)
  /-- SELFTEST_END (R362): The self-test ends and the outcome resynchronises or fences the engine. -/
  | selftestEnd (t : Nat) (e : EngId) (passM : Bool) (passK : Bool)
  /-- JOIN_HANDOVER_END (R370): After En.K's buffer drains and state is copied, the engine runs locked again
  with a fresh checkpoint. -/
  | joinHandoverEnd (t : Nat) (e : EngId)
  /-- SPLIT_COMMAND (R371): Owner-authorised management command that resets an engine into split mode. -/
  | splitCommand (t : Nat) (req : MgmtReq)
  /-- JOIN_COMMAND (R371): Owner-authorised management command that resets an engine into locked mode. -/
  | joinCommand (t : Nat) (req : MgmtReq)
  /-- ENGINE_MODE_RESET (R371): Once both write buffers are empty the engine is reset in its new mode. -/
  | engineModeReset (t : Nat) (e : EngId)
  /-- COMPARATOR_TEST_START (R364): Each compute die's LKS starts the comparator tests after link training. -/
  | comparatorTestStart (t : Nat) (die : DieAddr)
  /-- COMPARATOR_TEST_END (R365): The comparator tests end and failing engines become TESTFAIL. -/
  | comparatorTestEnd (t : Nat) (die : DieAddr) (failed : BitVec 32)
  /-- LKS_INJ_ARM (R380): A Trifle write of LKS_INJ with ARM arms a comparator injection. -/
  | lksInjArm (t : Nat) (m : Master) (die : DieAddr) (v : Word)
  /-- TRIFLE_DISAGREE (R376): One Trifle copy disagrees, is removed from the vote and starts self-test and
  resync. -/
  | trifleDisagree (t : Nat) (copies : BitVec 3)
  /-- TRIFLE_SELFTEST_END (R376): A removed copy's logic self-test ends, failing it out with TRF_OUT or passing. -/
  | trifleSelftestEnd (t : Nat) (copy : BitVec 2) (pass : Bool)
  /-- TRIFLE_REJOIN (R376): 4,096 CK4 after the disagreement a passing copy reloads registers and rejoins the
  vote. -/
  | trifleRejoin (t : Nat) (copy : BitVec 2)
  /-- ETH_FRAME_RECEIVE (R519): The MAC receives a whole frame, filters it and passes it to the CVU or mailbox. -/
  | ethFrameReceive (t : Nat) (p1 : Bool) (pos : BitVec 3) (f : EthRx)
  /-- CVU_TIMEOUT (R393): A receive assignment's timer expires, giving TIMEOUT and state INIT. -/
  | cvuTimeout (t : Nat) (p1 : Bool) (a : BitVec 4)
  /-- ROUTE_FLIT_PUSH (R521): The port die pushes the next flit of a delivered message to its destinations once
  credit allows. -/
  | routeFlitPush (t : Nat) (p1 : Bool) (a : BitVec 4)
  /-- CVU_TX_FLIT_POP (R387): A transmit assignment pops a pop-visible flit and, at LAST, forms the header and
  hands the frame to the MAC. -/
  | cvuTxFlitPop (t : Nat) (p1 : Bool) (a : BitVec 4)
  /-- CVU_MBX_START (R523): The CVU starts sending a MGMT mailbox entry once no queue message is in progress. -/
  | cvuMbxStart (t : Nat) (p1 : Bool)
  /-- MAC_TX_START (R520): The MAC starts a handed-over frame at the MAC–PHY boundary after any frame in
  progress and its gap. -/
  | macTxStart (t : Nat) (p1 : Bool) (pos : BitVec 3)
  /-- CVU_CALC_START (R397): Writing CVU_CALCn_CTRL with START loads the profile's initial value. -/
  | cvuCalcStart (t : Nat) (m : Master) (p1 : Bool) (n : BitVec 2) (v : Word)
  /-- CVU_CALC_DATA (R397): A write to CVU_CALCn_DATA folds one word into the channel. -/
  | cvuCalcData (t : Nat) (m : Master) (p1 : Bool) (n : BitVec 2) (v : Word)
  /-- CVU_INJ_ARM (R398): A Trifle write of CVU_INJ with ARM arms a CRC injection. -/
  | cvuInjArm (t : Nat) (m : Master) (p1 : Bool) (v : Word)
  /-- ETH_LINK_DOWN (R544): A port's link goes down and ETH_LINK is raised. -/
  | ethLinkDown (t : Nat) (p1 : Bool) (pos : BitVec 3) (inFrame : Bool)
  /-- ETH_MBXGO (R523): A Trifle write of ETH_MBXGO sends the transmit mailbox entry. -/
  | ethMbxgo (t : Nat) (m : Master) (p1 : Bool) (v : Word)
  /-- ETH_MBXPOP (R539): A Trifle write of ETH_MBXPOP removes words from the receive mailbox. -/
  | ethMbxpop (t : Nat) (m : Master) (p1 : Bool) (v : Word)
  /-- ETH_SACTL_INSTALL (R524): A Trifle write of ETH_SACTL with INSTALL installs a MACsec key. -/
  | ethSactlInstall (t : Nat) (m : Master) (p1 : Bool) (v : Word)
  /-- PLCA_TX_OPPORTUNITY (R527): The 10BASE-T1S port's transmit opportunity comes and it sends up to MAXBC + 1
  frames. -/
  | plcaTxOpportunity (t : Nat) (p1 : Bool)
  /-- T1S_NOBCN (R528): A follower sees no BEACON for 1 ms. -/
  | t1sNobcn (t : Nat) (p1 : Bool)
  /-- T1S_COLLISION (R528): A collision in the device's opportunity retries the frame, discarding it after 16
  cycles. -/
  | t1sCollision (t : Nat) (p1 : Bool)
  /-- CAN_FRAME_RECEIVE (R530): A CAN frame ends, is filtered and routed to its queue or the receive FIFO. -/
  | canFrameReceive (t : Nat) (p1 : Bool) (k : BitVec 1) (f : CanFrame)
  /-- CAN_FIFO_PUSH (R530): A CAN frame waiting in the receive FIFO is pushed once its queue holds credit. -/
  | canFifoPush (t : Nat) (p1 : Bool) (k : BitVec 1)
  /-- CAN_FRAME_TRANSMIT (R530): A controller pops its next CAN message and sends it, retrying after lost
  arbitration. -/
  | canFrameTransmit (t : Nat) (p1 : Bool) (k : BitVec 1) (out : CanOutcome)
  /-- BUSOFF_RECOVERY (R530): After 128 occurrences of 11 recessive bits the controller leaves bus-off. -/
  | busoffRecovery (t : Nat) (p1 : Bool) (k : BitVec 1)
  /-- MS_SPEED_PULSE (R531): A valid MS_SPEED rising edge is counted in MSI_PULSES. -/
  | msSpeedPulse (t : Nat)
  /-- MSI_BYTE_RECEIVE (R531): A byte arrives on MS_DATA into MSI_DRX. -/
  | msiByteReceive (t : Nat) (b : Byte)
  /-- MSI_DTX (R531): A Trifle write of MSI_DTX sends a byte on MS_DATA. -/
  | msiDtx (t : Nat) (m : Master) (v : Word)
  /-- MSI_DRX_REMOVE (R542): A write to MSI_DRX removes the oldest received byte. -/
  | msiDrxRemove (t : Nat) (m : Master) (v : Word)
  /-- CARD_ACTIVATE (R532): CARD_CTRL.ACT runs the ISO/IEC 7816-3 activation. -/
  | cardActivate (t : Nat) (m : Master) (p1 : Bool) (v : Word)
  /-- CARD_DEACTIVATE (R532): CARD_CTRL.DEACT runs deactivation. -/
  | cardDeactivate (t : Nat) (m : Master) (p1 : Bool) (v : Word)
  /-- CARD_TX (R532): A write of CARD_TX sends a character. -/
  | cardTx (t : Nat) (m : Master) (p1 : Bool) (v : Word)
  /-- CARD_RX_REMOVE (R542): A write to CARD_RX removes the oldest received character. -/
  | cardRxRemove (t : Nat) (m : Master) (p1 : Bool) (v : Word)
  /-- CARD_CHAR_RECEIVE (R532): A character arrives from the card. -/
  | cardCharReceive (t : Nat) (p1 : Bool) (b : Byte) (perr : Bool)
  /-- CARD_REMOVAL (R532): DET shows removal and the slot deactivates and counts it. -/
  | cardRemoval (t : Nat) (p1 : Bool)
  /-- SPIU_TX (R533): A Trifle write of SPIU_TXu queues a word for transfer. -/
  | spiuTx (t : Nat) (m : Master) (p1 : Bool) (u : BitVec 1) (v : Word)
  /-- SPIU_RX_REMOVE (R542): A write to SPIU_RXu removes the oldest received word. -/
  | spiuRxRemove (t : Nat) (m : Master) (p1 : Bool) (u : BitVec 1) (v : Word)
  /-- SPIU_CS (R542): A Trifle write of SPIU_CSu drives the chip select. -/
  | spiuCs (t : Nat) (m : Master) (p1 : Bool) (u : BitVec 1) (v : Word)
  /-- SPI_TRANSFER_DONE (R533): An SPI word transfer completes. -/
  | spiTransferDone (t : Nat) (p1 : Bool) (u : BitVec 1) (rx : List Word)
  /-- SPI_AUTO_TRANSFER (R533): At each 125 µs step SPIM1 starts its automatic IMU transfer. -/
  | spiAutoTransfer (t : Nat)
  /-- SPI_AUTO_LATE (R533): An automatic transfer not ended 20,000 CK8 after its instant gives no sample. -/
  | spiAutoLate (t : Nat)
  /-- SPIU_UTX (R535): A Trifle write of SPIU_UTX queues a UART byte. -/
  | spiuUtx (t : Nat) (m : Master) (p1 : Bool) (v : Word)
  /-- SPIU_URX_REMOVE (R542): A write to SPIU_URX removes the oldest received byte. -/
  | spiuUrxRemove (t : Nat) (m : Master) (p1 : Bool) (v : Word)
  /-- UART_RX_BYTE (R535): A UART byte is received. -/
  | uartRxByte (t : Nat) (p1 : Bool) (b : Byte) (err : Bool)
  /-- PPS_OUT_RISE (R537): PPS_OUT rises at each whole second of device time. -/
  | ppsOutRise (t : Nat)
  /-- PPS_OUT_FALL (R537): PPS_OUT falls 100 ms after it rose. -/
  | ppsOutFall (t : Nat)
  /-- FAULT_REPORT (R411): A report is latched and classified as repeat, consequential or reaction. -/
  | faultReport (t : Nat) (other : OtherClass)
  /-- LINE_BREAK (R403): A report line reads an invalid or wrong-parity code and is declared broken. -/
  | lineBreak (t : Nat) (die : DieAddr) (blk : Byte) (src : BitVec 7)
  /-- GRACE_EXPIRY (R417): A grace timer expires and the ESC level is issued. -/
  | graceExpiry (t : Nat)
  /-- CRB_ACK (R417): A Trifle write of CRB_ACK cancels the grace timer of a fault ID. -/
  | crbAck (t : Nat) (m : Master) (v : Word)
  /-- CRB_LATCH_CLEAR (R412): Clearing a CRB_LATCH bit re-arms the source. -/
  | crbLatchClear (t : Nat) (m : Master) (ix : Nat) (v : Word)
  /-- CRB_LOGPOP (R427): A write to CRB_LOGPOP removes the head log entry. -/
  | crbLogpop (t : Nat) (m : Master) (v : Word)
  /-- CRB_INJ_REPORT (R425): CRB_INJC MODE 0 with ARM latches the named source as if reported. -/
  | crbInjReport (t : Nat) (m : Master) (v : Word)
  /-- CRB_INJ_DRY (R425): CRB_INJC MODE 1 with ARM classifies and logs a report without acting. -/
  | crbInjDry (t : Nat) (m : Master) (v : Word)
  /-- CRB_INJ_LINE (R425): CRB_INJC MODE 2 with ARM reads the source's line as 00 for one cycle. -/
  | crbInjLine (t : Nat) (m : Master) (v : Word)
  /-- CRB_INJ_CANCEL (R425): A write of ARM 0 while pending cancels the injection. -/
  | crbInjCancel (t : Nat) (m : Master) (v : Word)
  /-- EOUT_TOGGLE (R420): In the healthy state the EOUT pair inverts every 3,750 CK4. -/
  | eoutToggle (t : Nat)
  /-- EPULSE_END (R421): The 16,500-CK4 EPULSE_N pulse ends. -/
  | epulseEnd (t : Nat)
  /-- EOUT_PIN (R422): An EOUT pad differs from its commanded level for 8 consecutive CK4. -/
  | eoutPin (t : Nat)
  /-- WDT_SERVICE (R432): A CHALLENGE-mode write to WDT_SVC is judged as a valid token, EARLY or TOKEN. -/
  | wdtService (t : Nat) (m : Master) (w : WdtId) (v : Word)
  /-- WDT_CHECKIN (R433): A CHECKIN-mode write to WDT_SVC checks a task in, or is EARLY, DUPLICATE or UNKNOWN. -/
  | wdtCheckin (t : Nat) (m : Master) (w : WdtId) (v : Word)
  /-- WDT_WINDOW_CLOSE (R431): A CHALLENGE period reaches WCLOSE with no valid service: LATE. -/
  | wdtWindowClose (t : Nat) (w : WdtId)
  /-- WDT_PERIOD_END (R431): A CHECKIN period ends, judging missing tasks. -/
  | wdtPeriodEnd (t : Nat) (w : WdtId)
  /-- WDT_WARNING (R436): A watchdog reaches its warning point. -/
  | wdtWarning (t : Nat) (w : WdtId)
  /-- ERASE_BUSY_RISE (R439): Erase-busy rises and eligible Trifle watchdogs freeze. -/
  | eraseBusyRise (t : Nat)
  /-- ERASE_BUSY_FALL (R439): Erase-busy falls and frozen watchdogs run again. -/
  | eraseBusyFall (t : Nat)
  /-- ERASE_CAP (R440): Erase-busy has been high for 250 ms and the NV die aborts the erase. -/
  | eraseCap (t : Nat)
  /-- MODULE_PLACE (R456): Trifle firmware places the engine modules, checking their ranges and seals. -/
  | modulePlace (t : Nat)
  /-- SLOT_CONFIRM (R462): After 60 s in RUN or DEGRADED a TRIAL firmware or image slot becomes CONFIRMED. -/
  | slotConfirm (t : Nat) (k : BitVec 2)
  /-- UPD_BEGIN (R465): Owner-authorised command that opens an update session and erases the slot's sectors. -/
  | updBegin (t : Nat) (req : MgmtReq)
  /-- SECTOR_ERASE_DONE (R465): A flash sector erase of an update completes. -/
  | sectorEraseDone (t : Nat)
  /-- UPD_WRITE (R466): Programs and reads back data words in the slot. -/
  | updWrite (t : Nat) (req : MgmtReq) (ok : Bool)
  /-- UPD_COMMIT (R467): Checks the content hash, marks the slot TRIAL and programs its validity word. -/
  | updCommit (t : Nat) (req : MgmtReq)
  /-- UPD_ABORT (R467): Closes the update session, leaving the slot EMPTY. -/
  | updAbort (t : Nat) (req : MgmtReq)
  /-- GET_CUSTODY (R475): Returns custody status, roots, epoch, firmware counter and DIE_UID. -/
  | getCustody (t : Nat) (req : MgmtReq)
  /-- GET_LCERT (R475): Returns a ledger certificate slot. -/
  | getLcert (t : Nat) (req : MgmtReq)
  /-- ENROL (R476): Enrols the PUF, writes roots and returns the ledger public key. -/
  | enrol (t : Nat) (req : MgmtReq) (otpOk : Bool)
  /-- INSTALL_LCERT (R476): Writes a ledger certificate to the lowest empty slot. -/
  | installLcert (t : Nat) (req : MgmtReq) (otpOk : Bool)
  /-- SET_OWNER (R475): Replaces the owner key. -/
  | setOwner (t : Nat) (req : MgmtReq)
  /-- PROVISION (R476): Programs the PROVISIONED lifecycle word. -/
  | provision (t : Nat) (req : MgmtReq) (otpOk : Bool)
  /-- SEAL (R476): Programs the SEALED lifecycle word. -/
  | sealDevice (t : Nat) (req : MgmtReq) (otpOk : Bool)
  /-- ADVANCE_EPOCH (R475): Raises the OTP seal epoch. -/
  | advanceEpoch (t : Nat) (req : MgmtReq) (otpOk : Bool)
  /-- REVOKE_ROOT (R475): Revokes an authority root. -/
  | revokeRoot (t : Nat) (req : MgmtReq) (otpOk : Bool)
  /-- REENROL (R475): Re-enrols a zeroised device and returns a new ledger public key. -/
  | reenrol (t : Nat) (req : MgmtReq)
  /-- RETIRE (R476): Disables, chains the final records, erases secrets and programs RETIRED. -/
  | retire (t : Nat) (req : MgmtReq) (otpOk : Bool)
  /-- TAMPER_TRIP (R481): A tamper sensor's condition holds for 8 OSC and the sensor trips, recording or
  starting zeroisation. -/
  | tamperTrip (t : Nat) (sensors : BitVec 8)
  /-- ZEROISATION_START (R483): Zeroisation starts when the signature is done or 400,000 OSC have passed. -/
  | zeroisationStart (t : Nat)
  /-- ZEROISATION_END (R483): Zeroisation ends, ZEROISED is reported and a warm reset follows. -/
  | zeroisationEnd (t : Nat)
  /-- TAP_RESET (R487): TRST_N low or Test-Logic-Reset loads IDCODE and closes a debug session. -/
  | tapReset (t : Nat) (trst : Bool)
  /-- BYPASS (R487): JTAG instruction selecting the 1-bit bypass register. -/
  | bypass (t : Nat) (code : BitVec 8)
  /-- IDCODE (R487): JTAG instruction returning 0x1A8C_11D7. -/
  | idcode (t : Nat)
  /-- SAMPLE_PRELOAD (R487): JTAG instruction sampling the boundary register. -/
  | samplePreload (t : Nat) (shifted : List Bool)
  /-- EXTEST (R487): JTAG boundary test, allowed with BOUNDARY in BOOT or LOADED; the Gate holds STOP. -/
  | extest (t : Nat) (shifted : List Bool)
  /-- CLAMP (R487): JTAG CLAMP instruction, allowed as EXTEST. -/
  | clamp (t : Nat)
  /-- HIGHZ (R487): JTAG HIGHZ instruction, allowed as EXTEST. -/
  | highz (t : Nat)
  /-- DBG_NONCE (R489): JTAG instruction reading the debug nonce. -/
  | dbgNonce (t : Nat)
  /-- DBG_TOKEN (R490): A submitted debug token is checked and opens a session or is refused. -/
  | dbgToken (t : Nat) (words : List Word)
  /-- DBG_AP (R488): An Update-DR of DBG_AP makes one access to a die's DBG block. -/
  | dbgAp (t : Nat) (dr : BitVec 40)
  /-- DBG_CTRL_OPEN (R490): In MANUFACTURE DBG_CTRL.OPEN opens a session with every right. -/
  | dbgCtrlOpen (t : Nat)
  /-- DBG_CTRL_CLOSE (R491): DBG_CTRL.CLOSE closes the session and resumes halted cores. -/
  | dbgCtrlClose (t : Nat)
  /-- DEBUG_HALT (R372): DBG_HALT.HALT requests a halt taken at the next instruction boundary. -/
  | debugHalt (t : Nat) (die : DieAddr) (slot : BitVec 5) (core : BitVec 1)
  /-- DEBUG_STEP (R372): DBG_HALT.STEP executes one instruction of a halted core. -/
  | debugStep (t : Nat) (die : DieAddr) (slot : BitVec 5) (core : BitVec 1)
  /-- DEBUG_RESUME (R372): DBG_HALT.RESUME resumes a halted core. -/
  | debugResume (t : Nat) (die : DieAddr) (slot : BitVec 5) (core : BitVec 1)
  /-- DBG_MEMORY_ACCESS (R492): A read or write of DBG_MDATA makes one debug memory access. -/
  | dbgMemoryAccess (t : Nat) (wr : Bool) (v : Word)
  /-- DBG_REGISTER_ACCESS (R373): A read or write of DBG_RDATA accesses a halted core's register, replayed into
  the checker. -/
  | dbgRegisterAccess (t : Nat) (die : DieAddr) (wr : Bool) (v : Word)
  /-- BBX_ENTRY_REQUEST (R506): A biscuit tin entry is requested into the BBX FIFO, or discarded when full. -/
  | bbxEntryRequest (t : Nat) (kind : Byte) (body : List Word)
  /-- BBX_ENTRY_WRITE (R506): The BBX unit writes the next FIFO entry to copy A then copy B. -/
  | bbxEntryWrite (t : Nat)
  /-- BBX_SCAN_END (R507): The boot scan of both biscuit tin copies completes and READY is set. -/
  | bbxScanEnd (t : Nat)
  /-- BBX_FWDATA (R512): A Trifle write of the last BBX_FWDATA word requests a FIRMWARE entry. -/
  | bbxFwdata (t : Nat) (m : Master) (v : Word)
  /-- FIELD_RECORD_WRITE (R510): Every 0.1 h of operating time the field record is written to both MRAM copies. -/
  | fieldRecordWrite (t : Nat)
  /-- TEMP_SAMPLE (R511): Each second every die's junction temperature is sampled into its bin. -/
  | tempSample (t : Nat) (celsius : List Int)
  /-- GET_BBX (R513): Returns up to 16 held biscuit tin entries from an ESEQ. -/
  | getBbx (t : Nat) (req : MgmtReq)
  /-- GET_FIELD (R513): Returns live field record words. -/
  | getField (t : Nat) (req : MgmtReq)
  /-- RAIL_EXCURSION (R546): A rail leaves its operating limits and the excursion is counted once. -/
  | railExcursion (t : Nat) (rail : BitVec 4) (high : Bool)
  /-- ILLEGAL_OPCODE (R241): An instruction word with an undefined major opcode or an undefined minor, aop,
  vop, sub, op or mode value issues and raises ILLEGAL_OPCODE precisely. -/
  | illegalOpcode (t : Nat) (c : CoreId) (word : Word)
  /-- ETH_LINK_UP (R539): An Ethernet port's link comes up, ETH_PSTATp.LINK becomes 1 and handed-over frames
  are sent rather than discarded. -/
  | ethLinkUp (t : Nat) (p1 : Bool) (pos : BitVec 3)
  /-- CARD_INSERTION (R532): DET shows a card inserted in a slot and CARD_STATUS.PRESENT becomes 1. -/
  | cardInsertion (t : Nat) (p1 : Bool)
  /-- MONITOR_PULSE_END (R54): The 2,200-OSC EPULSE_N pulse of a monitor trip or tamper sequence ends and the
  pin is released. -/
  | monitorPulseEnd (t : Nat)
  /-- VHOLD_COLLAPSE (R187): The hold-up supply collapses before the power-loss flush ends, leaving the copy
  being written with a bad CRC and the device unpowered. -/
  | vholdCollapse (t : Nat)
  /-- RESET_N_RELEASE (R447): RESET_N returns high after a warm reset request, ending the reset that the held-
  low pin prolonged and issuing the fresh first alignment marker. -/
  | resetNRelease (t : Nat)
  /-- BEACON_RECEIVE (R528): A PLCA BEACON arrives on the 10BASE-T1S segment, letting a follower send again or
  showing a coordinator a duplicate node ID. -/
  | beaconReceive (t : Nat) (p1 : Bool)
deriving DecidableEq, Repr

end Sys2Proof
end

