-- ==== Sys2Proof/Config.lean ====
section
/-!
DEFINITION. What the manual leaves to each part or leaves open: constants with no body, so that no
proof can rest on a value of them.
-/

namespace Sys2Proof.Config

/-- DIE_UID of the die with this ring address, set in manufacture (R35). -/
opaque dieUid : Nat → BitVec 64

/-- The vendor root in the boot ROM, a P-256 public key (R473, R474): X and Y. -/
opaque vendorRoot : W256 × W256

/-- The scalar that HKDF derives as the ledger key from the device key of the n-th PUF enrolment
(R474). -/
opaque ledgerKey : Nat → W256

/-- Free 64-bit values: nonces (R96, R190, R489), by the draw. -/
opaque freeNonce : Nat → BitVec 64

/-- Free words: values that the manual leaves open or that pins decide, by the draw. -/
opaque freeWord : Nat → Word

/-- Free words of a whole range that is left undefined: by the draw and the place in the range. -/
opaque freeCell : Nat → Nat → Word

/-- The registers that a section body lays out, which R71 leaves to other chapters and none gives: section
type and body to CSR keys and words. -/
opaque sectionRegs : Nat → List Word → List (Nat × Word)

/-- The marks of a DIES body, bit d 1 where die d is REQUIRED; none where a field holds a reserved value
(R32, R71; the layout is not given). -/
opaque diesMarks : List Word → Option (BitVec 8)

end Sys2Proof.Config
end

