-- ==== Sys2Proof/Machine/RegTab.lean ====
section
/-!
DEFINITION. The register tables of the manual as one table: for each block of each die, the words
that are assigned, the fields they belong to, their access types and their reset values (R6, R10,
R43 and the register rule of each chapter).
-/

namespace Sys2Proof.Machine

/-- A register, or a run of like registers: the first offset, the distance between two of the run,
their number, the words of the field, and over the whole field the bits of each access type and the
reset value. Bits in none of the masks are RO or reserved (R6, R7). -/
structure Row where
  lo : Nat
  stride : Nat
  cnt : Nat
  words : Nat
  rwl : Nat
  rw : Nat
  w1c : Nat
  wo : Nat
  reset : Nat
deriving DecidableEq, Repr

/-- A read-only register of `w` words. -/
def Row.ro (lo : Nat) (w : Nat := 1) : Row := ⟨lo, w, 1, w, 0, 0, 0, 0, 0⟩
/-- An RW-L register: bits and reset value (R6). -/
def Row.l (lo mask : Nat) (reset : Nat := 0) (w : Nat := 1) : Row := ⟨lo, w, 1, w, mask, 0, 0, 0, reset⟩
/-- An RW register. -/
def Row.rw' (lo mask : Nat) (reset : Nat := 0) (w : Nat := 1) : Row := ⟨lo, w, 1, w, 0, mask, 0, 0, reset⟩
/-- A register with W1C bits beside its read-only ones. -/
def Row.c (lo mask : Nat) : Row := ⟨lo, 1, 1, 1, 0, 0, mask, 0, 0⟩
/-- A write-only register. -/
def Row.w (lo mask : Nat) (w : Nat := 1) : Row := ⟨lo, w, 1, w, 0, 0, 0, mask, 0⟩
/-- A run of `cnt` registers `stride` apart. -/
def Row.run (r : Row) (stride cnt : Nat) : Row := { r with stride := stride, cnt := cnt }

/-- The run covers this offset. -/
def Row.has (r : Row) (off : Nat) : Bool :=
  decide (r.lo ≤ off) && decide ((off - r.lo) / r.stride < r.cnt) &&
    decide ((off - r.lo) % r.stride < r.words)

/-- The word of the field that the offset names. -/
def Row.word (r : Row) (off : Nat) : Nat := (off - r.lo) % r.stride

/-- The offset of the lowest word of the field. -/
def Row.base (r : Row) (off : Nat) : Nat := off - r.word off

/-- Every bit a write can change or act on. -/
def Row.writable (r : Row) : Nat := r.rwl ||| r.rw ||| r.w1c ||| r.wo

/-- The field holds RW-L bits and no other writable bits (R567). -/
def Row.onlyRwl (r : Row) : Bool := r.rwl != 0 && (r.rw ||| r.w1c ||| r.wo) == 0

/-- A status word at offset 0 whose bit 15 is the block's sticky RSVD (R8). -/
def rsvdWord : Row := Row.c 0 0x8000

/-- All ones over `w` words. -/
def onesW (w : Nat) : Nat := 2 ^ (16 * w) - 1

/-- DIE block (R34 to R38): `links` is the number of DIE_LINKn the die has (R19). -/
def dieRows (hub : Bool) (links : Nat) : List Row :=
  [Row.ro 0, Row.ro 1 4, Row.c 5 0x8000, (Row.ro 0x10).run 1 links] ++
  (if hub then [Row.ro 0x20, Row.ro 0x21, Row.w 0x22 0x7, Row.ro 0x23] else [])

/-- CLK block (R61 to R64): the gateable bits and the reset value of CLK_EN. -/
def clkRows (hub : Bool) (gate reset : Nat) : List Row :=
  [rsvdWord, Row.l 1 gate reset 2, Row.ro 4 4] ++
  (if hub then [(Row.ro 0x10).run 1 3] else [])

/-- CFG block (R88 to R90, R469). -/
def cfgRows : List Row :=
  [⟨0, 1, 1, 1, 0, 0x4, 0, 0x3, 0⟩, Row.c 1 0x8000, (Row.ro 2).run 1 2, Row.ro 4 2,
   (Row.ro 6).run 1 2, Row.ro 0x10 2, Row.ro 0x12 2, Row.ro 0x20 16, (Row.ro 0x30).run 1 7]

/-- CRB block (R379, R427). -/
def crbRows : List Row :=
  [Row.l 0 0x7 4, Row.l 1 0x1FFF, Row.c 2 0x8000, Row.rw' 3 0x1, Row.ro 4 2, (Row.ro 6).run 1 2,
   Row.w 8 0xFFFF, Row.rw' 9 0xFFFF, Row.rw' 0xA 0x8003, Row.ro 0x10, Row.c 0x11 0x8000,
   Row.ro 0x12 2, Row.ro 0x20 4, Row.ro 0x24, Row.w 0x25 0xFFFF, Row.ro 0x30 2,
   (Row.ro 0x40).run 1 32, (Row.ro 0x61).run 1 4, (Row.ro 0xF00).run 1 4,
   (Row.c 0x1000 0xFFFF).run 1 4096,
   (Row.l 0x4000 0xFFFF).run 4 2048, (Row.l 0x4001 0x7F 7).run 4 2048,
   (Row.l 0x4002 0xFFFF).run 4 2048, (Row.l 0x4003 0xFFFF).run 4 2048]

/-- The watchdogs of a run: first base, distance and number, and the resets of R445 for MODE, PERIOD
and WCLOSE. -/
def wdtRun (b step n mode period wclose : Nat) : List Row :=
  [Row.l b 0x7 mode, Row.l (b + 1) 0xFFFF period, Row.l (b + 2) 0xFFFF, Row.l (b + 3) 0xFFFF wclose,
   Row.l (b + 4) 0xFFFF, Row.l (b + 5) 0xFFFF, Row.w (b + 6) 0xFFFF, Row.ro (b + 7),
   Row.c (b + 8) 0x8000, Row.ro (b + 9), Row.ro (b + 10), Row.ro (b + 11)].map (fun r => r.run step n)

/-- WDT block (R444, R445). -/
def wdtRows (hub : Bool) : List Row :=
  if hub then
    [rsvdWord, Row.l 1 0x3 3, (Row.ro 2).run 1 3] ++ wdtRun 0x200 0x10 2 1 65535 65535
  else rsvdWord :: wdtRun 0x200 0x10 32 0 0 0 ++ wdtRun 0x400 0x10 32 0 0 0

/-- HBM block (R323, R302). -/
def hbmRows : List Row :=
  [Row.l 0 0x3, Row.c 1 0x8000, (Row.ro 2).run 1 6, Row.ro 8 3, Row.c 0xB 0x8000, Row.ro 0xC,
   Row.ro 0x10 2, Row.ro 0x12 2, (Row.ro 0x14).run 1 2, Row.rw' 0x20 0xFFFF, Row.rw' 0x21 0xFFFF,
   (Row.l 0x4000 0xFFF).run 1 16384]

/-- One Sifter's registers from base b (R139, R140). -/
def sftRows (b : Nat) : List Row :=
  [Row.l b 0x1F, if b = 0 then Row.c 1 0x8000 else Row.ro (b + 1), Row.l (b + 2) 0xFFFF,
   (Row.l (b + 4) 0xFFFF).run 1 4, (Row.l (b + 8) 0xFFFF).run 1 4, Row.ro (b + 0x10) 2,
   (Row.ro (b + 0x12)).run 1 10, (Row.l (b + 0x40) 0xFFFF).run 1 192]

/-- LAT block (R141). -/
def latRows : List Row :=
  [Row.l 0 0x3FF 100, Row.c 1 0x8000, Row.l 2 (onesW 3) 0 3, Row.l 5 (onesW 3) 0 3,
   Row.l 8 (onesW 2) 0 2, (Row.l 0xA 0x1FFF).run 1 3, Row.ro 0x10 2, Row.ro 0x12, Row.ro 0x13 3,
   Row.ro 0x16, Row.l 0x18 0x3, Row.ro 0x19, Row.ro 0x1A 2]

/-- VDG block (R163). -/
def vdgRows : List Row :=
  [Row.l 0 0x7, Row.c 1 0x8000, Row.l 2 0xFFFF, (Row.l 4 0xFF7F).run 1 3, (Row.l 8 0x7F).run 1 2,
   Row.ro 0x10 2, (Row.ro 0x12).run 1 9, (Row.ro 0x20).run 1 3]

/-- LDG block (R197). -/
def ldgRows : List Row :=
  [Row.l 0 0x1, Row.c 1 0x8000, Row.ro 2 4, (Row.ro 6).run 1 3, Row.l 9 0x3F,
   Row.l 0xA (onesW 3) 0 3, Row.l 0xD (onesW 2) 0 2, Row.ro 0x10 16]

/-- POS block (R195). -/
def posRows : List Row :=
  [Row.l 0 0x7, Row.c 1 0x8000, Row.l 2 0xFFFF, Row.l 3 0x7 2, Row.l 4 0xF, Row.ro 0x10 2,
   Row.ro 0x12 2, (Row.ro 0x14).run 1 2, Row.ro 0x16 2, Row.ro 0x18 3]

/-- CUS block (R496). -/
def cusRows : List Row :=
  [Row.c 0 0x8000, Row.ro 1, Row.ro 2 2, Row.ro 4 2, Row.l 0x10 0xFF, Row.l 0x11 0xFF 0x21,
   Row.c 0x12 0x8000, Row.ro 0x13 5, Row.ro 0x18, Row.l 0x20 0x7,
   (Row.l 0x30 (onesW 3) 0 3).run 6 8, (Row.l 0x33 (onesW 2) 0 2).run 6 8, (Row.l 0x35 0x3FF).run 6 8]

/-- BBX/FLD block (R515): FLD_WIN captures 32-bit counters of the layout of R510. -/
def bbxRows : List Row :=
  [Row.c 0 0x8000, Row.l 1 0x3F, Row.ro 2 2, (Row.ro 4).run 1 3, (Row.w 0x10 0xFFFF).run 1 16,
   Row.rw' 0x20 0x3FF, Row.ro 0x21, (Row.ro 0x400).run 1 2, (Row.ro 0x402 2).run 2 6,
   (Row.ro 0x40E).run 1 2, (Row.ro 0x410 2).run 2 128, (Row.ro 0x510).run 1 32,
   (Row.ro 0x530 2).run 2 20, (Row.ro 0x558).run 1 294, Row.ro 0x67E 2]

/-- DBG block (R498). -/
def dbgRows (hub compute : Bool) : List Row :=
  [Row.c 0 0x8006] ++
  (if hub then [Row.w 1 0x3, Row.ro 2 2, (Row.ro 4).run 1 3, Row.rw' 0x10 (onesW 3) 0 3,
    Row.rw' 0x13 0xFFFF, Row.rw' 0x14 0xFFF] else []) ++
  (if compute then [Row.rw' 0x10 0xFF, Row.rw' 0x11 0x3FF, Row.rw' 0x12 0xFFFF,
    (Row.w 0x100 0x7).run 1 64, (Row.ro 0x180).run 1 64] else [])

/-- The 2 × 16 regions of a protection unit from base b (R346). -/
def regionRows (b : Nat) : List Row :=
  [(Row.l b (onesW 3) 0 3).run 6 32, (Row.l (b + 3) (onesW 2) 0 2).run 6 32, (Row.l (b + 5) 0xFFF).run 6 32]

/-- The engine control block of one core from base b (R238, R346, R499). -/
def engCoreRows (b : Nat) : List Row :=
  [Row.c b 0x8010, Row.l (b + 1) (onesW 3) 0 3, (Row.ro (b + 4)).run 1 2, Row.w (b + 6) (onesW 2) 2,
   (Row.l (b + 0x10) 0x7FF).run 1 32, (Row.rw' (b + 0x30) (onesW 3) 0 3).run 4 4,
   (Row.rw' (b + 0x33) 0x3).run 4 4] ++ regionRows (b + 0x40)

/-- QUE block: queue count n (R273, R281, R297). -/
def queRows (n : Nat) (compute : Bool) : List Row :=
  [rsvdWord, (Row.ro 1).run 1 4, Row.w 5 0x1FF, (Row.l 0x400 0x7FF).run 1 n, (Row.ro 0x800).run 1 n] ++
  (if compute then [(Row.l 0x1000 0x7FFF).run 1 4096, (Row.c 0x2000 0x8000).run 1 64] else [])

/-- MPU block with u units (R347). -/
def mpuRows (u : Nat) : List Row :=
  [rsvdWord, (Row.l 8 0xFF 0x2A).run 1 2, (Row.l 0xA 0xFF 0x0A).run 1 4, (Row.l 0xE 0xFF 0x2A).run 1 2] ++
  (List.range u).flatMap (fun k =>
    [⟨0x100 + 0x100 * k, 1, 1, 1, 0x3, 0x4, 0, 0, 0⟩, Row.ro (0x101 + 0x100 * k) 3,
     Row.c (0x104 + 0x100 * k) 0x8000, Row.ro (0x105 + 0x100 * k)] ++ regionRows (0x140 + 0x100 * k))

/-- LKS block (R380). -/
def lksRows : List Row :=
  [rsvdWord, Row.ro 1 2, Row.rw' 3 0x807F, (Row.l 0x100 0x3).run 0x10 32, (Row.ro 0x101).run 0x10 32,
   (Row.c 0x102 0x8000).run 0x10 32, (Row.ro 0x103).run 0x10 32, (Row.ro 0x104).run 0x10 32,
   (Row.ro 0x105).run 0x10 32, (Row.ro 0x106 3).run 0x10 32, (Row.ro 0x109 3).run 0x10 32]

/-- ETH registers of a position from base b (R539). -/
def ethPortRows (b : Nat) : List Row :=
  [Row.l b 0x7F, Row.l (b + 1) (onesW 3) 0 3, Row.l (b + 4) (onesW 3) 0 3, (Row.l (b + 7) 0x1FFF).run 1 4,
   (Row.ro (b + 0xB)).run 1 6, Row.ro (b + 0x11) 2, Row.ro (b + 0x13) 2]

/-- ETH block (R539). -/
def ethRows : List Row :=
  [rsvdWord, (Row.ro 1).run 1 2, Row.w 3 0xFFFF, Row.w 4 0x1, (Row.ro 5).run 1 2, Row.w 7 0xFFF,
   (Row.ro 0x1000).run 1 2048] ++ ethPortRows 0x100 ++ ethPortRows 0x120 ++ ethPortRows 0x180 ++
  ethPortRows 0x1A0 ++
  [Row.w 0x200 (onesW 16) 16, Row.w 0x210 0xF, Row.rw' 0x211 0x3, Row.ro 0x212 2,
   Row.l 0x214 (onesW 4) 0 4, (Row.l 0x300 0x1F).run 4 16, (Row.l 0x301 0x1FFF).run 4 16,
   (Row.l 0x302 0x1FFF).run 4 16, (Row.l 0x303 0x1FFF).run 4 16, (Row.l 0x400 (onesW 3) 0 3).run 4 16,
   (Row.l 0x403 0xFFFF).run 4 16]

/-- T1S block (R540). -/
def t1sRows : List Row :=
  [rsvdWord, Row.l 1 0x1FF, Row.l 2 0xFFF 8, Row.l 3 0xFFFF 0x8020, (Row.ro 4).run 1 3]

/-- CANX registers of controller k (R541). -/
def canRows (k : Nat) : List Row :=
  [Row.l (0x100 + 0x100 * k) 0x1F, (Row.l (0x101 + 0x100 * k) 0x3FF 1).run 3 3,
   (Row.l (0x102 + 0x100 * k) 0x7FFF).run 3 3, (Row.l (0x103 + 0x100 * k) 0x7F).run 3 3,
   Row.l (0x10A + 0x100 * k) 0xFFF, Row.l (0x10B + 0x100 * k) 0x1F, (Row.ro (0x110 + 0x100 * k)).run 1 6,
   (Row.l (0x400 + 0x100 * k) 0x1FFFFFFF 0 2).run 8 16, (Row.l (0x402 + 0x100 * k) 0x1FFFFFFF 0 2).run 8 16,
   (Row.l (0x404 + 0x100 * k) 0x7).run 8 16, (Row.l (0x405 + 0x100 * k) 0xFFF).run 8 16]

/-- MSI block, P0 only (R542). -/
def msiRows : List Row :=
  [rsvdWord, Row.ro 1 2, Row.w 3 0xFF, Row.w 4 0xFF, Row.l 5 0xFFFF, Row.ro 6]

/-- CARD block (R542). -/
def cardRows : List Row :=
  [rsvdWord, Row.ro 1, ⟨2, 1, 1, 1, 0, 0x4, 0, 0x3, 0⟩, Row.rw' 3 0x1FF 375, Row.rw' 4 0xFFF 372,
   Row.rw' 5 0xFF, Row.w 6 0xFF, Row.w 7 0xFF, Row.ro 8]

/-- SPIU block of P0 or P1 (R517, R542). -/
def spiuRows (p1 : Bool) : List Row :=
  [rsvdWord] ++
  (List.range (if p1 then 2 else 1)).flatMap (fun u =>
    [Row.l (0x100 + 0x40 * u) 0x7, Row.l (0x101 + 0x40 * u) 0xFF 4, Row.w (0x102 + 0x40 * u) 0xFFFF,
     Row.w (0x103 + 0x40 * u) 0xFFFF, Row.ro (0x104 + 0x40 * u), Row.rw' (0x105 + 0x40 * u) 0x1]) ++
  (if p1 then [Row.l 0x180 0x7, (Row.l 0x181 0xFFFF).run 1 4, Row.ro 0x185] else []) ++
  [Row.l 0x300 0x3, Row.l 0x301 0xFFFF 407, Row.w 0x302 0xFF, Row.w 0x303 0xFF, Row.l 0x380 0xFF,
   Row.rw' 0x381 0xFF, Row.ro 0x382]

/-- CVU block (R399). -/
def cvuRows : List Row :=
  [rsvdWord, (Row.ro 1).run 1 2, Row.rw' 8 0x801F, Row.rw' 9 (onesW 2) 0 2,
   (Row.l 0x100 0x3FF).run 0x10 16, (Row.l 0x101 0xFFFF).run 0x10 16, (Row.l 0x102 0xFFFF).run 0x10 16,
   (Row.ro 0x103).run 0x10 16, (Row.ro 0x104).run 0x10 16, (Row.ro 0x105).run 0x10 16,
   (Row.ro 0x106).run 0x10 16, (Row.ro 0x107).run 0x10 16, (Row.ro 0x108).run 0x10 16,
   (Row.ro 0x109).run 0x10 16, (Row.ro 0x10A).run 0x10 16,
   (Row.l 0x300 0x7FF).run 8 16, (Row.l 0x301 0xFFFF).run 8 16, (Row.ro 0x302).run 8 16,
   (Row.ro 0x303).run 8 16, (Row.ro 0x304).run 8 16,
   (⟨0x500, 8, 4, 1, 0, 0xB, 0, 0x4, 0⟩ : Row), (Row.w 0x501 0xFFFF).run 8 4,
   (Row.rw' 0x502 (onesW 2) 0 2).run 8 4, (Row.ro 0x504 2).run 8 4]

/-- TIME block of the hub (R193). -/
def timeHubRows : List Row :=
  [Row.l 0 0x3F, Row.c 1 0x8000, Row.ro 2 5, Row.rw' 8 (onesW 2) 0 2, Row.w 0xA (onesW 5) 5, Row.ro 0x10 2,
   Row.w 0x12 (onesW 2) 2, Row.ro 0x14 5, Row.rw' 0x19 0xFFFF 37]

/-- TIME block of a port die (R543). -/
def timePortRows : List Row :=
  [rsvdWord] ++ [0x10, 0x18, 0x30, 0x38].flatMap (fun b => [Row.ro b 5, Row.c (b + 5) 0x8000])

/-- A compute die (R22). -/
def isCompute (die : Nat) : Bool := decide (1 ≤ die) && decide (die ≤ 4)

/-- A port die (R22). -/
def isPort (die : Nat) : Bool := die == 5 || die == 6

/-- The queues of a die (R273). -/
def queueCount (die : Nat) : Nat :=
  if isCompute die then 448 else if die = 0 then 192 else if isPort die then 32 else 0

/-- The rows of a block of a die, or none where the block is not present there (R43). -/
def blockRows (die blk : Nat) : Option (List Row) :=
  let hub := die == 0
  let cmp := isCompute die
  let prt := isPort die
  match blk with
  | 0x00 => some (dieRows hub (if hub then 7 else if cmp then 2 else 1))
  | 0x01 => some (if hub then clkRows true 0x20 0x07FF else if cmp then clkRows false 0xFFFF 0x3FFFFF
      else if prt then clkRows false 0x2 0x3 else clkRows false 0 1)
  | 0x02 => if hub then some cfgRows else none
  | 0x03 => if hub then some crbRows else none
  | 0x04 => if hub || cmp then some (wdtRows hub) else none
  | 0x05 => if hub then some hbmRows else none
  | 0x06 => if hub then some (sftRows 0 ++ sftRows 0x100) else none
  | 0x07 => if hub then some latRows else none
  | 0x08 => if hub then some vdgRows else none
  | 0x09 => if hub then some ldgRows else none
  | 0x0A => if hub then some posRows else none
  | 0x0B => if hub then some cusRows else none
  | 0x0C => if hub then some bbxRows else none
  | 0x0D => some (dbgRows hub cmp)
  | 0x30 => if hub || cmp || prt then some (queRows (queueCount die) cmp) else none
  | 0x31 => if hub || prt then some (mpuRows 2) else if cmp then some (mpuRows 4) else none
  | 0x32 => if cmp then some lksRows else none
  | 0x40 => if prt then some ethRows else none
  | 0x41 => if prt then some t1sRows else none
  | 0x42 => if prt then some (rsvdWord :: canRows 0 ++ canRows 1) else none
  | 0x43 => if die = 5 then some msiRows else none
  | 0x44 => if prt then some cardRows else none
  | 0x45 => if prt then some (spiuRows (die == 6)) else none
  | 0x46 => if prt then some cvuRows else none
  | 0x47 => if hub then some timeHubRows else if prt then some timePortRows else none
  | _ => if cmp && decide (0x10 ≤ blk) && decide (blk ≤ 0x2F) then
      some (engCoreRows 0 ++ engCoreRows 0x100) else none

/-- The register that an offset of a block of a die names, or none where it is not assigned (R9). -/
def regAt (die blk off : Nat) : Option Row :=
  (blockRows die blk).bind (fun rs => rs.find? (fun r => r.has off))

/-- The offset of the status word that holds the sticky RSVD bit of a block (R8): offset 0 where the
block has no other; DIE_STATUS, CFG_STATUS, the status words at offset 1 of SFT, LAT, VDG, LDG, POS
and TIME of the hub, HBM_STATUS, CRB_STATUS. -/
def rsvdOffset (die blk : Nat) : Nat :=
  if blk = 0x00 then 5 else if blk = 0x02 then 1 else if blk = 0x03 then 2 else if blk = 0x05 then 1
  else if blk = 0x06 then 1 else if blk = 0x07 then 1 else if blk = 0x08 then 1 else if blk = 0x09 then 1
  else if blk = 0x0A then 1 else if blk = 0x47 && die = 0 then 1 else 0

/-- The key of a CSR word: die, block and offset as the low 27 bits of its address (R43). -/
def csrKey (die blk off : Nat) : Nat := die * 0x1000000 + blk * 0x10000 + off

end Sys2Proof.Machine
end

