-- ==== Sys2Proof/Machine/Reserved.lean ====
section
/-!
DEFINITION. The reserved encodings of every register (R8), over the whole value of the field being
written. A combination of two fields counts only where both stand in one word (R568).
-/

namespace Sys2Proof.Machine

/-- Bits hi:lo of a number. -/
def bits (v hi lo : Nat) : Nat := v / 2 ^ lo % 2 ^ (hi + 1 - lo)

/-- Bit i of a number. -/
def bit (v i : Nat) : Bool := v / 2 ^ i % 2 == 1

/-- Region words (R346), by offset within the unit's regions: BASE not on a granule, or a ring field
of 4 to 6. -/
def rsvRegion (w v : Nat) : Bool :=
  if w = 0 then bits v 7 0 != 0
  else if w = 5 then
    [bits v 2 0, bits v 5 3, bits v 8 6].any (fun f => decide (4 ≤ f) && decide (f ≤ 6))
  else false

/-- An HBM slot entry at position p (R302, R303). -/
def rsvSlot (p v : Nat) : Bool :=
  let req := bits v 8 0
  let kind := bits v 11 10
  kind == 3 ||
  ((kind == 0 || kind == 2) && bits v 9 0 != 0) ||
  (kind == 1 &&
    !(decide (req < 0x108) || (decide (0x110 ≤ req) && decide (req < 0x120)) ||
      (decide (0x120 ≤ req) && decide (req < 0x124)))) ||
  (kind == 1 && req == 0x105 && decide (p % 32 < 26))

/-- HBM_INJT (R323). -/
def rsvInjt (v : Nat) : Bool :=
  let c := bits v 3 0
  let d := bits v 6 4
  let e := bits v 13 7
  decide (7 ≤ c) ||
  ((c == 0 || c == 1) && d != 0) ||
  ((c == 2 || c == 3) && !(decide (1 ≤ d) && decide (d ≤ 4))) ||
  (c == 4 && d == 7) ||
  ((c == 5 || c == 6) && d != 7) ||
  (c != 3 && (e != 0 || bit v 14))

/-- Word 1 of a reaction map entry (R405). -/
def rsvMap1 (v : Nat) : Bool :=
  let l := bits v 2 0
  let esc := bits v 5 3
  l == 6 ||
  (l == 2 && !(decide (3 ≤ esc) && decide (esc ≤ 5))) ||
  (l != 2 && esc != 0) ||
  (bit v 6 && !(l == 3 || (l == 2 && esc == 3)))

/-- DBG_RSEL.REG (R498). -/
def rsvRsel (r : Nat) : Bool :=
  !(decide (r < 0x100) || (decide (0x100 ≤ r) && decide (r < 0x11F)) || decide (0x200 ≤ r))

/-- The line test modes that the standards lack (R539): positions 0 and 1 and position 4 lack test
mode 3, position 5 has modes 1 to 4. PRESUMED from the standards (assumption 12). -/
def rsvTest (p t : Nat) : Bool := if p = 5 then decide (4 < t) else t == 3

/-- A value that is a reserved encoding for the register at this base offset (R8). ATTACH of the CRC channels 2 and
3, of which R399 says that it must be 0 and no more, is taken for one (DESIGN CHOICE, assumption 120). -/
def reservedEnc (die blk base v : Nat) : Bool :=
  match blk with
  | 0x00 => base == 0x22 && (bits v 2 0 == 0 || bits v 2 0 == 7)
  | 0x03 =>
    (base == 0 && [2, 3, 6, 7].contains (bits v 2 0)) ||
    (base == 0xA && bits v 1 0 == 3) ||
    (decide (0x4000 ≤ base) && base % 4 == 1 && rsvMap1 v)
  | 0x04 =>
    (die == 0 && base == 1 && bits v 1 0 == 0) ||
    (decide (0x200 ≤ base) && base % 16 == 0 && bits v 1 0 == 3)
  | 0x05 =>
    (base == 0x20 && rsvInjt v) ||
    (decide (0x4000 ≤ base) && rsvSlot ((base - 0x4000) / 16 % 512) v)
  | 0x06 =>
    decide (4 ≤ base % 0x100) && decide (base % 0x100 < 8) &&
      (decide (192 ≤ bits v 7 0) || decide (192 ≤ bits v 15 8))
  | 0x07 =>
    (base == 2 && bits v 21 0 != 0) || (base == 5 && bits v 7 0 != 0) ||
    (decide (0xA ≤ base) && decide (base < 0xD) && bit v 0 &&
      (!(isCompute (bits v 3 1)) || decide (448 ≤ bits v 12 4)))
  | 0x08 => decide (4 ≤ base) && decide (base < 7) && decide (192 ≤ bits v 15 8)
  | 0x09 => base == 0xA && !(decide (0x00F000000000 ≤ v) && decide (v ≤ 0x00F00FFFFFFF))
  | 0x0A => base == 3 && bits v 1 0 == 3
  | 0x0B =>
    (base == 0x10 && [0, 1, 2, 3].any (fun n => bits v (2 * n + 1) (2 * n) == 3)) ||
    (decide (0x30 ≤ base) && (base - 0x30) % 6 == 0 && bits v 7 0 != 0) ||
    (decide (0x30 ≤ base) && (base - 0x30) % 6 == 5 && bits v 2 1 == 3)
  | 0x0C => (base == 1 && decide (17 ≤ bits v 5 1)) || (base == 0x20 && decide (640 ≤ bits v 9 0))
  | 0x0D =>
    if die = 0 then base == 0x14 && !(isCompute (bits v 11 9)) else base == 0x11 && rsvRsel (bits v 9 0)
  | 0x30 =>
    (base == 5 && decide (queueCount die ≤ bits v 8 0)) ||
    (decide (0x1000 ≤ base) && decide (base < 0x2000) &&
      (bits v 11 9 == 7 || (!(bit v 13) && bits v 11 9 != die)))
  | 0x31 =>
    (decide (8 ≤ base) && decide (base < 0x10) &&
      (bits v 1 0 == 3 || bits v 3 2 == 3 || bits v 5 4 == 3)) ||
    (decide (0x100 ≤ base) && decide (0x40 ≤ base % 0x100) &&
      rsvRegion ((base % 0x100 - 0x40) % 6) v)
  | 0x40 =>
    (decide (0x100 ≤ base) && decide (base < 0x200) && base % 0x20 == 0 &&
      rsvTest ((base - 0x100) / 0x20) (bits v 6 4)) ||
    (decide (0x300 ≤ base) && decide (base < 0x400) && base % 4 == 0 && bits v 1 0 == 3) ||
    (decide (0x300 ≤ base) && decide (base < 0x400) && base % 4 != 0 && bits v 11 9 == 7)
  | 0x41 =>
    (base == 1 && bits v 7 0 == 255) || (base == 2 && bits v 7 0 == 0) || (base == 3 && bits v 7 0 == 0)
  | 0x42 =>
    (decide (0x100 ≤ base) && decide (base < 0x300) && [1, 4, 7].contains (base % 0x100) &&
      bits v 9 0 == 0) ||
    (decide (0x400 ≤ base) && base % 8 == 5 && bits v 11 9 == 7)
  | 0x43 => base == 5 && v == 0
  | 0x44 => base == 3 && !(decide (75 ≤ bits v 8 0) && decide (bits v 8 0 ≤ 375))
  | 0x45 =>
    (decide (0x100 ≤ base) && decide (base < 0x180) && base % 0x40 == 1 && decide (bits v 7 0 < 4)) ||
    (base == 0x300 && bits v 1 0 == 3) || (base == 0x301 && decide (v < 16))
  | 0x46 =>
    (decide (0x100 ≤ base) && decide (base < 0x200) && base % 16 == 0 &&
      (!([0, 1, 4, 5].contains (bits v 3 1)) || bits v 5 4 == 3)) ||
    (decide (0x300 ≤ base) && decide (base < 0x400) && base % 8 == 0 &&
      (!([0, 1, 4, 5].contains (bits v 3 1)) || bits v 5 4 == 3)) ||
    (decide (0x500 ≤ base) && base % 8 == 0 &&
      (bits v 1 0 == 3 || (decide (0x510 ≤ base) && bit v 3)))
  | 0x47 =>
    die == 0 &&
    ((base == 0 && decide (10 ≤ bits v 5 2)) ||
     (base == 8 && decide (500000 < v) && decide (v < 2 ^ 32 - 500000)) ||
     (base == 0xA && decide (999999999 < bits v 31 0)))
  | _ =>
    if decide (0x10 ≤ blk) && decide (blk ≤ 0x2F) then
      let o := base % 0x100
      (decide (0x10 ≤ o) && decide (o < 0x30) && decide (448 ≤ bits v 10 2)) ||
      (decide (0x40 ≤ o) && rsvRegion ((o - 0x40) % 6) v)
    else false

end Sys2Proof.Machine
end

