-- ==== Sys2Proof/Machine/SMap.lean ====
section
/-!
DEFINITION. Sparse maps from a numeric key to plain data, in one canonical form: keys strictly
rising and no entry equal to what an unlisted key reads as. Memory, the register file of the CSR
space, the cores, the queues and every other indexed piece of state are held so.
-/

namespace Sys2Proof.Machine

/-- A sparse map: the listed keys with their values. What an unlisted key reads as is an argument
of the operations, since it is one definition per map. -/
abbrev SMap (α : Type) := List (Nat × α)

/-- The value a key reads as, `d` giving what an unlisted key reads as. -/
def SMap.get {α : Type} (d : Nat → α) : SMap α → Nat → α
  | [], k => d k
  | (j, v) :: m, k => if k = j then v else SMap.get d m k

/-- The entry list of one key: empty where the value is the unlisted one. -/
def SMap.cell {α : Type} [DecidableEq α] (d : Nat → α) (k : Nat) (v : α) : SMap α :=
  if v = d k then [] else [(k, v)]

/-- Putting a key that is not listed in its place. -/
def SMap.put {α : Type} [DecidableEq α] (d : Nat → α) : SMap α → Nat → α → SMap α
  | [], k, v => SMap.cell d k v
  | (j, w) :: m, k, v => if k < j then SMap.cell d k v ++ (j, w) :: m else (j, w) :: SMap.put d m k v

/-- Writing a key, keeping the canonical form: a value equal to the unlisted one removes the entry. -/
def SMap.set {α : Type} [DecidableEq α] (d : Nat → α) (m : SMap α) (k : Nat) (v : α) : SMap α :=
  SMap.put d (m.filter (fun e => e.1 != k)) k v

/-- Every listed key is above `lo` (a bound that is `none` at the head), keys rise strictly, and no
entry equals what the key reads as when unlisted. -/
def SMap.wfFrom {α : Type} [DecidableEq α] (d : Nat → α) : Option Nat → SMap α → Bool
  | _, [] => true
  | lo, (j, v) :: m =>
    (match lo with | none => true | some b => decide (b < j)) && !decide (v = d j) &&
      SMap.wfFrom d (some j) m

/-- The canonical form of a sparse map. -/
def SMap.wf {α : Type} [DecidableEq α] (d : Nat → α) (m : SMap α) : Bool := SMap.wfFrom d none m

/-- Changing one key by a function of its present value. -/
def SMap.modify {α : Type} [DecidableEq α] (d : Nat → α) (m : SMap α) (k : Nat) (f : α → α) :
    SMap α := SMap.set d m k (f (SMap.get d m k))

end Sys2Proof.Machine
end

