-- ==== Sys2Proof/Machine/StCfg.lean ====
section
/-!
DEFINITION. State of the structure image, its loader and check, and of the management commands
(The Structure Image, R66 to R99), and the CSR space of the register conventions (R6 to R11).
-/

namespace Sys2Proof.Machine

/-- The five device states (R66). -/
inductive DevState where
  | boot | loaded | run | degraded | safe
deriving DecidableEq, Repr

/-- The code CFG_STATUS.STATE reads (R66, R89). -/
def DevState.code : DevState → BitVec 3
  | .boot => 0 | .loaded => 1 | .run => 2 | .degraded => 3 | .safe => 4

/-- BOOT and LOADED take RW-L writes; RUN, DEGRADED and SAFE refuse them (R6, R66). -/
def DevState.open : DevState → Bool
  | .boot => true | .loaded => true | .run => false | .degraded => false | .safe => false

/-- The CSR space: what each word stores, where it differs from its reset value; the lower words of
multi-word fields held for their highest word; the captured words of multi-word reads (R6, R10); and the stored words as the
last accepted commit took them, which is what the structure-image registers act as (R83). Keys are the 27 low bits of the CSR address: die, block and offset (R43). -/
structure CsrSt where
  store : SMap Word := []
  live : SMap Word := []
  held : SMap (Option Word) := []
  capture : SMap (Option Word) := []
deriving DecidableEq, Repr

/-- A response frame that has been sent: CMD with bit 15 set, SEQ, STATUS, LEN, results and CRC as
words (R92). -/
structure MgmtResp where
  port : MgmtPort
  words : List Word
deriving DecidableEq, Repr

/-- A command accepted and not yet answered: it answers when it has finished (R93). -/
structure MgmtRun where
  port : MgmtPort
  cmd : Word
  seq : Word
deriving DecidableEq, Repr

/-- The running load or check (R77, R80, R87). -/
structure CfgJob where
  /-- a load runs (else the check) -/
  loading : Bool
  /-- the check follows the load at once: LOAD and EN in one write (R87) -/
  thenCheck : Bool
  /-- slot being loaded: false A, true B -/
  slot : Bool
  /-- CK1 time at which the job started (R82) -/
  startedAt : Nat
  /-- an RW-L register was written while the check was running (0x0F08) -/
  rwlWritten : Bool
deriving DecidableEq, Repr

/-- The CFG block and the management command unit (R66 to R99). -/
structure CfgSt where
  state : DevState := .boot
  job : Option CfgJob := none
  stagedSlot : Bool := false
  staged : Bool := false
  edited : Bool := false
  /-- an RW-L register other than LAT_PCTRL has changed since the last successful load (R462) -/
  changed : Bool := false
  reason : Word := 0
  refused : Word := 0
  detail : BitVec 32 := 0
  cmdErr : Word := 0
  notNow : Word := 0
  imgVer : BitVec 32 := 0
  epoch : BitVec 32 := 0
  /-- CFG_DIGEST, most significant word first at 0x0020 (R90) -/
  digest : W256 := 0
  /-- hashes of the sealed sections' register values at load: section type and SHA-256 (R77) -/
  sealHash : List (Nat × W256) := []
  /-- the DIES section of the staged image: bit d is 1 where die d is REQUIRED (R32) -/
  marks : BitVec 8 := 0
  /-- DIE_PRESENT at the last successful load (0x0F09) -/
  presentAtLoad : BitVec 8 := 0
  /-- the nonce most recently returned by GET_NONCE, until it serves one request (R96) -/
  nonce : Option (BitVec 64) := none
  /-- the command that runs (R93) -/
  running : Option MgmtRun := none
  /-- responses sent, newest last (R93) -/
  responses : List MgmtResp := []
  /-- how many of the responses on MSPI have gone out on SDO, the oldest first (R534) -/
  mspiOut : Nat := 0
deriving DecidableEq, Repr

end Sys2Proof.Machine
end

