-- ==== Sys2Proof/Machine/StLat.lean ====
section
/-!
DEFINITION. State of the supervision frame, the two Sifters, the motion tables, the Lattice store
manager, the pack expansion engine and the Verdict Gate (The Supervision Frame, the Sifter and the
Lattice, R100 to R142; The Verdict Gate and the VETO Pair, R143 to R164).
-/

namespace Sys2Proof.Machine

/-- What a frame gathers for its SEALED notice (R119, R120, R124, R128, R130). -/
structure FrameAcc where
  egoGap : Bool := false
  hbmErr : Bool := false
  clearErr : Bool := false
  sensors : Word := 0
  binned : BitVec 32 := 0
  dropped : Word := 0
deriving DecidableEq, Repr

/-- A motion sample: EX, EY in mm, EC, ES in Q14, each one word (R123). -/
structure MotionSample where
  ex : Word
  ey : Word
  ec : Word
  es : Word
deriving DecidableEq, Repr

/-- The motion table of one frame: sample k at key k + 40, and whether EGO_STALE was reported for
the frame (R123, R124). -/
structure MotionTable where
  samples : SMap (Option MotionSample) := []
  /-- samples that the integrator has formed and the Attestor has not yet published (R123) -/
  formed : SMap (Option MotionSample) := []
  staleReported : Bool := false
deriving DecidableEq, Repr

/-- A slot clear in progress (R104, R130, R308). -/
structure ClearSt where
  slot : BitVec 6
  /-- word address of the slot -/
  base : Nat
  startedAt : Nat
  /-- next HBM line of 32 words to be written, counted in the slot -/
  nextLine : Nat
  /-- lines answered with a parity error, still to be rewritten with 0xFFFF (R130, R308) -/
  failed : List Nat
deriving DecidableEq, Repr

/-- States of LAT_PSTAT.STATE (R141). -/
inductive PackState where
  | empty | running | ready | failed
deriving DecidableEq, Repr

/-- The code LAT_PSTAT.STATE reads (R141). -/
def PackState.code : PackState → BitVec 2
  | .empty => 0 | .running => 1 | .ready => 2 | .failed => 3

/-- The policy-pack expansion engine (R133 to R136). -/
structure PackSt where
  state : PackState := .empty
  fail : BitVec 4 := 0
  /-- LAT_PVER: PACK_VER of the expanded pack -/
  ver : BitVec 32 := 0
  /-- PACK_ID of the expanded pack, for CONFIG records (R179) -/
  id : BitVec 32 := 0
  /-- slot under expansion or last expanded -/
  slot : Bool := false
  startedAt : Nat := 0
deriving DecidableEq, Repr

/-- The frame clock, the motion tables and the Lattice store manager (R100 to R130). -/
structure LatSt where
  running : Bool := false
  /-- LAT_FN: number of the open frame (R101, R141) -/
  fn : BitVec 32 := 0
  /-- CK1 time of the opening boundary of the open frame (R100) -/
  openAt : Nat := 0
  /-- LAT_BTIME: opening time of the open frame (R114) -/
  bTime : BitVec 48 := 0
  /-- opening time of the next frame, computed at the intake cutoff (R114) -/
  nextBTime : BitVec 48 := 0
  /-- the intake cutoff of the open frame has passed (R102) -/
  cutoff : Bool := false
  cur : FrameAcc := {}
  next : FrameAcc := {}
  motCur : MotionTable := {}
  motNext : MotionTable := {}
  clear : Option ClearSt := none
  /-- the clear of slot 1 still planned in frame 0 (R104, R106) -/
  clearOne : Bool := false
  /-- slots whose clear met a parity error: CLEAR_ERR for the frame that uses them (R130) -/
  slotErr : BitVec 64 := 0
  /-- LAT_NDROP (R129) -/
  nDrop : Word := 0
  pack : PackSt := {}
deriving DecidableEq, Repr

/-- The batch a Sifter is taking or discarding (R110, R111). -/
structure BatchSt where
  input : BitVec 2
  count : Nat
  ptime : BitVec 48
  /-- points taken so far -/
  taken : Nat
  /-- words of the head point flit that earlier points have used -/
  off : Nat
  /-- the rest of the batch is popped and discarded -/
  discard : Bool
deriving DecidableEq, Repr

/-- One Sifter (R107 to R122, R139). -/
structure SifterSt where
  batch : Option BatchSt := none
  /-- the stream input served last; the next search starts after it (R110) -/
  lastInput : BitVec 2 := 3
  taken : BitVec 32 := 0
  dMism : Word := 0
  dSens : Word := 0
  dFmt : Word := 0
  dNoise : Word := 0
  dFut : Word := 0
  dLate : Word := 0
  dOutZ : Word := 0
  dGrid : Word := 0
  dBatch : Word := 0
  extrap : Word := 0
deriving DecidableEq, Repr

/-- The three verdicts (R143). -/
inductive Verdict where
  | go | limit | stop
deriving DecidableEq, Repr

/-- The verdict codes (R143). -/
def Verdict.code : Verdict → Word
  | .go => 0x00FF | .limit => 0x0F0F | .stop => 0xFF00

/-- A decision or a vote: a verdict with its cap (R144, R152). -/
structure Vote where
  verdict : Verdict
  cap : Word
deriving DecidableEq, Repr

/-- What the Gate holds of one producer for the frame under decision (R149). -/
structure ProdSt where
  vote : Option Vote := none
  /-- the eight words of the first flit for the frame, for the comparison of repeats -/
  first : Option (List Word) := none
  /-- R149 made the vote STOP (PMASK bit 3 + n) -/
  madeStop : Bool := false
  /-- REASON of the producer's flit, 0 when none (R162, R179) -/
  reason : Word := 0
  /-- µs from the sealing boundary to the first flit classified for the frame (VDG_ARRn) -/
  arr : Option Word := none
deriving DecidableEq, Repr

/-- One true/complement pin pair as its block drives it (R156, R420): the levels that stand at the pads, and the
commanded changes on their way to them (R155, R416). -/
structure PairSt where
  t : Bool := false
  c : Bool := true
  /-- the pair toggles at the pads -/
  toggling : Bool := false
  /-- CK1 time of the last commanded edge at the pads -/
  changedAt : Nat := 0
  /-- changes commanded and not yet at the pads, earliest first: the CK1 pad time, and whether the pair toggles from
  then on (R155, R157, R416, R420) -/
  pend : List (Nat × Bool) := []
deriving DecidableEq, Repr

/-- The Verdict Gate (R143 to R164). -/
structure VdgSt where
  /-- a frame was sealed since the commit -/
  sealedOnce : Bool := false
  /-- F, the frame under decision (R148) -/
  fn : BitVec 32 := 0
  /-- CK1 time of B_F (R148) -/
  boundary : Nat := 0
  /-- F is undecided: VDG_STATUS.PENDING -/
  pending : Bool := false
  prod : SMap ProdSt := []
  /-- the decision of F, for the fields of a forced STOP (R161) -/
  decision : Vote := ⟨.stop, 0⟩
  /-- VDG_STATUS.OUT -/
  out : Verdict := .stop
  /-- VDG_STATUS.FORCED -/
  forced : Bool := true
  lastFn : BitVec 32 := 0
  lastCode : Word := 0xFF00
  lastCap : Word := 0
  mseq : Word := 0
  cDefault : Word := 0
  cLate : Word := 0
  cDup : Word := 0
  cBad : Word := 0
  cStale : Word := 0
  cConfl : Word := 0
  /-- VDG_ARRn of the last decided frame -/
  arr0 : Word := 0xFFFF
  arr1 : Word := 0xFFFF
  arr2 : Word := 0xFFFF
  /-- the VETO pair: static T low, C high is veto (R156) -/
  veto : PairSt := {}
deriving DecidableEq, Repr

end Sys2Proof.Machine
end

