-- ==== Sys2Proof/Machine/StCrb.lean ====
section
/-!
DEFINITION. State of the check-value units, the Crumb tray, the watchdogs, and of start-up, resets
and firmware update (Check-Value Units, R382 to R400; The Crumb Tray, R401 to R428; Watchdogs, R429
to R446; Start-Up, Resets and Firmware Update, R447 to R470).
-/

namespace Sys2Proof.Machine

/-- A receive assignment of a CVU (R391 to R393, R399). -/
structure RxAssign where
  run : Bool := false
  last : Word := 0
  runLen : BitVec 2 := 0
  resync : BitVec 8 := 0
  cand : Word := 0
  /-- a WRONG_SEQ message is the last message of the assignment that was classified (R392) -/
  afterWrong : Bool := false
  ok : Word := 0
  skip : Word := 0
  rep : Word := 0
  seq : Word := 0
  crc : Word := 0
  tmo : Word := 0
  /-- CK1 time at which the timer expires (R393) -/
  dueAt : Option Nat := none
deriving DecidableEq, Repr

/-- A transmit assignment of a CVU (R387, R388, R399). -/
structure TxAssign where
  ctr : Word := 0
  sent : Word := 0
  drop : Word := 0
  /-- flits of the message in progress popped so far, in order (R387) -/
  flits : List (List Word) := []
  /-- the message in progress is being discarded (R388) -/
  bad : Bool := false
  /-- the first CK4 edge at which the next flit may be popped (R387) -/
  popFrom : Nat := 0
deriving DecidableEq, Repr

/-- What CVU_CALCn_DATA has folded in the present CK4 edge: the edge, VAL before those words, and the words (R397). -/
structure CalcEdge where
  edge : Nat := 0
  old : BitVec 32 := 0
  data : List Word := []
deriving DecidableEq, Repr

/-- The CVUs of both port dies; keys 16 × (0 for P0, 1 for P1) + assignment (R382 to R399). -/
structure CvuSt where
  rx : SMap RxAssign := []
  tx : SMap TxAssign := []
  /-- CVU_NOIDCNT and CVU_MISMCNT by port die 0 and 1 -/
  noId : SMap Word := []
  mismCnt : SMap Word := []
  /-- the DATA words of one CK4 edge, by 4 × (0 for P0, 1 for P1) + channel (R397) -/
  edges : SMap CalcEdge := []
deriving DecidableEq, Repr

/-- A fault report on its way to the latch: its fault ID, the CK1 time of its latch cycle, whether
it was injected, and die and block of a dropped write for RSVD_WRITE (R401, R402, R428). -/
structure Report where
  fid : Word
  latchAt : Nat
  inj : Bool
  die : BitVec 3
  blk : BitVec 8
  /-- DIE_LOST or LINK_FAIL of a die that was fenced already when the report was launched (R31, R411) -/
  lost : Bool := false
deriving DecidableEq, Repr

/-- One entry of the Crumb log (R419, R427). -/
structure LogEntry where
  fid : Word
  level : BitVec 3
  note : Bool
  inj : Bool
  dry : Bool
  escNow : Bool
  esc : Bool
  dryCls : BitVec 2
  die : BitVec 3
  cyc : BitVec 32
deriving DecidableEq, Repr

/-- A running grace timer (R417). -/
structure Grace where
  fid : Word
  /-- CK1 time of the latch cycle -/
  latch : Nat
  /-- the report was injected -/
  inj : Bool
  /-- CK1 time of the expiry -/
  due : Nat
  /-- the ESC level -/
  esc : BitVec 3
  tgt : Bool
  root : Word
deriving DecidableEq, Repr

/-- The Crumb tray (R401 to R428). The latch bits themselves are the CRB_LATCH words of the CSR
space. -/
structure CrbSt where
  inflight : List Report := []
  /-- CK1 time at which a line last launched a report, key fault ID + 65536 × die of the line (R402) -/
  launched : SMap (Option Nat) := []
  /-- CK1 time at which a source's latch bit was last set (R411) -/
  latchedAt : SMap (Option Nat) := []
  /-- lines declared broken, by the same key as `launched` (R403) -/
  broken : List Nat := []
  storm : BitVec 32 := 0
  conseq : Word := 0
  logOvf : Word := 0
  log : List LogEntry := []
  firstFid : Word := 0
  firstLevel : BitVec 3 := 0
  firstInj : Bool := false
  firstCyc : BitVec 32 := 0
  grace : SMap (Option Grace) := []
  /-- EOUT, static T low and C high in the fault state (R420) -/
  eout : PairSt := {}
  /-- CK1 time at which the 16,500-CK4 pulse of EPULSE_N ends (R421) -/
  pulseEnd : Option Nat := none
  /-- a pulse has ended since the reset: CRB_EPULSE.HOLD holds EPULSE_N low (R421) -/
  pulsed : Bool := false
  /-- the committed map is in force (R407) -/
  mapLive : Bool := false
  /-- CRB_TESTCNTd by compute die address (R424) -/
  testCnt : SMap Word := []
  /-- CK1 time at which the pending injection acts (R425) -/
  injAt : Option Nat := none
  /-- CK1 time of the last latch cycle, and its reports, each with whether it was a repeat for a latch bit that was set
  (R411, R426) -/
  lastT : Nat := 0
  lastReps : List (Report × Bool) := []
deriving DecidableEq, Repr

/-- One watchdog (R429 to R445). -/
structure WdtUnit where
  running : Bool := false
  /-- CK8 count at which the current period started, moved on by every freeze -/
  start : Nat := 0
  /-- the position p at which the watchdog is frozen (R439, R441) -/
  frozenAt : Option Nat := none
  /-- erase-busy freezes it: it is high, and the last period completed before it rose was good (R439) -/
  byErase : Bool := false
  chal : Word := 0
  done : Word := 0
  /-- a violation occurred in the current period -/
  bad : Bool := false
  badPrev : Bool := false
  warned : Bool := false
  cause : BitVec 3 := 0
  seen : BitVec 6 := 0
  violCnt : Word := 0
  svcCnt : Word := 0
deriving DecidableEq, Repr

/-- The watchdogs: TWD0 and TWD1 at keys 0 and 1, the watchdog of core c of engine e at
256 + 2 × e + c; and the hub's erase-busy and reset evidence (R429 to R446). -/
structure WdtSt where
  unit : SMap WdtUnit := []
  /-- CK1 time at which erase-busy rose (R439, R440) -/
  eraseBusy : Option Nat := none
  /-- WDT_RSTEV (R438) -/
  rstEv : Word := 0
  eraseCap : Word := 0
  frzDrop : Word := 0
deriving DecidableEq, Repr

/-- The kinds of device reset, as CFG_BOOTRES.RSTKIND codes them (R448, R469). -/
inductive ResetKind where
  | powerOn | resetN | l5 | watchdog | tamper
deriving DecidableEq, Repr

/-- The code CFG_BOOTRES.RSTKIND reads (R469). -/
def ResetKind.code : ResetKind → BitVec 3
  | .powerOn => 0 | .resetN => 1 | .l5 => 2 | .watchdog => 3 | .tamper => 4

/-- Where the device stands between power and running firmware (R447, R448, R450). -/
inductive Phase where
  /-- in power-on reset: PORST_N low or the power-on detector not released -/
  | off
  /-- a device reset of this kind waits for the ledger flush that started at this CK1 time -/
  | flush (kind : ResetKind) (since : Nat)
  /-- in reset, RESET_N still low -/
  | held
  /-- reset ended at this CK1 time; the Trifle has not started -/
  | starting (since : Nat)
  /-- the boot ROM runs -/
  | rom
  /-- Trifle firmware runs -/
  | firmware
  /-- boot has halted: no NV die (R453) -/
  | halted
  /-- ROM recovery (R458) -/
  | recovery
deriving DecidableEq, Repr

/-- One boot-record entry: GEN, STATE (0 EMPTY, 1 TRIAL, 2 CONFIRMED, 3 REJECTED), ATTEMPTS (R460). -/
structure SlotRec where
  gen : BitVec 32 := 0
  state : BitVec 2 := 0
  attempts : BitVec 4 := 0
deriving DecidableEq, Repr

/-- One MRAM copy of the boot record: its CRC holds, and the entries at key 2 × kind + slot (R460). -/
structure BootCopy where
  crcOk : Bool := true
  slot : SMap SlotRec := []
deriving DecidableEq, Repr

/-- CFG_BOOTk of one kind: 0 firmware, 1 image, 2 pack (R469). -/
structure BootKind where
  slot : Bool := false
  failA : BitVec 3 := 0
  failB : BitVec 3 := 0
  trial : Bool := false
  /-- slots still to be tried at this boot, in order (R461) -/
  cand : List Bool := []
  /-- R462 rejected a slot of the kind at this boot -/
  rejected : Bool := false
  /-- the first slot of the sorted candidates (R463) -/
  first : Bool := false
deriving DecidableEq, Repr

/-- An update session (R464 to R469). -/
structure UpdSt where
  /-- 0 IDLE, 1 ERASING, 2 OPEN, 3 FAILED -/
  state : BitVec 2 := 0
  kind : BitVec 2 := 0
  slot : Bool := false
  cause : BitVec 2 := 0
  len : Nat := 0
  hash : W256 := 0
  /-- CFG_UPDSECT: sectors erased -/
  erased : Nat := 0
  /-- sectors still to be erased, by word address divided by 65,536, next first -/
  toErase : List Nat := []
deriving DecidableEq, Repr

/-- Start-up, the reset pins, the boot record and the update session (R447 to R470). -/
structure BootSt where
  phase : Phase := .off
  /-- PORST_N is high -/
  porst : Bool := false
  /-- RESET_N is low -/
  resetLow : Bool := false
  /-- the internal power-on detector has released (R547) -/
  podOk : Bool := false
  /-- RSTOUT_N is high -/
  rstOut : Bool := false
  stage : BitVec 4 := 0
  rstKind : ResetKind := .powerOn
  fallback : Bool := false
  kind : SMap BootKind := []
  bootMs : Word := 0
  /-- CK1 time of power good or of the end of the warm reset (R469) -/
  startAt : Nat := 0
  /-- CK1 time before which the Trifle does not start (R448) -/
  trifleDue : Nat := 0
  /-- main power off in OSC, as POWER_GOOD gave it (R170) -/
  offOsc : Nat := 0
  /-- the VBAT domain was found unpowered at power-up (R169, R481) -/
  vbatLost : Bool := false
  /-- sensors of the tamper latch read at power-up, and whether they zeroised (R485) -/
  tamperMap : BitVec 8 := 0
  tamperZer : Bool := false
  /-- device time before and after it was set at power-up (R170, R179) -/
  timeWas : BitVec 80 := 0
  timeSet : BitVec 80 := 0
  /-- CK1 time at which the Trifle started (R450) -/
  trifleAt : Nat := 0
  /-- CK1 time of the last accepted commit with no device reset since (R462) -/
  commitAt : Option Nat := none
  /-- the committed content is that of the slot that CFG_STATUS.SLOT names (R462) -/
  slotCommitted : Bool := false
  /-- engine modules placed at this boot (R456) -/
  placed : Bool := false
  /-- HBM training and BIST have ended (R450) -/
  hbmDone : Bool := false
  copyA : BootCopy := {}
  copyB : BootCopy := {}
  upd : UpdSt := {}
deriving DecidableEq, Repr

end Sys2Proof.Machine
end

