-- ==== Sys2Proof/Machine/StCus.lean ====
section
/-!
DEFINITION. State of custody, tamper, debug and the TAP (Custody, Tamper and Debug, R471 to R500),
of the biscuit tin and the field record (R501 to R516), and of the supply monitors (Electrical
Characteristics and Package, R545 to R551). OTP stands in the memory of R41, its words read there.
-/

namespace Sys2Proof.Machine

/-- A ZEROISE tamper sequence that runs (R483). -/
structure TamperSeq where
  /-- CK1 time of the trip -/
  since : Nat
  /-- CK1 time at which zeroisation started -/
  zeroAt : Option Nat
deriving DecidableEq, Repr

/-- The custody block and the tamper sensors (R471 to R486, R496). -/
structure CusSt where
  /-- CUS_STATUS.KEYOK: the device key has been derived (R474, R496) -/
  keyOk : Bool := false
  /-- the key store holds PUF helper data (R474, R476) -/
  helper : Bool := false
  /-- PUF enrolments made: names the device key that the helper data derives (R474, R476) -/
  enrols : Nat := 0
  /-- CUS_STATUS.ZEROED, held in the key store (R484, R496) -/
  zeroed : Bool := false
  /-- the owner key: 32 words, X then Y as R69 stores r, held in the key store (R474) -/
  owner : Option (List Word) := none
  /-- CUS_TCFG.MODE in force, held on VBAT (R482) -/
  tcfg : BitVec 8 := 0
  /-- CUS_TRESP.ZER in force, held on VBAT (R482) -/
  tresp : BitVec 8 := 0x21
  /-- CUS_TEVENT.MAP, held on VBAT (R496) -/
  tMap : BitVec 8 := 0
  /-- CUS_TEVENT.VALID -/
  tValid : Bool := false
  /-- CUS_TTIME, laid out as TIME_NOW -/
  tTime : BitVec 80 := 0
  /-- CUS_TCNT: trips since VBAT was applied, saturating -/
  tCnt : Word := 0
  /-- the sensors latched with main power off (R485) -/
  offMap : BitVec 8 := 0
  /-- the sequencer's elapsed count latched with main power off, in OSC (R485) -/
  offCount : Nat := 0
  seq : Option TamperSeq := none
  /-- the VOLT sensor is armed (R546) -/
  voltArmed : Bool := false
  /-- VDDIO33 is lost while running: the VETO and EOUT pads stop driving (R551) -/
  vddio33Lost : Bool := false
deriving DecidableEq, Repr

/-- A debug session (R489 to R493). -/
structure DbgSession where
  rights : BitVec 5
  /-- bit n is En -/
  scope : BitVec 128
  /-- SIGNER of the token, 0 for a session that DBG_CTRL.OPEN opened -/
  signer : Word
  /-- the first denial has been entered in the biscuit tin -/
  denied : Bool
deriving DecidableEq, Repr

/-- The TAP and the debug logic of the hub (R487 to R498). -/
structure DbgSt where
  /-- the instruction register; IDCODE after Test-Logic-Reset -/
  ir : BitVec 8 := 0x01
  /-- what Capture-DR last loaded for TDO: 0 of BYPASS, the IDCODE, the nonce, or the answer of DBG_AP -/
  capture : BitVec 64 := 0
  /-- values shifted into the boundary register by SAMPLE/PRELOAD or EXTEST -/
  boundary : List Bool := []
  session : Option DbgSession := none
  /-- the present nonce, drawn when DBG_NONCE reads it first (R489) -/
  nonce : Option (BitVec 64) := none
  denyCnt : BitVec 32 := 0
  denyInfo : BitVec 3 := 0
  sessions : Word := 0
  tokRes : BitVec 3 := 0
  /-- data of the previous DBG_AP read, and whether the access was denied (R488) -/
  apData : Word := 0
  apDenied : Bool := false
  /-- the Trifle is halted by debug (R492) -/
  trifleHalted : Bool := false
deriving DecidableEq, Repr

/-- A biscuit tin entry as requested: KIND, the flags it will carry beside PINNED and LOSS, TNS,
TSEC, CTX, BOOTNO and the body words (R503). -/
structure BbxReq where
  kind : BitVec 8
  holdup : Bool
  tns : BitVec 32
  tsec : BitVec 48
  ctx : Word
  bootNo : BitVec 32
  body : List Word
  /-- CK4 edge of the request, for the order of R506 -/
  edge : Nat
deriving DecidableEq, Repr

/-- The BBX unit and the live field record (R501 to R515). The MRAM copies stand in memory. -/
structure BbxSt where
  ready : Bool := false
  /-- a flush is running: CK1 time of its start (R508) -/
  flush : Option Nat := none
  fldOk : Bool := false
  /-- BBX_NEXT -/
  next : BitVec 32 := 0
  /-- ESEQ has reached its last value: every further request is lost (R505) -/
  full : Bool := false
  /-- the FIFO, oldest first, at most 16 (R506) -/
  fifo : List BbxReq := []
  /-- CK1 time at which the unit began writing the oldest entry -/
  writing : Option Nat := none
  /-- the POWER entry of the running flush, which never enters the FIFO (R508, R514) -/
  power : Option BbxReq := none
  lost : Word := 0
  /-- the next entry written carries LOSS -/
  lossNext : Bool := false
  /-- BBX_OVF has been reported for the present run of losses -/
  ovfRun : Bool := false
  fwDrop : Word := 0
  /-- words written to BBX_FWDATA, by offset 0 to 15 -/
  fwData : SMap Word := []
  /-- FIRMWARE entries taken in the present 1 h of operating time, and its number (R512) -/
  fwTaken : Nat := 0
  fwHour : Nat := 0
  /-- the live field record, word by word (R510) -/
  fld : SMap Word := []
  /-- CK1 time of power good or the end of reset, and the operating seconds counted since -/
  fldAt : Nat := 0
  fldSecs : Nat := 0
  /-- HOURS has advanced and the record has not yet been written for it (R510) -/
  fldDue : Bool := false
deriving DecidableEq, Repr

end Sys2Proof.Machine
end

