-- ==== Sys2Proof/Machine/StDies.lean ====
section
/-!
DEFINITION. State of the dies, the links, the pretzel ring, the clocks and the clock monitor
(Dies, Hierarchy and the Pretzel Ring, R12 to R44; Clocks and Exact Cycle Counts, R45 to R65).
-/

namespace Sys2Proof.Machine

/-- One answer to the enumeration token on a lane: the position the die counted and its type code
(R12, R22). -/
structure EnumAns where
  position : Nat
  type : BitVec 2
deriving DecidableEq, Repr

/-- What the state holds of one logic die (R22 to R37). -/
structure DieSt where
  /-- the answer on the clockwise lane (R22, R24) -/
  ansCw : Option EnumAns := none
  /-- the answer on the counter-clockwise lane (R22, R24) -/
  ansCcw : Option EnumAns := none
  /-- DIE_STATUS.CW (R36) -/
  cw : Bool := false
  /-- DIE_STATUS.CCW (R36) -/
  ccw : Bool := false
  /-- the die answered enumeration and is present (R23, R38) -/
  present : Bool := false
  /-- the fence decision of this die has been taken (R26, R36, R38) -/
  fenced : Bool := false
  /-- CK1 time of the fence decision, for the 12 CK4 of the decoder update (R27) -/
  fencedAt : Nat := 0
  /-- cores and DMA engines of the die held in reset (R24, R27, R28) -/
  held : Bool := false
  /-- DIE_STATUS.DROPS, saturating at 15 (R36) -/
  drops : BitVec 4 := 0
  /-- a heartbeat arrived for the due time not yet judged (R25) -/
  hbArrived : Bool := false
  /-- heartbeats missing in a row (R25) -/
  hbMissed : Nat := 0
  /-- DIE_LOST has been reported for the present loss (R25) -/
  hbReported : Bool := false
  /-- due times judged so far (R25) -/
  hbJudged : Nat := 0
  /-- phase of the dividers at the last marker: CLK_STATUS.ALIGNED (R46, R61) -/
  aligned : Bool := false
  /-- CK1 time at which the comparator tests of a compute die started (R364) -/
  lksTest : Option Nat := none
  /-- CLK_STATUS.PLLA, port dies only (R61) -/
  pllA : Bool := false
  /-- CLK_STATUS.PLLB, port dies only (R61) -/
  pllB : Bool := false
deriving DecidableEq, Repr

/-- A wide link of a die: DIE_LINKn (R37). -/
structure LinkSt where
  up : Bool := false
  repaired : BitVec 4 := 0
  /-- CK1 time at which a fence closes the link port (R27) -/
  closedAt : Option Nat := none
deriving DecidableEq, Repr

/-- The dies, their links and enumeration. Dies are keyed by ring address, links by
8 × die + link number (R19). -/
structure DiesSt where
  die : SMap DieSt := []
  link : SMap LinkSt := []
  /-- CK1 time at which enumeration started (R22) -/
  enumAt : Option Nat := none
  /-- CK1 time at which DIE_PRESENT latched (R23) -/
  enumEnd : Option Nat := none
  /-- DIE_HBMISS, saturating (R38) -/
  hbMiss : Word := 0
deriving DecidableEq, Repr

/-- The clock tree as the CLK blocks see it, and the clock monitor (R46, R53 to R64). -/
structure ClkSt where
  /-- CLK_STATUS.ROOTLK of the hub (R61) -/
  rootLk : Bool := false
  /-- ROOT arrives at a die: CLK_STATUS.ROOTLK of the other dies, bit d for die d (R61) -/
  rootAt : BitVec 8 := 0
  /-- CK1 time of the first alignment marker after the most recent reset (R46, R47) -/
  marker : Nat := 0
  /-- alignment markers issued since that one (R46) -/
  markers : Nat := 0
  /-- CLK_STATUS.MONF: survives a warm reset (R54, R61) -/
  monF : Bool := false
  /-- CLK_MONREF.LAST (R64) -/
  monRef : BitVec 8 := 0
  /-- CLK_MONCK8.LAST (R64) -/
  monCk8 : BitVec 8 := 0
  /-- CLK_MONCAUSE: REF, LOCK, CK8; survives a warm reset (R54, R64) -/
  monCause : BitVec 3 := 0
  /-- EOUT, VETO are forced by the monitor until the next reset (R54) -/
  forced : Bool := false
  /-- CK1 time at which the 2,200-OSC EPULSE_N pulse of the monitor or the tamper sequence started, while the pulse
  is low (R54, R483) -/
  oscPulse : Option Nat := none
  /-- CK1 time of the last closed monitor window, or of the reset that restarted it (R55) -/
  lastWindow : Nat := 0
  /-- MON_DEAD has been reported since the last closed window (R55) -/
  monDead : Bool := false
deriving DecidableEq, Repr

end Sys2Proof.Machine
end

