-- ==== Sys2Proof/Machine/StMem.lean ====
section
/-!
DEFINITION. State of memory, the HBM controllers, the credit queues and the comparator of their
agents (Credit Queues and the Fabric, R273 to R298; Memory, HBM Slot Tables and the Guard Code,
R299 to R325).
-/

namespace Sys2Proof.Machine

/-- The G-code syndrome classes, coded 0 to 7 (R315). -/
inductive GClass where
  | none | single | adj | checkbit | double | nibble | addr | other
deriving DecidableEq, Repr

/-- The code of a class (R315). -/
def GClass.code : GClass → BitVec 3
  | .none => 0 | .single => 1 | .adj => 2 | .checkbit => 3 | .double => 4 | .nibble => 5
  | .addr => 6 | .other => 7

/-- Classes 1 to 3 are correctable (R315). -/
def GClass.correctable : GClass → Bool
  | .single => true | .adj => true | .checkbit => true | _ => false

/-- Classes 4 to 7 are uncorrectable (R315). -/
def GClass.uncorrectable : GClass → Bool
  | .double => true | .nibble => true | .addr => true | .other => true | _ => false

/-- The memory behind the word address map (R41): bytes in one canonical form. The byte of bits 15:8
of word w stands at 2w and the byte of bits 7:0 at 2w + 1 (R5); the scratchpad of core c is placed
at word (c + 1) × 2⁴⁸ upward, since every core has its own (R42). -/
structure MemSt where
  bytes : List Host.Cell := []
  /-- codewords that hold an error: the class, by word address divided by 8 (R315) -/
  errs : SMap GClass := []
deriving DecidableEq, Repr

/-- An agent of the queues (R274): a core by its number 2 × engine + (0 M or locked, 1 K), a hub
block, or a block of a port die. -/
inductive Agent where
  | core (n : Nat)
  | sifter (n : Nat)
  | lat
  | vdg
  | ldg
  | port (die : Nat) (unit : Nat)
deriving DecidableEq, Repr

/-- A flit in a queue: 8 words, the producer number, LAST, POISON, and the CK1 time at which it is
pop-visible (R278, R286, R288). -/
structure Flit where
  words : List Word
  k : Nat
  last : Bool
  poison : Bool
  visibleAt : Nat
  /-- the flit continues the QPUSHV of the flit before it, so nothing stands between (R287) -/
  cont : Bool
deriving DecidableEq, Repr

/-- One queue as committed (R276 to R289). -/
structure QueueSt where
  depth : Nat := 0
  consumer : Option Agent := none
  producers : List Agent := []
  /-- flits in the store or crossing the fabric, in the order in which they leave (R287) -/
  flits : List Flit := []
  /-- credits held by producer k -/
  credits : SMap Nat := []
  /-- credits returning: producer and the CK1 time at which they become visible (R289) -/
  returning : List (Nat × Nat) := []
  /-- CK1 times at which places of popped flits are freed (R285) -/
  freeing : List Nat := []
deriving DecidableEq, Repr

/-- A waiting scrubber rewrite: the line, and the slot position count of its read (R317). -/
structure ScrubFix where
  line : Nat
  readAt : Nat
deriving DecidableEq, Repr

/-- A merge write whose read has been made: requester, first word address, words, and the slot
position count of the read (R306). -/
structure MergeSt where
  req : Nat
  addr : Addr
  words : List Word
  readPos : Nat
deriving DecidableEq, Repr

/-- One HBM stack (R299 to R323). -/
structure StackSt where
  trained : Bool := false
  dead : Bool := false
  temp : BitVec 8 := 0
  /-- the temperature is outside its limits and HBM_TEMP was reported (R322) -/
  tempOut : Bool := false
  /-- command-address parity errors in a row (R320) -/
  parityRun : Nat := 0
  ceCnt : Word := 0
  ueCnt : Word := 0
  scrLine : BitVec 28 := 0
  sweeps : Word := 0
  /-- scrubber rewrites that wait, oldest first (R317) -/
  fix : List ScrubFix := []
deriving DecidableEq, Repr

/-- The HBM controllers (R305 to R323). -/
structure HbmSt where
  stack0 : StackSt := {}
  stack1 : StackSt := {}
  /-- HBM_STATUS.TABLE: the image tables run (R309) -/
  table : Bool := false
  /-- the HBM_SLOT values committed, waiting for their slot frame (R309) -/
  switchDue : Bool := false
  /-- slot tables in force: non-free entries, key 0x2000 × stack + 16 × position + lane (R301) -/
  slots : SMap Word := []
  /-- position count that served a requester's previous request, key 512 × stack + REQ (R305) -/
  lastPos : SMap Nat := []
  /-- positions that serve a request: requester + 1, key 2 × (16 × position count + lane) + stack (R305, R309) -/
  used : SMap Nat := []
  /-- read data returned last to a requester, key REQ (R305) -/
  ret : SMap (List Word) := []
  merge : List MergeSt := []
  elAddr : Addr := 0
  elInfo : BitVec 9 := 0
  elReq : BitVec 9 := 0
  /-- positions in which refresh was made since reset, per stack together (R307) -/
  refreshes : Nat := 0
deriving DecidableEq, Repr

/-- The pool scrubbers: next codeword of each compute die, and the correctable codewords waiting for their
write-back, oldest first, key die (R310); scratchpad codewords waiting for their write-back (R311). -/
structure PoolSt where
  next : SMap Nat := []
  fix : SMap (List Nat) := []
  spadFix : List Nat := []
deriving DecidableEq, Repr

end Sys2Proof.Machine
end

