-- ==== Sys2Proof/Machine/StEng.lean ====
section
/-!
DEFINITION. State of the 256 cores and the 128 engines: registers, banks, system registers, caches,
write buffer, exception state, lockstep state, checkpoints and journals, and the voted Trifle
(Engine Programming Model, R199 to R239; Engine Instruction Set; Lockstep Engines, R349 to R381).
-/

namespace Sys2Proof.Machine

/-- ENG_STATUS.RUNST (R238). -/
inductive RunSt where
  | reset | run | wait | halted
deriving DecidableEq, Repr

/-- The code ENG_STATUS.RUNST reads (R238). -/
def RunSt.code : RunSt → BitVec 2
  | .reset => 0 | .run => 1 | .wait => 2 | .halted => 3

/-- The bank of one ring, or the double-fault bank, which has no ENEST (R206). -/
structure BankSt where
  /-- D8 to D15 at keys 0 to 7 -/
  d : SMap Word := []
  /-- A4 to A7 at keys 0 to 3 -/
  a : SMap Addr := []
  epc : Addr := 0
  esw : Word := 0
  ecause : Word := 0
  eaddr : Addr := 0
  enest : Word := 0
deriving DecidableEq, Repr

/-- One line of a cache: the line address (word address divided by 32), its 32 words, and the class of each of its four
codewords that holds an error (R201, R311). -/
structure CacheLine where
  line : Nat
  words : List Word
  errs : SMap GClass := []
deriving DecidableEq, Repr

/-- One write-buffer entry: the words of one store within one aligned 8-word block, and whether it
has started to drain (R203). -/
structure WbEntry where
  words : List (Addr × Word)
  draining : Bool
deriving DecidableEq, Repr

/-- What one core holds (R206 to R211). Bank keys: 0 to 3 the rings, 4 the double-fault bank. -/
structure CoreSt where
  /-- D0 to D7 -/
  d : SMap Word := []
  /-- A0 to A3 -/
  a : SMap Addr := []
  bank : SMap BankSt := []
  /-- V0 to V15, lane 0 in the low bits -/
  v : SMap (BitVec 512) := []
  p : SMap (BitVec 32) := []
  ac : SMap (BitVec 40) := []
  pc : Addr := 0
  /-- SW, 0x0100 after an engine reset (R207) -/
  sw : Word := 0x0100
  vbr : Addr := 0
  gtb : Addr := 0
  gtn : Word := 0
  /-- SLIM0 to SLIM3 -/
  slim : SMap Addr := []
  ien : BitVec 32 := 0
  /-- IPEND bits of SOFT lines (R232) -/
  soft : BitVec 32 := 0
  /-- CK1 time at which CYC was 0 (R211) -/
  cycOrigin : Nat := 0
  tcmp : BitVec 64 := BitVec.allOnes 64
  /-- SNOTE: block address, count and MULTI (R205) -/
  snAddr : Addr := 0
  snCount : BitVec 8 := 0
  snMulti : Bool := false
  dfCause : Word := 0
  /-- lower words of system registers held for their highest word, key 4 × number + word (R211) -/
  sysHeld : SMap (Option Word) := []
  /-- I-cache and D-cache: per set the lines held, most recently used first (R201) -/
  icache : SMap (List CacheLine) := []
  dcache : SMap (List CacheLine) := []
  /-- write buffer, oldest entry first (R203) -/
  wb : List WbEntry := []
  runst : RunSt := .reset
  /-- CK1 time before which the core issues nothing: the end of an engine reset, of a resynchronisation,
  of a SPLIT or of a hand-over -/
  resumeAt : Nat := 0
  /-- ENG_STATUS.DF: the double-fault state (R229) -/
  df : Bool := false
  /-- ENG_LASTRST (R238) -/
  lastRst : BitVec 3 := 0
  /-- ENG_TRIPLES (R238) -/
  triples : Word := 0
  /-- WATCHDOG_WARN is pending (R216, R436) -/
  warn : Bool := false
  /-- a debug halt is requested and not yet taken (R372, R374) -/
  haltReq : Bool := false
  /-- CK1 time of the halt that stands (R372) -/
  haltedAt : Nat := 0
  /-- address of the instruction that issued last (R380) -/
  issuedAt : Addr := 0
  /-- the vector of the cause that the core has selected, and the CK1 time of its selection (R235, R236) -/
  sel : Option (Nat × Nat) := none
deriving DecidableEq, Repr

/-- LKS_STATEs.STATE (R380). -/
inductive LksState where
  | locked | split | selftest | resync | handover | fenced | testfail
deriving DecidableEq, Repr

/-- The code LKS_STATEs.STATE reads (R380). -/
def LksState.code : LksState → BitVec 3
  | .locked => 0 | .split => 1 | .selftest => 2 | .resync => 3 | .handover => 4 | .fenced => 5
  | .testfail => 6

/-- A management SPLIT or JOIN that waits for both write buffers to empty (R371). -/
structure ModeCmd where
  toSplit : Bool
deriving DecidableEq, Repr

/-- The core that repeats a main core: as it stands, but for its own reset evidence (R238, R349). -/
def CoreSt.mirror (main own : CoreSt) : CoreSt := { main with lastRst := own.lastRst, triples := own.triples }

/-- What a CHK gives up only once its copy is complete: the checkpoint and the journals before it, and the CK1 time at
which the copy completes (R358). -/
structure CkSave where
  valid : Bool
  main : Option CoreSt
  checker : Option CoreSt
  journal : List (Addr × Word)
  journalK : List (Addr × Word)
  doneAt : Nat
deriving DecidableEq, Repr

/-- What one engine's lockstep logic holds (R355 to R374). -/
structure EngSt where
  state : LksState := .locked
  ckValid : Bool := false
  /-- the checkpoint store of the main core: the registers copied (R358) -/
  ckpt : Option CoreSt := none
  /-- the checkpoint store of core 1 (R353, R358) -/
  ckptK : Option CoreSt := none
  /-- the main core's journal of scratchpad words: address and old value, newest first (R360) -/
  journal : List (Addr × Word) := []
  /-- the journal has overflowed and records nothing until the next checkpoint (R360) -/
  jstop : Bool := false
  /-- the journal of core 1 (R353, R360) -/
  journalK : List (Addr × Word) := []
  /-- core 1's journal has overflowed -/
  jstopK : Bool := false
  /-- the checkpoint that stands while a CHK copies (R358) -/
  ckOld : Option CkSave := none
  /-- LKS_SYNs CAUSE, OUTCOME, INJ (R380) -/
  cause : BitVec 2 := 0
  outcome : BitVec 3 := 0
  inj : Bool := false
  mism : Word := 0
  trans : Word := 0
  dpc : Addr := 0
  /-- CK1 time D of the mismatch, while the self-test runs (R361) -/
  mismAt : Nat := 0
  /-- CK1 time at which the present signature window opened (R355) -/
  windowAt : Nat := 0
  /-- the halt of a debug session stands through a resynchronisation (R374) -/
  haltAfter : Bool := false
  /-- CK1 times at which the debug writes in the replay queue reach the checker, oldest first (R373, R380) -/
  replay : List Nat := []
  /-- CK1 time from which the comparators are armed (R363, R370) -/
  armAt : Nat := 0
  /-- CK1 time at which the last SPLIT shows: cycle 17 of it (R369) -/
  splitAt : Nat := 0
  /-- the main core as it issued that SPLIT, which an interrupt before cycle 4 cancels (R369) -/
  preSplit : Option CoreSt := none
  /-- a management SPLIT or JOIN is answered once an instruction has issued (R371) -/
  modeWait : Bool := false
  /-- the mismatch of the present self-test has been counted (R362) -/
  counted : Bool := false
  modeCmd : Option ModeCmd := none
  /-- the main core waits for its issue after a resynchronisation: RESYNC until then (R363) -/
  resyncing : Bool := false
  /-- CK1 time t0 of a JOIN, once En.K's write buffer is empty (R370) -/
  joinAt : Option Nat := none
deriving DecidableEq, Repr

/-- The engine's cores run as one pair, or test themselves as one: what the main core takes, the checker takes (R349,
R351, R361). -/
def EngSt.paired (x : EngSt) : Bool := x.state == .locked || x.state == .selftest

/-- The Trifle's copies and their voter (R375 to R379). -/
structure TrfSt where
  inVote : BitVec 3 := 7
  resync : BitVec 3 := 0
  failed : BitVec 3 := 0
  dis0 : Word := 0
  dis1 : Word := 0
  dis2 : Word := 0
  /-- CK1 times of the disagreement that removed copies 0 to 2 from the vote -/
  at0 : Nat := 0
  at1 : Nat := 0
  at2 : Nat := 0
  /-- the copy has passed its self-test since (R376) -/
  passed : BitVec 3 := 0
  /-- no majority: all copies stopped until the next device reset (R377) -/
  stopped : Bool := false
  /-- the registers of copies 0 to 2 (R375, R376) -/
  copy : SMap CoreSt := []
deriving DecidableEq, Repr

end Sys2Proof.Machine
end

