-- ==== Sys2Proof/Machine/StLdg.lean ====
section
/-!
DEFINITION. State of the time base, the Position Attestor, charging and operator activity, and the
Ledger Unit with its Gnomi session (Attested Position, Charging and the Ledger, R165 to R198).
-/

namespace Sys2Proof.Machine

/-- TIME_STATUS.TQ (R169). -/
inductive TimeQ where
  | unset | holdover | locked
deriving DecidableEq, Repr

/-- The code TIME_STATUS.TQ reads (R193). -/
def TimeQ.code : TimeQ → BitVec 2
  | .unset => 0 | .holdover => 1 | .locked => 2

/-- The time base (R165 to R170, R193). Device time is held in units of 2⁻³² ns as of the CK8 edge
`tick` counted from the first alignment marker (R46); it advances by `step` per CK8 edge. -/
structure TimeSt where
  base : Nat := 0
  tick : Nat := 0
  /-- 8/3 ns in 2⁻³² ns, corrected by TIME_ADJ (R166) -/
  step : Nat := 11453246122
  tq : TimeQ := .unset
  unc : BitVec 32 := 0xFFFFFFFF
  /-- CK1 time of the last TIME_SYNC write: the 10 s holdover timer (R169) -/
  syncAt : Nat := 0
  /-- device-time advance in HOLDOVER not yet turned into TIME_UNC, as of `tick`, 2⁻³² ns (R169) -/
  hoAcc : Nat := 0
  pps : BitVec 80 := 0
  leap : Word := 37
deriving DecidableEq, Repr

/-- One step of the sample integrator, kept exactly for the last 40 samples (R172). -/
structure IntegSample where
  ax : Int
  ay : Int
  psi : Int
deriving DecidableEq, Repr

/-- The accumulator of the current tariff (R176). -/
structure ChargeSt where
  /-- tariff index, 0xFFFF for NONE -/
  tariff : Word := 0xFFFF
  /-- ZONE or SEGMENT reference in the REF format of R137 -/
  ref : BitVec 32 := 0
  distance : Nat := 0
  amount : Nat := 0
  carry : Nat := 0
  currency : Word := 0
  /-- device seconds at which the accumulator was opened -/
  start : BitVec 48 := 0
  /-- CK1 time of the last close, for the 60 s rule -/
  closedAt : Nat := 0
deriving DecidableEq, Repr

/-- The operator activity of one card slot (R177). -/
structure ActivitySt where
  /-- an authenticated card is held -/
  card : Bool := false
  /-- 0 NONE, 1 REST, 2 AVAILABLE, 3 WORK, 4 SUPERVISING -/
  activity : BitVec 3 := 0
  /-- card number, 16 bytes as 8 words -/
  number : List Word := []
deriving DecidableEq, Repr

/-- The Position Attestor (R171 to R177, R195). -/
structure PosSt where
  msPair : Bool := false
  spAgree : Bool := true
  spoof : Bool := false
  drDead : Bool := true
  auth : Bool := false
  spValid : Bool := false
  plane : Bool := false
  east : BitVec 32 := 0x80000000
  north : BitVec 32 := 0x80000000
  lat : BitVec 32 := 0
  lon : BitVec 32 := 0
  speed : Word := 0
  hdg : Word := 0
  hpl : BitVec 32 := 0xFFFFFFFF
  /-- POS_ODO in mm -/
  odo : BitVec 48 := 0
  /-- consecutive fixes with an authenticated solution farther than 2 × HPL (R173) -/
  spoofRun : Nat := 0
  /-- consecutive disagreeing and agreeing fixes (R174) -/
  disagreeRun : Nat := 0
  agreeRun : Nat := 0
  /-- odometer at the previous fix (R176) -/
  odoPrev : BitVec 48 := 0
  charge : ChargeSt := {}
  slot0 : ActivitySt := {}
  slot1 : ActivitySt := {}
  /-- unsupervised motion is going on (R177) -/
  unsup : Bool := false
deriving DecidableEq, Repr

/-- The sample integrator (R172). -/
structure IntegSt where
  mmPrev : Nat := 0
  cur : IntegSample := ⟨0, 0, 0⟩
  /-- the last 40 samples, newest first -/
  hist : List IntegSample := []
  /-- distances of the last 1,000 steps in mm, newest first (R174) -/
  dist : List Nat := []
  /-- the yaw increment that the last automatic IMU transfer left for the next step (R172, R533) -/
  dpsi : Option Int := none
deriving DecidableEq, Repr

/-- A record handed over and waiting to be chained: type, flags given with it, time and CTX of the
hand-over, and body (R178, R180). -/
structure PendRec where
  type : BitVec 8
  flags : Word
  tns : BitVec 32
  tsec : BitVec 48
  ctx : Word
  body : List Word
  /-- CK1 time of the hand-over -/
  handedAt : Nat
deriving DecidableEq, Repr

/-- One MRAM copy of the ledger state: the head, whether its CRC holds, and the record ring, newest
first (R184). -/
structure LdgCopy where
  headOk : Bool := true
  seq : BitVec 64 := 0
  hash : W256 := 0
  openCount : Nat := 0
  openStart : BitVec 64 := 0
  tns : BitVec 32 := 0
  tsec : BitVec 48 := 0
  ring : List (List Word) := []
deriving DecidableEq, Repr

/-- One entry of the flash archive: the archived records, the BATCH_SIGN and, once written, the runs of flash words
that hold them: first word and words (R185). -/
structure ArchEntry where
  records : List (List Word)
  sign : List Word
  spans : List (Nat × Nat) := []
deriving DecidableEq, Repr

/-- A signature being computed: the BATCH_SIGN with its header and body words 0–3 filled, its
SUMHASH, and the CK1 time at which it started (R181, R182). -/
structure SignSt where
  words : List Word
  sumhash : W256
  startedAt : Nat
deriving DecidableEq, Repr

/-- A Gnomi session (R188 to R190). -/
structure GnomiSession where
  cert : List Word
  rights : BitVec 2
  lastCmd : Nat
deriving DecidableEq, Repr

/-- The Ledger Unit (R178 to R187, R197). -/
structure LdgSt where
  /-- the pending FIFO, oldest first (R180) -/
  pending : List PendRec := []
  /-- LDG_SEQ: next SEQ -/
  seq : BitVec 64 := 0
  /-- LDG_HEAD: hash of the last chained record -/
  head : W256 := 0
  copyA : LdgCopy := {}
  copyB : LdgCopy := {}
  /-- the record and head chained last have not yet been written to both copies (R180) -/
  writing : Option (List Word) := none
  /-- CK1 time of the last chaining -/
  chainedAt : Nat := 0
  /-- records of the open batch, newest first (R181) -/
  batch : List (List Word) := []
  /-- the previous BATCH_SIGN; empty for the first batch (R182) -/
  prevSign : List Word := []
  /-- CK1 time at which the previous BATCH_SIGN was chained (R181) -/
  signAt : Nat := 0
  sign : Option SignSt := none
  /-- a close with this cause is ordered and waits for the FIFO (R181, R187) -/
  closeCause : Option Word := none
  /-- a closed batch that the archive has not yet taken: its archived records and BATCH_SIGN (R185) -/
  toArchive : List ArchEntry := []
  /-- the flash archive, oldest entry first (R185) -/
  archive : List ArchEntry := []
  /-- flash word at which the archive goes on (R185) -/
  archAt : Nat := 0
  lost : Word := 0
  exDrop : Word := 0
  /-- the next record chained carries LOSS (R180, R187) -/
  lossNext : Bool := false
  /-- the next record chained carries BREAK (R187) -/
  breakNext : Bool := false
  /-- closing for power loss or reset: hand-overs are refused (R187) -/
  closing : Bool := false
  /-- LDG_STATUS.FROZEN: lifecycle RETIRED (R187, R197) -/
  frozen : Bool := false
  /-- the GNOMI_HELLO nonce (R190) -/
  helloNonce : Option (BitVec 64) := none
  session : Option GnomiSession := none
deriving DecidableEq, Repr

end Sys2Proof.Machine
end

