-- ==== Sys2Proof/Machine/StPort.lean ====
section
/-!
DEFINITION. State of the port dies and their line interfaces (Ports and Line Interfaces, R517 to
R544). Die index 0 is P0, 1 is P1.
-/

namespace Sys2Proof.Machine

/-- A delivered message that waits in the receive buffer: its assignment, the flits still to be
pushed, whether the next is its first, and the buffer words it holds (R521). -/
structure RouteMsg where
  a : Nat
  flits : List (List Word)
  first : Bool
  /-- words of room held until the last flit has been pushed -/
  room : Nat
  /-- CK1 time of the first push that R394 allows -/
  readyAt : Nat
deriving DecidableEq, Repr

/-- A formed message on its way to the MAC: its transmit assignment, its words with the header, the POLY of the
assignment, its port position, and the CK1 time of the hand-over (R387). -/
structure TxHand where
  a : Nat
  words : List Word
  poly : Nat
  pos : Nat
  at_ : Nat
deriving DecidableEq, Repr

/-- A management request taken under the boot settings, until its response is sent: CMD, SEQ and the source address of
its frame (R92, R395). -/
structure BootAsk where
  cmd : Word
  seq : Word
  src : BitVec 48
deriving DecidableEq, Repr

/-- A frame handed to a MAC: its bytes packed under R5, their number with FCS, the CK1 time of the
hand-over, whether it is a FRAME entry of the mailbox, and the transmit assignment otherwise
(R520, R523). -/
structure TxFrame where
  words : List Word
  bytes : Nat
  handedAt : Nat
  entry : Bool
  assign : Nat
  /-- protected by MACsec (R524) -/
  secured : Bool
deriving DecidableEq, Repr

/-- An installed secure association (R524). -/
structure SaSt where
  key : List Word
  /-- transmit: next PN; receive: the lowest acceptable PN -/
  pn : Nat
  /-- ETH_PN has been reported for the association -/
  reported : Bool
deriving DecidableEq, Repr

/-- One Ethernet position of a port die (R519, R520, R539). -/
structure EthPort where
  link : Bool := false
  rxBad : Word := 0
  rxOther : Word := 0
  rxLong : Word := 0
  txLost : Word := 0
  secFail : Word := 0
  rxFrm : BitVec 32 := 0
  txFrm : BitVec 32 := 0
  /-- frames handed over and not yet started, oldest first -/
  txq : List TxFrame := []
  /-- first CK1 time at which the next frame may start (R520) -/
  freeAt : Nat := 0
  /-- TIME_TXTSp, 80 bits (R543) -/
  txTs : BitVec 80 := 0
deriving DecidableEq, Repr

/-- A MGMT entry being sent as a protected message: start time, assignment and flits (R523). -/
structure MbxSend where
  assign : Nat
  flits : List (List Word)
  /-- CK1 time of the start; none while the assignment is within a queue message -/
  startAt : Option Nat
  /-- CK1 time of the hand-over, once the start has been made -/
  doneAt : Option Nat
deriving DecidableEq, Repr

/-- 10BASE-T1S of a port die (R527, R528). -/
structure T1sSt where
  /-- no BEACON for 1 ms: nothing is sent until the next -/
  noBeacon : Bool := false
  /-- CK1 time of the last BEACON -/
  beaconAt : Nat := 0
  dupCnt : Word := 0
  noBcnCnt : Word := 0
  txDrop : Word := 0
  /-- consecutive cycles with a collision for the frame at the head -/
  run : Nat := 0
deriving DecidableEq, Repr

/-- A received CAN frame that waits for credit: destination die and queue, and its flits left. -/
structure CanRx where
  die : Nat
  q : Nat
  flits : List (List Word)
  /-- CK1 time from which the first flit may be pushed: 6 CK4 after the sample point (R530) -/
  readyAt : Nat
deriving DecidableEq, Repr

/-- One CAN controller (R529, R530, R541). -/
structure CanSt where
  /-- 0 error active, 1 error passive, 2 bus-off -/
  state : BitVec 2 := 0
  tec : BitVec 8 := 0
  recv : Word := 0
  rxMiss : Word := 0
  rxOvf : Word := 0
  txDrop : Word := 0
  txBad : Word := 0
  fifo : List CanRx := []
  /-- a poisoned flit of the message at the head has been discarded (R294) -/
  txPoison : Bool := false
  /-- the whole message being sent, kept while arbitration is lost -/
  sending : Option (List Word) := none
deriving DecidableEq, Repr

/-- The motion sensor interface (R531, R542). -/
structure MsiSt where
  pulses : BitVec 32 := 0
  rateErr : Word := 0
  /-- received bytes, oldest first -/
  drx : List Byte := []
  /-- the byte last sent on MS_DATA -/
  dtx : Option Byte := none
  /-- CK1 time of the last counted rising edge -/
  edgeAt : Option Nat := none
deriving DecidableEq, Repr

/-- One card slot (R532, R542). -/
structure CardSt where
  present : Bool := false
  active : Bool := false
  /-- received characters with PERR, oldest first -/
  rx : List (Byte × Bool) := []
  /-- characters sent, newest first -/
  tx : List Byte := []
  removals : Word := 0
deriving DecidableEq, Repr

/-- One SPI unit: key 0 P0 unit 0, 1 P1 unit 0, 2 P1 unit 1 (R533, R542). -/
structure SpiSt where
  rx : List Word := []
  tx : List Word := []
  busy : Bool := false
  /-- CK1 instant of an automatic transfer that runs, SPIM1 only -/
  autoAt : Option Nat := none
  autoLate : Word := 0
deriving DecidableEq, Repr

/-- The UART and the GPIOs of a port die (R535, R536). -/
structure UartSt where
  /-- received bytes with their error bit, oldest first -/
  rx : List (Byte × Bool) := []
  tx : List Byte := []
  /-- SPIU_GIN: levels of the pins that are inputs, as last read -/
  gin : BitVec 8 := 0
deriving DecidableEq, Repr

/-- One port die (R517 to R544). -/
structure PortDieSt where
  mbxRx : List Word := []
  mbxTx : List Word := []
  send : Option MbxSend := none
  mbxDrop : Word := 0
  rxFull : Word := 0
  /-- source address of the last management frame taken under the boot settings (R395) -/
  peer : BitVec 48 := 0
  /-- requests taken under the boot settings and not yet answered, oldest first (R395) -/
  asked : List BootAsk := []
  /-- messages formed and not yet handed to the MAC, in the order of their hand-overs (R387) -/
  hands : List TxHand := []
  /-- words of the receive buffer taken (R521) -/
  room : Nat := 0
  waiting : List RouteMsg := []
  /-- ETH_SAKEY words, by offset 0 to 15 -/
  saKey : SMap Word := []
  /-- installed associations, key 4 × DIR + AN -/
  sa : SMap (Option SaSt) := []
  t1s : T1sSt := {}
  uart : UartSt := {}
deriving DecidableEq, Repr

/-- All ports. Keys: die 0, 1; Ethernet position 8 × die + p; CAN controller 2 × die + k; card slot;
SPI unit. -/
structure PortSt where
  die : SMap PortDieSt := []
  eth : SMap EthPort := []
  can : SMap CanSt := []
  msi : MsiSt := {}
  card : SMap CardSt := []
  spi : SMap SpiSt := []
  /-- PPS_OUT, and the CK1 time of its rising edge (R537) -/
  ppsOut : Bool := false
  ppsAt : Nat := 0
deriving DecidableEq, Repr

end Sys2Proof.Machine
end

