-- ==== Sys2Proof/Machine/State.lean ====
section
/-!
DEFINITION. The state of the LK8 as plain data, what a step may stop with, and the state after
reset: the device in power-on reset, before power is good (R447).
-/

namespace Sys2Proof.Machine

/-- The whole device. The parts are described in the files that declare them. -/
structure State where
  /-- CK1 cycles since the model's time began; the alignment marker of R46 is counted in it -/
  now : Nat
  /-- the model's own counter of free values drawn so far (assumption 3) -/
  free : Nat
  /-- dies, links, enumeration (R12 to R44) -/
  dies : DiesSt
  /-- clocks and the clock monitor (R45 to R65) -/
  clk : ClkSt
  /-- the CSR space (R6 to R11) -/
  csr : CsrSt
  /-- structure image and management commands (R66 to R99) -/
  cfg : CfgSt
  /-- the supervision frame (R100 to R142) -/
  lat : LatSt
  /-- Sifters 0 and 1 (R107 to R122) -/
  sifter : SMap SifterSt
  /-- the Verdict Gate (R143 to R164) -/
  vdg : VdgSt
  /-- the time base (R165 to R170) -/
  time : TimeSt
  /-- the Position Attestor (R171 to R177) -/
  pos : PosSt
  /-- the sample integrator (R172) -/
  integ : IntegSt
  /-- the Ledger Unit (R178 to R198) -/
  ldg : LdgSt
  /-- the cores, keyed by core number (R199 to R239) -/
  core : SMap CoreSt
  /-- the lockstep logic of the engines, keyed by engine number (R349 to R374) -/
  eng : SMap EngSt
  /-- the voted Trifle (R375 to R379) -/
  trf : TrfSt
  /-- the credit queues, keyed by 512 × die + index (R273 to R298) -/
  queue : SMap QueueSt
  /-- the memory behind the word address map (R41) -/
  mem : MemSt
  /-- the HBM controllers (R299 to R323) -/
  hbm : HbmSt
  /-- the pool and scratchpad scrubbers (R310, R311) -/
  pool : PoolSt
  /-- the check-value units (R382 to R400) -/
  cvu : CvuSt
  /-- the Crumb tray (R401 to R428) -/
  crb : CrbSt
  /-- the watchdogs (R429 to R446) -/
  wdt : WdtSt
  /-- start-up, resets and update (R447 to R470) -/
  boot : BootSt
  /-- custody and tamper (R471 to R497) -/
  cus : CusSt
  /-- the TAP and debug (R487 to R500) -/
  dbg : DbgSt
  /-- the biscuit tin and the field record (R501 to R516) -/
  bbx : BbxSt
  /-- the ports (R517 to R544) -/
  port : PortSt
  /-- the commands that wait, first in, first out -/
  pending : List Instr
deriving DecidableEq, Repr

/-- No command of the LK8 stops with a fault: an access that the device refuses is its own
ACCESS_ERROR, an event inside the state. The one constructor names the memory form that no step
leaves: raised by none; safe. -/
inductive Fault where
  /-- the listed memory is not in its canonical form (raised by no command; safe) -/
  | memoryForm
deriving DecidableEq, Repr

/-- Why a command is refused by the model. -/
inductive Refusal where
  /-- the command has no meaning in this model yet; raised by the dispatch only; safe -/
  | notModelled (mnemonic : String)
deriving DecidableEq, Repr

/-- The machine before power is good: in power-on reset, every register at its reset value, memory
with nothing listed and no command waiting (R447, R449). -/
def State.reset : State where
  now := 0
  free := 0
  dies := {}
  clk := {}
  csr := {}
  cfg := {}
  lat := {}
  sifter := []
  vdg := {}
  time := {}
  pos := {}
  integ := {}
  ldg := {}
  core := []
  eng := []
  trf := {}
  queue := []
  mem := {}
  hbm := {}
  pool := {}
  cvu := {}
  crb := {}
  wdt := {}
  boot := {}
  cus := {}
  dbg := {}
  bbx := {}
  port := {}
  pending := []

end Sys2Proof.Machine
end

