-- ==== Sys2Proof/Machine/Base.lean ====
section
/-!
DEFINITION. Counting, time and the accessors of the state: saturating counters, clock edges (R45,
R57), device time (R165, R166), and one getter and one updater for every indexed part of the state.
-/

namespace Sys2Proof.Machine

/-- What an unlisted key reads as, where that is the same for every key. -/
abbrev dflt {α : Type} (a : α) : Nat → α := fun _ => a

/-- Adding one to a counter that saturates at its largest value. -/
def satInc {n : Nat} (x : BitVec n) : BitVec n := if x = BitVec.allOnes n then x else x + 1

/-- Adding a number to a counter that saturates at its largest value. -/
def satAdd {n : Nat} (x : BitVec n) (k : Nat) : BitVec n :=
  if x.toNat + k < 2 ^ n then BitVec.ofNat n (x.toNat + k) else BitVec.allOnes n

/-- Replacing one bit. -/
def setBit {n : Nat} (x : BitVec n) (i : Nat) (b : Bool) : BitVec n :=
  if b then x ||| BitVec.ofNat n (2 ^ i) else x &&& ~~~(BitVec.ofNat n (2 ^ i))

/-- A Bool as a number. -/
def b2n (b : Bool) : Nat := if b then 1 else 0

/-- The words of a value, low word first (R10). -/
def wordsLow (k : Nat) (v : Nat) : List Word := (List.range k).map (fun i => BitVec.ofNat 16 (v / 2 ^ (16 * i)))

/-- The words of a value, most significant word first (R69). -/
def wordsHigh (k : Nat) (v : Nat) : List Word := (wordsLow k v).reverse

/-- The value of words, low word first. -/
def ofWordsLow : List Word → Nat
  | [] => 0
  | w :: ws => w.toNat + 65536 * ofWordsLow ws

/-- The value of words, most significant word first. -/
def ofWordsHigh (ws : List Word) : Nat := ofWordsLow ws.reverse

/-- A list cut or padded with zero words to a length. -/
def fitW (n : Nat) (ws : List Word) : List Word := (ws ++ List.replicate n 0).take n

/-- The word at a place of a list, 0 beyond its end. -/
def wordAt (ws : List Word) (i : Nat) : Word := ws.getD i 0

/-! ### Time -/

/-- The state at time t: the model's time never runs back. -/
def State.to (s : State) (t : Nat) : State := { s with now := max s.now t }

/-- What a step brings about at a later stage of its own, as of the CK1 time t: the state's own time does not move
(assumption 113). -/
def State.during (s : State) (t : Nat) (f : State → State) : State :=
  { f { s with now := max s.now t } with now := s.now }

/-- The first edge at or after t of a clock whose period is r CK1, counted from the first alignment
marker after the most recent reset (R46, R57). -/
def edgeUp (s : State) (r t : Nat) : Nat := s.clk.marker + ((t - s.clk.marker) + (r - 1)) / r * r

/-- CK8 cycles since the first alignment marker: CLK_TICK (R47). -/
def State.clkTick (s : State) : Nat := (s.now - s.clk.marker) / ck8

/-- The CK4 cycle of a time, counted from the first alignment marker (R427). -/
def ck4Cycle (s : State) (t : Nat) : Nat := (t - s.clk.marker) / ck4

/-- Device time in units of 2⁻³² ns (R166). -/
def State.time32 (s : State) : Nat := s.time.base + s.time.step * (s.clkTick - s.time.tick)

/-- Device time as of now becomes the base of what follows; in HOLDOVER the advance since the last base is
kept for TIME_UNC (R166, R169). -/
def State.rebase (s : State) : State :=
  { s with time := { s.time with
    base := s.time32, tick := s.clkTick
    hoAcc := if s.time.tq = .holdover then s.time.hoAcc + s.time.step * (s.clkTick - s.time.tick)
      else s.time.hoAcc } }

/-- Device time in whole ns (R165). -/
def State.timeNs (s : State) : Nat := s.time32 / 2 ^ 32

/-- Device time in whole seconds, 48 bits (R165). -/
def State.timeSec (s : State) : BitVec 48 := BitVec.ofNat 48 (s.timeNs / 1000000000)

/-- The ns part of device time (R165). -/
def State.timeFrac (s : State) : BitVec 32 := BitVec.ofNat 32 (s.timeNs % 1000000000)

/-- TIME_NOW: bits 31:0 ns, bits 79:32 seconds (R193). -/
def State.timeNow (s : State) : BitVec 80 := s.timeSec ++ s.timeFrac

/-- Device time in µs modulo 2⁴⁸ (R165). -/
def State.timeUs (s : State) : BitVec 48 := BitVec.ofNat 48 (s.timeNs / 1000)

/-- Time in units of 2⁻³² ns of a TIME_NOW value. -/
def time32Of (v : BitVec 80) : Nat :=
  ((v.toNat / 2 ^ 32) * 1000000000 + v.toNat % 2 ^ 32) * 2 ^ 32

/-! ### Accessors -/

/-- The die with this ring address. -/
def State.die (s : State) (k : Nat) : DieSt := s.dies.die.get (dflt {}) k
/-- Changing a die. -/
def State.modDie (s : State) (k : Nat) (f : DieSt → DieSt) : State :=
  { s with dies := { s.dies with die := s.dies.die.modify (dflt {}) k f } }
/-- Link n of a die (R19). -/
def State.link (s : State) (d n : Nat) : LinkSt := s.dies.link.get (dflt {}) (8 * d + n)
/-- Changing a link. -/
def State.modLink (s : State) (d n : Nat) (f : LinkSt → LinkSt) : State :=
  { s with dies := { s.dies with link := s.dies.link.modify (dflt {}) (8 * d + n) f } }
/-- Sifter n. -/
def State.sft (s : State) (n : Nat) : SifterSt := s.sifter.get (dflt {}) n
/-- Changing a Sifter. -/
def State.modSft (s : State) (n : Nat) (f : SifterSt → SifterSt) : State :=
  { s with sifter := s.sifter.modify (dflt {}) n f }
/-- A core. -/
def State.coreOf (s : State) (c : Nat) : CoreSt := s.core.get (dflt {}) c
/-- The lockstep logic of an engine. -/
def State.engOf (s : State) (e : Nat) : EngSt := s.eng.get (dflt {}) e
/-- Core 2e of an engine leads a pair: core 2e + 1 repeats what it does (R349). -/
def State.leads (s : State) (c : Nat) : Bool := c % 2 == 0 && (s.engOf (c / 2)).paired
/-- Changing a core; what the main core of a pair becomes, its checker becomes (R349, R353; its lag of 8 CK1:
assumption 127). -/
def State.modCore (s : State) (c : Nat) (f : CoreSt → CoreSt) : State :=
  let m := s.core.modify (dflt {}) c f
  { s with core := if s.leads c then m.modify (dflt {}) (c + 1) (fun k => (m.get (dflt {}) c).mirror k) else m }
/-- Changing the lockstep logic of an engine. -/
def State.modEng (s : State) (e : Nat) (f : EngSt → EngSt) : State :=
  { s with eng := s.eng.modify (dflt {}) e f }
/-- A queue, by die and index (R273). -/
def State.queueOf (s : State) (d q : Nat) : QueueSt := s.queue.get (dflt {}) (512 * d + q)
/-- Changing a queue. -/
def State.modQueue (s : State) (d q : Nat) (f : QueueSt → QueueSt) : State :=
  { s with queue := s.queue.modify (dflt {}) (512 * d + q) f }
/-- HBM stack n. -/
def State.stackOf (s : State) (n : Nat) : StackSt := if n = 0 then s.hbm.stack0 else s.hbm.stack1
/-- Changing an HBM stack. -/
def State.modStack (s : State) (n : Nat) (f : StackSt → StackSt) : State :=
  { s with hbm := if n = 0 then { s.hbm with stack0 := f s.hbm.stack0 }
                  else { s.hbm with stack1 := f s.hbm.stack1 } }
/-- A watchdog; a period of TWD0 and TWD1 or of an engine watchdog. -/
def State.wdtOf (s : State) (k : Nat) : WdtUnit := s.wdt.unit.get (dflt {}) k
/-- Changing a watchdog. -/
def State.modWdt (s : State) (k : Nat) (f : WdtUnit → WdtUnit) : State :=
  { s with wdt := { s.wdt with unit := s.wdt.unit.modify (dflt {}) k f } }
/-- A receive assignment of a CVU: P 0 or 1. -/
def State.rxOf (s : State) (p a : Nat) : RxAssign := s.cvu.rx.get (dflt {}) (16 * p + a)
/-- Changing a receive assignment. -/
def State.modRx (s : State) (p a : Nat) (f : RxAssign → RxAssign) : State :=
  { s with cvu := { s.cvu with rx := s.cvu.rx.modify (dflt {}) (16 * p + a) f } }
/-- A transmit assignment of a CVU. -/
def State.txOf (s : State) (p a : Nat) : TxAssign := s.cvu.tx.get (dflt {}) (16 * p + a)
/-- Changing a transmit assignment. -/
def State.modTx (s : State) (p a : Nat) (f : TxAssign → TxAssign) : State :=
  { s with cvu := { s.cvu with tx := s.cvu.tx.modify (dflt {}) (16 * p + a) f } }
/-- A port die, P 0 or 1. -/
def State.pdie (s : State) (p : Nat) : PortDieSt := s.port.die.get (dflt {}) p
/-- Changing a port die. -/
def State.modPdie (s : State) (p : Nat) (f : PortDieSt → PortDieSt) : State :=
  { s with port := { s.port with die := s.port.die.modify (dflt {}) p f } }
/-- An Ethernet position of a port die. -/
def State.ethOf (s : State) (p k : Nat) : EthPort := s.port.eth.get (dflt {}) (8 * p + k)
/-- Changing an Ethernet position. -/
def State.modEth (s : State) (p k : Nat) (f : EthPort → EthPort) : State :=
  { s with port := { s.port with eth := s.port.eth.modify (dflt {}) (8 * p + k) f } }
/-- A CAN controller. -/
def State.canOf (s : State) (p k : Nat) : CanSt := s.port.can.get (dflt {}) (2 * p + k)
/-- Changing a CAN controller. -/
def State.modCan (s : State) (p k : Nat) (f : CanSt → CanSt) : State :=
  { s with port := { s.port with can := s.port.can.modify (dflt {}) (2 * p + k) f } }
/-- A card slot. -/
def State.cardOf (s : State) (n : Nat) : CardSt := s.port.card.get (dflt {}) n
/-- Changing a card slot. -/
def State.modCard (s : State) (n : Nat) (f : CardSt → CardSt) : State :=
  { s with port := { s.port with card := s.port.card.modify (dflt {}) n f } }
/-- An SPI unit: 0 SPIM0, 1 SPIM1, 2 SPIM2. -/
def State.spiOf (s : State) (n : Nat) : SpiSt := s.port.spi.get (dflt {}) n
/-- Changing an SPI unit. -/
def State.modSpi (s : State) (n : Nat) (f : SpiSt → SpiSt) : State :=
  { s with port := { s.port with spi := s.port.spi.modify (dflt {}) n f } }
/-- What the Gate holds of a producer. -/
def State.prodOf (s : State) (n : Nat) : ProdSt := s.vdg.prod.get (dflt {}) n
/-- Changing what the Gate holds of a producer. -/
def State.modProd (s : State) (n : Nat) (f : ProdSt → ProdSt) : State :=
  { s with vdg := { s.vdg with prod := s.vdg.prod.modify (dflt {}) n f } }
/-- CFG_BOOTk of a kind. -/
def State.bootKind (s : State) (k : Nat) : BootKind := s.boot.kind.get (dflt {}) k
/-- Changing CFG_BOOTk. -/
def State.modBootKind (s : State) (k : Nat) (f : BootKind → BootKind) : State :=
  { s with boot := { s.boot with kind := s.boot.kind.modify (dflt {}) k f } }

/-- The number of a Sifter operand. -/
def sftNo (n : Bool) : Nat := if n then 1 else 0

/-- The port die index of a `p1` operand. -/
def portNo (p1 : Bool) : Nat := if p1 then 1 else 0

/-- Drawing a free value: the number of the draw and the state after it (assumption 3). -/
def State.draw (s : State) : Nat × State := (s.free, { s with free := s.free + 1 })

end Sys2Proof.Machine
end

