-- ==== Sys2Proof/Machine/Mem.lean ====
section
/-!
DEFINITION. Memory: the word address map (R41), what an unlisted byte reads as (assumption 4), and
reading and writing bytes and words under the byte order of R5.
-/

namespace Sys2Proof.Machine

/-- First word and number of words of the flash (R41). -/
abbrev flashBase : Nat := 0x00F000000000
/-- Words of the flash (R41). -/
abbrev flashLen : Nat := 0x10000000
/-- First word of the MRAM (R41). -/
abbrev mramBase : Nat := 0x00F100000000
/-- Words of the MRAM (R41). -/
abbrev mramLen : Nat := 0x2000000
/-- First word of the OTP (R41). -/
abbrev otpBase : Nat := 0x00F200000000
/-- Words of the OTP (R41). -/
abbrev otpLen : Nat := 0x8000
/-- First word of the CSR space (R41). -/
abbrev csrBase : Nat := 0x00FF00000000
/-- First word of HBM stack 0 (R41); the two stacks are 2³³ words each. -/
abbrev hbmBase : Nat := 0x010000000000
/-- Words of both HBM stacks together (R41). -/
abbrev hbmLen : Nat := 0x400000000

/-- First word of the die pool of the compute die with this ring address (R41). -/
def poolBase (die : Nat) : Nat := die * 0x01000000
/-- Words of a die pool (R41). -/
abbrev poolLen : Nat := 0x800000

/-- Where the model keeps the scratchpad of a core: above the 48-bit addresses (R41, R42). -/
def spadBase (c : Nat) : Nat := (c + 1) * 2 ^ 48
/-- Words of a scratchpad (R41). -/
abbrev spadLen : Nat := 0x20000

/-- First word of the memory of Trifle copy k, which has no word address: above the scratchpads (R375, R456). -/
def trfBase (k : Nat) : Nat := (300 + k) * 2 ^ 48
/-- Words of the Trifle memory (R456). -/
abbrev trfLen : Nat := 0x80000

/-- The die whose pool an address lies in (R41). -/
def poolOf (a : Nat) : Option Nat :=
  let d := a / 0x01000000
  if decide (1 ≤ d) && decide (d ≤ 4) && decide (a % 0x01000000 < poolLen) then some d else none

/-- The HBM stack an address lies in (R41). -/
def hbmStackOf (a : Nat) : Option Nat :=
  if decide (hbmBase ≤ a) && decide (a < hbmBase + hbmLen) then some ((a - hbmBase) / 0x200000000)
  else none

/-- An address lies in a range of words. -/
def inRange (a base len : Nat) : Bool := decide (base ≤ a) && decide (a < base + len)

/-- What a byte that nothing has written reads as: erased flash reads 0xFFFF (R68, R464), everything
else 0 (assumption 4). -/
def memDefault (b : Nat) : Byte := if inRange (b / 2) flashBase flashLen then 0xFF else 0

/-- Memory lists bytes in its canonical form. -/
def MemSt.wf (m : MemSt) : Bool := SMap.wf memDefault m.bytes

/-- The byte at a byte address. -/
def State.byteAt (s : State) (b : Nat) : Byte := SMap.get memDefault s.mem.bytes b

/-- Writing a byte. -/
def State.putByte (s : State) (b : Nat) (v : Byte) : State :=
  { s with mem := { s.mem with bytes := SMap.set memDefault s.mem.bytes b v } }

/-- The word at a word address: bits 15:8 are the earlier byte (R5). -/
def State.rd (s : State) (a : Nat) : Word := s.byteAt (2 * a) ++ s.byteAt (2 * a + 1)

/-- Writing a word. -/
def State.wr (s : State) (a : Nat) (v : Word) : State :=
  (s.putByte (2 * a) (v.extractLsb' 8 8)).putByte (2 * a + 1) (v.extractLsb' 0 8)

/-- Words from an address upward. -/
def State.rds (s : State) (a n : Nat) : List Word := (List.range n).map (fun i => s.rd (a + i))

/-- Writing words from an address upward. -/
def State.wrs (s : State) (a : Nat) : List Word → State
  | [] => s
  | w :: ws => (s.wr a w).wrs (a + 1) ws

/-- Setting a range of words back to what unlisted bytes read as, with no errors. -/
def State.wipe (s : State) (base len : Nat) : State :=
  { s with mem :=
    { bytes := s.mem.bytes.filter (fun c => !(inRange (c.1 / 2) base len))
      errs := s.mem.errs.filter (fun c => !(inRange (8 * c.1) base len)) } }

/-- Writing the same word over a range of words. -/
def State.fill (s : State) (a : Nat) (n : Nat) (v : Word) : State := s.wrs a (List.replicate n v)

/-- A 32-bit value stored low word first. -/
def State.rd32 (s : State) (a : Nat) : BitVec 32 := s.rd (a + 1) ++ s.rd a

/-- The bytes of words, most significant byte of each word first (R5). -/
def bytesOf (ws : List Word) : List Byte := ws.flatMap (fun w => [w.extractLsb' 8 8, w.extractLsb' 0 8])

/-- Bytes packed into words under R5; an odd last byte fills the high half. -/
def packBytes : List Byte → List Word
  | [] => []
  | [b] => [b ++ (0 : Byte)]
  | b :: c :: bs => (b ++ c) :: packBytes bs

end Sys2Proof.Machine
end

