-- ==== Sys2Proof/Machine/Crypto.lean ====
section
/-!
DEFINITION. The check values, hashes and signatures that the device computes: CRC-32C (R73), the
CRC-16 of the management frames (R92), SHA-256, and ECDSA P-256 with the nonce of RFC 6979 (R74,
R96, R181). SHA-256, P-256 and RFC 6979 are the published standards that the manual names.
-/

namespace Sys2Proof.Machine

/-! ### CRCs -/

/-- One bit of a reflected CRC of width 32. -/
def crcStepR (poly : BitVec 32) (c : BitVec 32) : BitVec 32 :=
  if c.getLsbD 0 then (c >>> 1) ^^^ poly else c >>> 1

/-- One byte of a reflected CRC of width 32: least significant bit first. -/
def crcByteR (poly : BitVec 32) (c : BitVec 32) (b : Byte) : BitVec 32 :=
  Nat.repeat (crcStepR poly) 8 (c ^^^ b.setWidth 32)

/-- A reflected CRC of width 32 from an initial value, without final XOR. -/
def crcR (poly init : BitVec 32) (bs : List Byte) : BitVec 32 := bs.foldl (crcByteR poly) init

/-- CRC-32C of R73; 0x82F6_3B78 is 0x1EDC_6F41 reflected. -/
def crc32c (bs : List Byte) : BitVec 32 := ~~~(crcR 0x82F63B78 0xFFFFFFFF bs)

/-- One bit of an unreflected CRC of width 16. -/
def crcStep16 (poly : Word) (c : Word) : Word :=
  if c.getLsbD 15 then (c <<< 1) ^^^ poly else c <<< 1

/-- An unreflected CRC of width 16 from an initial value. -/
def crc16 (poly init : Word) (bs : List Byte) : Word :=
  bs.foldl (fun c b => Nat.repeat (crcStep16 poly) 8 (c ^^^ (b ++ (0 : Byte)))) init

/-- The CRC-16 of R92 over words. -/
def frameCrc (ws : List Word) : Word := crc16 0x1021 0xFFFF (bytesOf ws)

/-! ### SHA-256 -/

/-- The primes below 312, the first 64 of them all. -/
def shaPrimes : List Nat :=
  (List.range 312).filter (fun n => decide (2 ≤ n) && [2, 3, 5, 7, 11, 13, 17].all (fun d => n == d || n % d != 0))

/-- The integer k-th root of n, found bit by bit from bit j - 1 down on top of r. -/
def rootFrom (k n : Nat) : Nat → Nat → Nat
  | 0, r => r
  | j + 1, r => rootFrom k n j (if (r + 2 ^ j) ^ k ≤ n then r + 2 ^ j else r)

/-- The first 32 bits of the fraction of the k-th root of n, for a root below 32. -/
def rootFraction (k n : Nat) : BitVec 32 := BitVec.ofNat 32 (rootFrom k (n * 2 ^ (32 * k)) 37 0)

/-- What SHA-256 remembers between its rounds: the last four words of its two sequences, newest first. -/
structure ShaSt where
  hi : List (BitVec 32)
  lo : List (BitVec 32)
deriving DecidableEq, Repr

/-- Word i of a sequence, counted back from the newest. -/
def ago (xs : List (BitVec 32)) (i : Nat) : BitVec 32 := xs.getD i 0

/-- The exclusive or of a word's rotations. -/
def spin (rs : List Nat) (x : BitVec 32) : BitVec 32 := rs.foldl (fun acc r => acc ^^^ x.rotateRight r) 0

/-- Before the first block: the fractions of the square roots of the first eight primes. -/
def shaInit : ShaSt :=
  let r := (shaPrimes.take 8).map (rootFraction 2)
  ⟨r.take 4, r.drop 4⟩

/-- One round takes the sum of a constant and a word of the schedule. -/
def shaRound (h : ShaSt) (kw : BitVec 32) : ShaSt :=
  let choice := ago h.lo 2 ^^^ (ago h.lo 0 &&& (ago h.lo 1 ^^^ ago h.lo 2))
  let most := (ago h.hi 0 &&& (ago h.hi 1 ||| ago h.hi 2)) ||| (ago h.hi 1 &&& ago h.hi 2)
  let mix := kw + ago h.lo 3 + choice + spin [6, 11, 25] (ago h.lo 0)
  { hi := (mix + most + spin [2, 13, 22] (ago h.hi 0)) :: h.hi.take 3
    lo := (mix + ago h.hi 3) :: h.lo.take 3 }

/-- The word that follows 16 words of the schedule, newest first. -/
def shaNext (ws : List (BitVec 32)) : BitVec 32 :=
  let x := ago ws 14
  let y := ago ws 1
  (spin [7, 18] x ^^^ (x >>> 3)) + (spin [17, 19] y ^^^ (y >>> 10)) + ago ws 6 + ago ws 15

/-- The rounds of a block: one for each constant, the schedule (newest word first) growing as it is used. -/
def shaRounds : List Nat → List (BitVec 32) → ShaSt → ShaSt
  | [], _, h => h
  | p :: ps, ws, h => shaRounds ps (shaNext ws :: ws.take 15) (shaRound h (rootFraction 3 p + ago ws 15))

/-- Compressing one block of 16 words. -/
def shaBlock (h : ShaSt) (blk : List (BitVec 32)) : ShaSt :=
  let t := shaRounds shaPrimes blk.reverse h
  { hi := List.zipWith (fun x y => x + y) h.hi t.hi, lo := List.zipWith (fun x y => x + y) h.lo t.lo }

/-- Bytes as 32-bit words, first byte most significant. -/
def words32 : List Byte → List (BitVec 32)
  | a :: b :: c :: d :: bs => (a ++ b ++ c ++ d) :: words32 bs
  | _ => []

/-- Compressing n blocks. -/
def shaBlocks : Nat → ShaSt → List (BitVec 32) → ShaSt
  | 0, h, _ => h
  | n + 1, h, ws => shaBlocks n (shaBlock h (ws.take 16)) (ws.drop 16)

/-- The padding of a message of n bytes. -/
def shaPad (n : Nat) : List Byte :=
  (0x80 : Byte) :: List.replicate ((119 - n % 64) % 64) 0 ++ bytesOf (wordsHigh 4 (8 * n))

/-- SHA-256 of bytes. -/
def sha256 (bs : List Byte) : W256 :=
  let ws := words32 (bs ++ shaPad bs.length)
  let h := shaBlocks (ws.length / 16) shaInit ws
  BitVec.ofNat 256 ((h.hi ++ h.lo).foldl (fun acc w => acc * 2 ^ 32 + w.toNat) 0)

/-- SHA-256 of words in the byte order of R5. -/
def sha (ws : List Word) : W256 := sha256 (bytesOf ws)

/-- A 256-bit number as 16 words, most significant word first (R69). -/
def w256Words (x : W256) : List Word := wordsHigh 16 x.toNat

/-- The bytes of a 256-bit number, most significant first. -/
def w256Bytes (x : W256) : List Byte := bytesOf (w256Words x)

/-- 16 words, most significant first, as a 256-bit number (R69). -/
def wordsW256 (ws : List Word) : W256 := BitVec.ofNat 256 (ofWordsHigh (ws.take 16))

/-! ### ECDSA P-256 -/

/-- The field prime of P-256. -/
def p256 : Nat := 0xffffffff00000001000000000000000000000000ffffffffffffffffffffffff
/-- The group order of P-256. -/
def n256 : Nat := 0xffffffff00000000ffffffffffffffffbce6faada7179e84f3b9cac2fc632551
/-- The curve coefficient b of P-256. -/
def b256 : Nat := 0x5ac635d8aa3a93e7b3ebbd55769886bc651d06b0cc53b0f63bce3c3e27d2604b
/-- The base point of P-256. -/
def g256 : Nat × Nat :=
  (0x6b17d1f2e12c4247f8bce6e563a440f277037d812deb33a0f4a13945d898c296,
   0x4fe342e2fe1a7f9b8ee7eb4a7c0f9e162bce33576b315ececbb6406837bf51f5)

/-- a to the e modulo m, over the 256 low bits of e. -/
def powMod (m : Nat) : Nat → Nat → Nat → Nat
  | 0, _, _ => 1
  | k + 1, a, e =>
    let r := powMod m k (a * a % m) (e / 2)
    if e % 2 = 1 then a * r % m else r

/-- The inverse modulo a prime. -/
def invMod (m a : Nat) : Nat := powMod m 256 (a % m) (m - 2)

/-- Subtraction modulo m. -/
def subMod (m a b : Nat) : Nat := (a + (m - b % m)) % m

/-- The sum of two points; none is the point at infinity. -/
def ptAdd : Option (Nat × Nat) → Option (Nat × Nat) → Option (Nat × Nat)
  | none, q => q
  | p, none => p
  | some (x1, y1), some (x2, y2) =>
    if x1 = x2 && (y1 + y2) % p256 = 0 then none
    else
      let l := if x1 = x2 then (3 * x1 * x1 + (p256 - 3)) % p256 * invMod p256 (2 * y1) % p256
        else subMod p256 y2 y1 * invMod p256 (subMod p256 x2 x1) % p256
      let x3 := subMod p256 (subMod p256 (l * l) x1) x2
      some (x3, subMod p256 (l * subMod p256 x1 x3) y1)

/-- k times a point, over the low bits of k. -/
def ptMul : Nat → Nat → Option (Nat × Nat) → Option (Nat × Nat)
  | 0, _, _ => none
  | f + 1, k, p =>
    let r := ptMul f (k / 2) (ptAdd p p)
    if k % 2 = 1 then ptAdd p r else r

/-- A public key: X and Y. -/
abbrev PubKey := W256 × W256

/-- The point lies on P-256. -/
def onCurve (q : PubKey) : Bool :=
  let x := q.1.toNat
  let y := q.2.toNat
  decide (x < p256) && decide (y < p256) && decide (y * y % p256 = (x * x * x + (p256 - 3) * x + b256) % p256)

/-- ECDSA P-256 verification of a SHA-256 digest. -/
def ecdsaVerify (q : PubKey) (h : W256) (r s : W256) : Bool :=
  let r := r.toNat
  let t := s.toNat
  decide (1 ≤ r) && decide (r < n256) && decide (1 ≤ t) && decide (t < n256) && onCurve q &&
    (let w := invMod n256 t
     let u1 := h.toNat * w % n256
     let u2 := r * w % n256
     match ptAdd (ptMul 256 u1 (some g256)) (ptMul 256 u2 (some (q.1.toNat, q.2.toNat))) with
     | none => false
     | some (x, _) => x % n256 == r)

/-- Verification of a signature block, r then s (R69). -/
def verifyBlock (q : PubKey) (h : W256) (sig : List Word) : Bool :=
  ecdsaVerify q h (wordsW256 (sig.take 16)) (wordsW256 ((sig.drop 16).take 16))

/-- HMAC-SHA-256 with a key of 32 bytes. -/
def hmac (key msg : List Byte) : W256 :=
  let k := key ++ List.replicate 32 0
  sha256 (k.map (fun b => b ^^^ (0x5C : Byte)) ++
    w256Bytes (sha256 (k.map (fun b => b ^^^ (0x36 : Byte)) ++ msg)))

/-- The nonce search of RFC 6979, over at most `f` candidates. -/
def nonce6979 : Nat → List Byte → List Byte → Nat
  | 0, _, _ => 1
  | f + 1, k, v =>
    let v := w256Bytes (hmac k v)
    let c := (wordsW256 (packBytes v)).toNat
    if decide (1 ≤ c) && decide (c < n256) then c
    else
      let k := w256Bytes (hmac k (v ++ [0]))
      nonce6979 f k (w256Bytes (hmac k v))

/-- ECDSA P-256 with the deterministic nonce of RFC 6979 and SHA-256 over a digest: r and s (R181). -/
def ecdsaSign (d : Nat) (h : W256) : W256 × W256 :=
  let x := w256Bytes (BitVec.ofNat 256 d)
  let m := w256Bytes (BitVec.ofNat 256 (h.toNat % n256))
  let v := List.replicate 32 (0x01 : Byte)
  let k := w256Bytes (hmac (List.replicate 32 0) (v ++ [0] ++ x ++ m))
  let v := w256Bytes (hmac k v)
  let k := w256Bytes (hmac k (v ++ [1] ++ x ++ m))
  let v := w256Bytes (hmac k v)
  let n := nonce6979 64 k v
  match ptMul 256 n (some g256) with
  | none => (0, 0)
  | some (px, _) =>
    let r := px % n256
    (BitVec.ofNat 256 r, BitVec.ofNat 256 (invMod n256 n * ((h.toNat + r * d) % n256) % n256))

/-- The public key of a private scalar. -/
def pubOf (d : Nat) : PubKey :=
  match ptMul 256 d (some g256) with
  | none => (0, 0)
  | some (x, y) => (BitVec.ofNat 256 x, BitVec.ofNat 256 y)

end Sys2Proof.Machine
end

