-- ==== Sys2Proof/Machine/Ops.lean ====
section
/-!
DEFINITION. The operations that the meanings share: stored registers, the numbers of dies and cores
(R13 to R15), fault reports (R401 to R403), the biscuit tin's and the ledger's hand-overs (R178,
R180, R503, R506), and the counters of the field record (R510).
-/

namespace Sys2Proof.Machine

/-! ### Stored registers -/

/-- What a CSR word holds at reset, by its key. -/
def csrReset (k : Nat) : Word :=
  let die := k / 0x1000000
  let blk := k / 0x10000 % 0x100
  let off := k % 0x10000
  match regAt die blk off with
  | none => 0
  | some r => BitVec.ofNat 16 (r.reset / 2 ^ (16 * r.word off))

/-- The stored word of a register. -/
def State.reg (s : State) (die blk off : Nat) : Word := s.csr.store.get csrReset (csrKey die blk off)

/-- Storing a word of a register. -/
def State.setReg (s : State) (die blk off : Nat) (v : Word) : State :=
  { s with csr := { s.csr with store := s.csr.store.set csrReset (csrKey die blk off) v } }

/-- The stored value of a field of w words, low word first (R10). -/
def State.regN (s : State) (die blk off w : Nat) : Nat :=
  ofWordsLow ((List.range w).map (fun i => s.reg die blk (off + i)))

/-- The word of a structure-image register that is in force: the one that the last commit took (R83). -/
def State.live (s : State) (die blk off : Nat) : Word := s.csr.live.get csrReset (csrKey die blk off)

/-- A field of w words in force, low word first. -/
def State.liveN (s : State) (die blk off w : Nat) : Nat :=
  ofWordsLow ((List.range w).map (fun i => s.live die blk (off + i)))

/-- A field of a word in force. -/
def State.fldL (s : State) (die blk off hi lo : Nat) : Nat := bits (s.live die blk off).toNat hi lo

/-- A one-bit field of a word in force. -/
def State.flagL (s : State) (die blk off i : Nat) : Bool := (s.live die blk off).getLsbD i

/-- Storing words of consecutive registers. -/
def State.setRegs (s : State) (die blk off : Nat) : List Word → State
  | [] => s
  | w :: ws => (s.setReg die blk off w).setRegs die blk (off + 1) ws

/-- Setting bits of a stored word. -/
def State.orReg (s : State) (die blk off : Nat) (v : Word) : State :=
  s.setReg die blk off (s.reg die blk off ||| v)

/-- A field of a stored word. -/
def State.fld (s : State) (die blk off hi lo : Nat) : Nat := bits (s.reg die blk off).toNat hi lo

/-- A one-bit field of a stored word. -/
def State.flag (s : State) (die blk off i : Nat) : Bool := (s.reg die blk off).getLsbD i

/-! ### Dies, engines and cores (R13 to R16, R274) -/

/-- The compute die of an engine's main core (R13). -/
def engDie (e : Nat) : Nat := 1 + e / 32
/-- The slot of an engine's main core (R15). -/
def engSlot (e : Nat) : Nat := e % 32
/-- The partner of a compute die (R13). -/
def partner (d : Nat) : Nat := if d = 1 then 2 else if d = 2 then 1 else if d = 3 then 4 else 3
/-- The engine whose main core stands in a slot of a compute die. -/
def engAt (die slot : Nat) : Nat := 32 * (die - 1) + slot
/-- The watchdog whose registers stand at an offset of a die's WDT block (R445). -/
def wdtAt (d off : Nat) : Nat :=
  if d = 0 then (off - 0x200) / 0x10
  else 256 + 2 * engAt d ((off - 0x200) % 0x200 / 0x10) + (off - 0x200) / 0x200

/-- The engine of a core. -/
def coreEng (c : Nat) : Nat := c / 2
/-- Core M or K of an engine (R274). -/
def coreIdx (c : Nat) : Nat := c % 2
/-- The die of a core's registers: its engine control block (R44). -/
def coreDie (c : Nat) : Nat := engDie (c / 2)
/-- The engine control block of a core: block number and base offset (R43, R238). -/
def coreBlk (c : Nat) : Nat := 0x10 + engSlot (c / 2)
/-- The base offset of a core's registers in its engine control block (R238). -/
def coreOff (c : Nat) : Nat := 0x100 * (c % 2)
/-- The physical die of a core: En.K stands on the partner die (R15, R16). -/
def coreOn (c : Nat) : Nat := if c % 2 = 0 then engDie (c / 2) else partner (engDie (c / 2))

/-- The engines of a compute die's partner pair (R28). -/
def pairEngines (die : Nat) : List Nat :=
  (List.range 64).map (fun i => (if die ≤ 2 then 0 else 64) + i)

/-- Ring addresses of the dies that are present, as DIE_PRESENT (R38): the hub always is. -/
def State.present (s : State) : BitVec 8 :=
  BitVec.ofNat 8 (((List.range 8).filter (fun k => k == 0 || (s.die k).present)).foldl (fun a k => a + 2 ^ k) 0)

/-- The NV die is known to be absent or fenced: nothing can be written there (R24, R514). -/
def State.nvGone (s : State) : Bool := s.dies.enumEnd.isSome && (!(s.die 7).present || (s.die 7).fenced)

/-! ### Lifecycle and context -/

/-- The lifecycle: 0 MANUFACTURE, 1 PROVISIONED, 2 SEALED, 3 RETIRED (R471). -/
def State.life (s : State) : Nat :=
  if s.rd (otpBase + 3) != 0 then 3 else if s.rd (otpBase + 2) != 0 then 2
  else if s.rd (otpBase + 1) != 0 then 1 else 0

/-- The lifecycle is or has been PROVISIONED or SEALED: RETIRED keeps the tamper responses of the lifecycle before it
(R471, R472). -/
def State.provisioned (s : State) : Bool := s.rd (otpBase + 1) != 0 || s.rd (otpBase + 2) != 0

/-- CTX of records and entries (R178, R503). -/
def State.ctx (s : State) : Word :=
  BitVec.ofNat 16 (s.cfg.state.code.toNat + 8 * s.life + 32 * s.time.tq.code.toNat)

/-- The state code as a word. -/
def State.stateWord (s : State) : Word := s.cfg.state.code.setWidth 16

/-! ### Fault reports (R401 to R404) -/

/-- The fault ID of a source (R404). -/
def faultId (die blk src : Nat) : Word := BitVec.ofNat 16 (die * 8192 + blk * 128 + src)

/-- The key of a report line: its fault ID and its die, since RSVD_WRITE has one line from each die
(R401, R428). -/
def lineKey (die : Nat) (fid : Word) : Nat := fid.toNat + 65536 * die

/-- CK1 cycles from the launch of a report to its latch (R59). -/
def crossing (die : Nat) : Nat := if die = 0 then 10 * ck4 else 14 * ck4

/-- The die field of a fault ID. -/
def fidDie (f : Word) : Nat := bits f.toNat 15 13
/-- The block field of a fault ID. -/
def fidBlk (f : Word) : Nat := bits f.toNat 12 7
/-- The source index of a fault ID. -/
def fidSrc (f : Word) : Nat := bits f.toNat 6 0

/-- The die that DIE_LOST or LINK_FAIL names (R40). -/
def lostDie (f : Word) : Option Nat :=
  let i := fidSrc f
  if fidDie f = 0 && fidBlk f = 0 && (decide (1 ≤ i) && decide (i ≤ 7) || decide (0x11 ≤ i) && decide (i ≤ 0x17)) then
    some (i % 16)
  else none

/-- The fault ID is DIE_LOST or LINK_FAIL of a die that is fenced already (R31, R411). -/
def State.lostFenced (s : State) (f : Word) : Bool :=
  match lostDie f with | some d => (s.die d).fenced | none => false

/-- A report of a source on its line: launched at the first CK4 edge at or after now, unless it falls
in the 7 CK4 after the last report of the line, which then holds it (R402). -/
def State.launch (s : State) (die : Nat) (fid : Word) (rdie : Nat) (rblk : Nat) : State :=
  let l := edgeUp s ck4 s.now
  let k := lineKey die fid
  let merged := match s.crb.launched.get (dflt none) k with
    | none => false
    | some l0 => decide (l < l0 + 8 * ck4)
  if merged then s
  else
    { s with crb :=
      { s.crb with
        inflight := s.crb.inflight ++
          [⟨fid, l + crossing die, false, BitVec.ofNat 3 rdie, BitVec.ofNat 8 rblk, s.lostFenced fid⟩]
        launched := s.crb.launched.set (dflt none) k (some l) } }

/-- Reporting a source of a block (R402, R404). -/
def State.raise (s : State) (die blk src : Nat) : State := s.launch die (faultId die blk src) die blk

/-- RSVD_WRITE of a block that dropped a write, on its own die's line (R8, R428). -/
def State.raiseRsvd (s : State) (die blk : Nat) : State := s.launch die 0x0181 die blk

/-- A source that the Crumb tray detects itself: latched in the cycle of its detection (R401). -/
def State.raiseOwn (s : State) (fid : Word) (inj : Bool) (die : Nat) : State :=
  { s with crb :=
    { s.crb with
      inflight := s.crb.inflight ++ [⟨fid, edgeUp s ck4 s.now, inj, BitVec.ofNat 3 die, 0x03, false⟩] } }

/-! ### The field record's counters (R510) -/

/-- Adding to a 16-bit counter of the live field record. -/
def State.fldAdd16 (s : State) (w : Nat) (k : Nat) : State :=
  { s with bbx := { s.bbx with fld := s.bbx.fld.set (dflt 0) w (satAdd (s.bbx.fld.get (dflt 0) w) k) } }

/-- The 32-bit value at a word of the live field record, low word first. -/
def State.fld32 (s : State) (w : Nat) : BitVec 32 :=
  s.bbx.fld.get (dflt 0) (w + 1) ++ s.bbx.fld.get (dflt 0) w

/-- Storing a 32-bit value in the live field record. -/
def State.setFld32 (s : State) (w : Nat) (v : BitVec 32) : State :=
  { s with bbx :=
    { s.bbx with fld := (s.bbx.fld.set (dflt 0) w (v.extractLsb' 0 16)).set (dflt 0) (w + 1) (v.extractLsb' 16 16) } }

/-- Adding to a 32-bit counter of the live field record. -/
def State.fldAdd32 (s : State) (w : Nat) (k : Nat) : State := s.setFld32 w (satAdd (s.fld32 w) k)

/-- Counting G-code errors of class c: corrected, or uncorrectable (R510, R511). -/
def State.gcode (s : State) (c : Nat) (ue : Bool) (k : Nat) : State :=
  s.fldAdd32 (304 + 4 * c + (if ue then 2 else 0)) k

/-- BOOTNO: FLD POWERON plus FLD WARM (R503). -/
def State.bootNo (s : State) : BitVec 32 := s.fld32 6 + s.fld32 8

/-! ### The biscuit tin (R503 to R508) -/

/-- The order of requests made in one CK4 edge: ascending KIND, then ascending body word 0 (R506). -/
def BbxReq.before (a b : BbxReq) : Bool :=
  decide (a.kind.toNat < b.kind.toNat) ||
    (a.kind == b.kind && decide ((wordAt a.body 0).toNat ≤ (wordAt b.body 0).toNat))

/-- Entering a request into the FIFO behind every request of an earlier edge and every request of its
own edge that goes before it. -/
def bbxInsert (r : BbxReq) : List BbxReq → List BbxReq
  | [] => [r]
  | q :: qs => if q.edge = r.edge && !(q.before r) then r :: q :: qs else q :: bbxInsert r qs

/-- The request of an entry of this kind and body, formed now (R503). -/
def State.bbxForm (s : State) (kind : Nat) (body : List Word) (holdup : Bool) : BbxReq :=
  { kind := BitVec.ofNat 8 kind, holdup := holdup, tns := s.timeFrac, tsec := s.timeSec, ctx := s.ctx,
    bootNo := s.bootNo, body := fitW 18 body, edge := edgeUp s ck4 s.now }

/-- A discarded request: BBX_LOST, LOSS on the next entry, BBX_OVF once for the run (R506). -/
def State.bbxLose (s : State) : State :=
  let s' := { s with bbx := { s.bbx with lost := satInc s.bbx.lost, lossNext := true, ovfRun := true } }
  if s.bbx.ovfRun then s' else s'.raise 0 0x0C 1

/-- The unit begins with the oldest entry one CK4 after the edge of its request, where the boot scan is done
and nothing is being written (R506, R507). -/
def BbxSt.begin (b : BbxSt) (at_ : Nat) : BbxSt :=
  if b.ready && b.writing.isNone && !b.fifo.isEmpty then { b with writing := some at_ } else b

/-- The FIFO with a request entered in its place; an entry that is being written stays first (R506). -/
def BbxSt.enter (b : BbxSt) (r : BbxReq) (now : Nat) : List BbxReq :=
  match b.writing with
  | some w => if w ≤ now then b.fifo.take 1 ++ bbxInsert r (b.fifo.drop 1) else bbxInsert r b.fifo
  | none => bbxInsert r b.fifo

/-- A power loss has shed its load: the HBM controllers, the Sifters and the PHYs and MACs of the port dies are in reset
(R550). -/
def State.shed (s : State) : Bool := match s.boot.phase with | .flush .powerOn _ => true | _ => false

/-- A flush before a device reset runs, or has ended and waits for a zeroisation (R187, R508, R514). -/
def State.flushing (s : State) : Bool := match s.boot.phase with | .flush _ _ => true | _ => false

/-- Requesting an entry (R506): refused once a flush has started, but that of a tamper trip (R508, R514), discarded where the NV die is
absent (R514), lost where the FIFO is full or ESEQ is exhausted (R505). -/
def State.bbxReq (s : State) (kind : Nat) (body : List Word) : State :=
  if s.nvGone then s
  else if (s.flushing && kind != 0x0C) || s.bbx.full || decide (16 ≤ s.bbx.fifo.length) then s.bbxLose
  else
    let r := s.bbxForm kind body false
    { s with bbx := BbxSt.begin { s.bbx with fifo := s.bbx.enter r s.now, ovfRun := false } (r.edge + ck4) }

/-! ### The ledger's hand-over (R178 to R180, R187) -/

/-- A record formed now. -/
def State.ledgerForm (s : State) (type : Nat) (flags : Word) (body : List Word) : PendRec :=
  { type := BitVec.ofNat 8 type, flags := flags, tns := s.timeFrac, tsec := s.timeSec, ctx := s.ctx,
    body := fitW 36 body, handedAt := s.now }

/-- Handing a record to the Ledger Unit: discarded where the ledger is frozen or the unit is closing,
lost where the FIFO is full (R180, R187). -/
def State.ledgerPut (s : State) (type : Nat) (flags : Word) (body : List Word) : State :=
  if s.ldg.frozen then s
  else if s.ldg.closing then { s with ldg := { s.ldg with lossNext := true } }
  else if 256 ≤ s.ldg.pending.length then
    ({ s with ldg := { s.ldg with lost := satInc s.ldg.lost, lossNext := true } }).raise 0 0x09 1
  else { s with ldg := { s.ldg with pending := s.ldg.pending ++ [s.ledgerForm type flags body] } }

/-- The low and high words of a 32-bit value (R10). -/
def lowHigh (v : BitVec 32) : List Word := [v.extractLsb' 0 16, v.extractLsb' 16 16]

/-- A CONFIG record (R179): cause, slot, CFG_DIGEST, CFG_IMGVER, CFG_EPOCH, PACK_ID and PACK_VER. -/
def State.configRecord (s : State) (cause : Nat) (slot : Bool) : State :=
  s.ledgerPut 0x06 0
    ([BitVec.ofNat 16 cause, BitVec.ofNat 16 (b2n slot)] ++ w256Words s.cfg.digest ++ lowHigh s.cfg.imgVer ++
      lowHigh s.cfg.epoch ++ lowHigh s.lat.pack.id ++ lowHigh s.lat.pack.ver)

/-! ### The armed injection (R319) -/

/-- The class of a code (R315). -/
def GClass.ofCode (n : Nat) : GClass :=
  if n = 0 then .none else if n = 1 then .single else if n = 2 then .adj else if n = 3 then .checkbit
  else if n = 4 then .double else if n = 5 then .nibble else if n = 6 then .addr else .other

/-- The class that a mask of inverted check bits gives on the next read (R315, R319). Outside the
patterns of R315 the device gives no guarantee: the class is a free value. -/
def maskClass (m free : Word) : GClass :=
  let on := (List.range 16).filter (fun i => m.getLsbD i)
  match on with
  | [] => .none
  | [_] => .checkbit
  | [a, b] => if b = a + 1 then .checkbit else .double
  | a :: bs => if bs.all (fun b => b / 4 == a / 4) then .nibble else GClass.ofCode (free.toNat % 8)

/-- HBM_INJT: class, die, engine and core of the encoder it names, and ARM (R323). -/
def State.injt (s : State) : Nat := (s.reg 0 0x05 0x20).toNat

/-- Taking the armed injection: ARM reads 0 again, and the class that the mask gives (R319). -/
def State.takeInj (s : State) : State × GClass :=
  let x := s.draw
  (x.2.setReg 0 0x05 0x20 (BitVec.ofNat 16 (s.injt % 0x8000)),
    maskClass (s.reg 0 0x05 0x21) (Config.freeWord x.1))

/-! ### Lost writes (R205) -/

/-- STORE_NOTICE of a core: SNOTE takes the block of the first loss, counts and marks a second block
(R205). -/
def State.storeNotice (s : State) (c : Nat) (a : Nat) : State :=
  let blk : Addr := BitVec.ofNat 48 (a / 4096 * 4096)
  s.modCore c (fun k =>
    if k.snCount = 0 then { k with snAddr := blk, snCount := 1, snMulti := false }
    else { k with snCount := satInc k.snCount, snMulti := k.snMulti || k.snAddr != blk })

end Sys2Proof.Machine
end

