-- ==== Sys2Proof/Machine/QueueOps.lean ====
section
/-!
DEFINITION. The operations of the credit queues: path counts (R288, R289), settling of returned
credits and freed places, pushing, popping and discarding (R282 to R295).
-/

namespace Sys2Proof.Machine

/-- The die of an agent's end of a queue (R275): a core's quad fabric stop, the hub, a port die. -/
def Agent.die : Agent → Nat
  | .core n => coreDie n
  | .port d _ => d
  | _ => 0

/-- An agent of the hub. -/
def Agent.isHub : Agent → Bool
  | .core _ => false
  | .port _ _ => false
  | _ => true

/-- The agent is fenced: its engine, or its die (R293, R362). -/
def State.agentFenced (s : State) : Agent → Bool
  | .core n => (s.engOf (coreEng n)).state == .fenced || (s.die (coreDie n)).fenced
  | .port d _ => (s.die d).fenced
  | _ => false

/-- CK1 time at which a flit pushed now by one agent is pop-visible at another (R288, R57). -/
def State.arrival (s : State) (t : Nat) (p c : Agent) : Nat :=
  match p, c with
  | .core m, .core n =>
    if coreDie m ≠ coreDie n then t + 40
    else if coreEng m / 4 = coreEng n / 4 then t + 8 else t + 12
  | .core _, .port _ _ => edgeUp s ck4 (t + 84)
  | .core _, _ => edgeUp s ck4 (t + 36)
  | .port _ _, .core _ => edgeUp s ck4 t + 84
  | .port a _, .port b _ => edgeUp s ck4 t + (if a = b then 24 else 96)
  | .port _ _, _ => edgeUp s ck4 t + 48
  | _, .core _ => edgeUp s ck4 t + 36
  | _, .port _ _ => edgeUp s ck4 t + 48
  | _, _ => edgeUp s ck4 t + 24

/-- CK1 time at which the credit of a flit popped now by a consumer is visible at its producer
(R289). -/
def State.creditAt (s : State) (t : Nat) (c p : Agent) : Nat :=
  match c, p with
  | .core m, .core n =>
    if coreDie m ≠ coreDie n then t + 41
    else if coreEng m / 4 = coreEng n / 4 then t + 9 else t + 13
  | .core _, .port _ _ => edgeUp s ck4 (t + 85)
  | .core _, _ => edgeUp s ck4 (t + 37)
  | _, _ => s.arrival t c p

/-- The share of producer k of a queue (R282). -/
def QueueSt.share (q : QueueSt) (k : Nat) : Nat :=
  let n := q.producers.length
  if n = 0 then 0 else q.depth / n + (if k < q.depth % n then 1 else 0)

/-- A credit that has become visible is held; one that would lift its producer above its share is discarded, which the
mark shows (R295). -/
def QueueSt.takeCredit (q : QueueSt) (m : SMap Nat × Bool) (c : Nat × Nat) : SMap Nat × Bool :=
  if m.1.get (dflt 0) c.1 < q.share c.1 then (m.1.modify (dflt 0) c.1 (fun x => x + 1), m.2) else (m.1, true)

/-- Credits that have become visible at a time are taken, and places that have been freed are gone; the mark shows whether
a credit was discarded (R295). -/
def QueueSt.settled (q : QueueSt) (t : Nat) : QueueSt × Bool :=
  let m := (q.returning.filter (fun c => decide (c.2 ≤ t))).foldl q.takeCredit (q.credits, false)
  ({ q with
    credits := m.1
    returning := q.returning.filter (fun c => decide (t < c.2))
    freeing := q.freeing.filter (fun f => decide (t < f)) }, m.2)

/-- A queue as it stands at a time. -/
def QueueSt.settle (q : QueueSt) (t : Nat) : QueueSt := (q.settled t).1

/-- Number of a producer of a queue (R277). -/
def QueueSt.indexOf (q : QueueSt) (a : Agent) : Option Nat :=
  (List.range q.producers.length).find? (fun k => q.producers.getD k .lat == a)

/-- The credits that producer k holds at a time (R283). -/
def QueueSt.creditOf (q : QueueSt) (t k : Nat) : Nat := (q.settle t).credits.get (dflt 0) k

/-- Flits that are pop-visible at a time. -/
def QueueSt.visible (q : QueueSt) (t : Nat) : List Flit := q.flits.takeWhile (fun f => decide (f.visibleAt ≤ t))

/-- Places in use: pop-visible flits and popped flits whose places are not freed yet (R297). -/
def QueueSt.fill (q : QueueSt) (t : Nat) : Nat :=
  (q.flits.filter (fun f => decide (f.visibleAt ≤ t))).length +
    (q.freeing.filter (fun f => decide (t < f))).length

/-- The credits an agent holds at a queue now. -/
def State.credit (s : State) (d q : Nat) (a : Agent) : Nat :=
  match (s.queueOf d q).indexOf a with
  | none => 0
  | some k => (s.queueOf d q).creditOf s.now k

/-- The consumer of a queue is fenced (R293). -/
def State.consFenced (s : State) (d q : Nat) : Bool :=
  (s.die d).fenced ||
  match (s.queueOf d q).consumer with
  | none => false
  | some c => s.agentFenced c

/-- Entering flits in the order of their arrival: behind every flit that is visible no later, lower
producer number first among equals, and never inside the flits of one QPUSHV (R287). -/
def insertFlits (fs : List Flit) : List Flit → List Flit
  | [] => fs
  | g :: gs =>
    match fs with
    | [] => g :: gs
    | f :: _ =>
      if !g.cont && (decide (f.visibleAt < g.visibleAt) || (f.visibleAt == g.visibleAt && decide (f.k < g.k)))
      then fs ++ g :: gs
      else g :: insertFlits fs gs

/-- The first of some flits takes the injection armed for its producer's die: an uncorrectable class
poisons it, and each class reports (R294, R313, R319). -/
def State.encodeFlits (s : State) (d : Nat) (a : Agent) (fs : List Flit) : State × List Flit :=
  match fs with
  | [] => (s, [])
  | f :: fs =>
    if bit s.injt 15 && bits s.injt 3 0 == 4 && bits s.injt 6 4 == a.die then
      let x := s.takeInj
      let n : Nat → State → State := fun o y => y.setReg d 0x30 o (satInc (y.reg d 0x30 o))
      if x.2.uncorrectable then (((n 3 x.1).raise d 0x30 2).gcode 5 true 1, { f with poison := true } :: fs)
      else if x.2.correctable then (((n 2 x.1).raise d 0x30 1).gcode 5 false 1, f :: fs)
      else (x.1, f :: fs)
    else (s, f :: fs)

/-- Pushing flits into a queue, given what they carry: credit is spent, flit i counts from now + i of
an engine's QPUSHV and from the time t otherwise, and a flit that finds the queue at its depth is discarded
with QUE_CREDIT (R283, R286, R288, R295). -/
def State.push (s : State) (d q : Nat) (a : Agent) (fs : List (List Word)) (lastOnFinal : Bool) (poison : Bool)
    (t : Nat) : State :=
  let qs := (s.queueOf d q).settle s.now
  match qs.indexOf a, qs.consumer with
  | some k, some c =>
    let step := match a with | .core _ => 1 | _ => 0
    let n := fs.length
    let new := (List.range n).map (fun i =>
      ({ words := fitW 8 (fs.getD i []), k := k, last := lastOnFinal && decide (i + 1 = n), poison := poison,
         visibleAt := s.arrival (t + step * i) a c, cont := decide (0 < i) } : Flit))
    let room := qs.depth - qs.flits.length
    let e := s.encodeFlits d a new
    let s' := e.1.modQueue d q (fun _ =>
      { qs with
        flits := insertFlits (e.2.take room) qs.flits
        credits := qs.credits.modify (dflt 0) k (fun x => x - n) })
    if decide (room < n) || ((s.queueOf d q).settled s.now).2 then s'.raise d 0x30 3 else s'
  | _, _ => s

/-- A hub or port-die block's push of a whole message: discarded and counted in QUE_FDROP where the
consumer is fenced (R295); false where the credit is short (R285). -/
def State.blockPush (s : State) (d q : Nat) (a : Agent) (fs : List (List Word)) (last : Bool) (t : Nat) :
    State × Bool :=
  if s.consFenced d q then (s.setReg d 0x30 4 (satAdd (s.reg d 0x30 4) fs.length), false)
  else if s.credit d q a < fs.length then (s, false)
  else (s.push d q a fs last false t, true)

/-- The head flit of a queue, where it is pop-visible. -/
def State.head (s : State) (d q : Nat) : Option Flit :=
  match (s.queueOf d q).flits with
  | [] => none
  | f :: _ => if f.visibleAt ≤ s.now then some f else none

/-- Taking the head flit out of a queue: its place is freed and its credit returned (R285, R289). A
producer that is fenced gets no credit back (R295). -/
def State.popHead (s : State) (d q : Nat) : State :=
  let qs := (s.queueOf d q).settle s.now
  match qs.flits, qs.consumer with
  | f :: fs, some c =>
    let free := match c with | .core _ => s.now + 5 | _ => s.now
    let p := qs.producers.getD f.k .lat
    let t := match c with | .core _ => s.now | _ => edgeUp s ck4 s.now
    let s := if ((s.queueOf d q).settled s.now).2 then s.raise d 0x30 3 else s
    s.modQueue d q (fun _ =>
      { qs with
        flits := fs
        freeing := if free ≤ s.now then qs.freeing else qs.freeing ++ [free]
        returning := if s.agentFenced p then qs.returning else qs.returning ++ [(f.k, s.creditAt t c p)] })
  | _, _ => s

/-- The poisoned flits at the head of a hub or port-die queue are discarded and their places freed, at most `n` of them in
turn and none behind one marked LAST; the result says whether one was (R294). -/
def State.dropPoison (s : State) (d q : Nat) : Nat → State × Bool
  | 0 => (s, false)
  | n + 1 =>
    match s.head d q with
    | some f =>
      if !f.poison then (s, false)
      else if f.last then (s.popHead d q, true)
      else (s.popHead d q).dropPoison d q n
    | none => (s, false)

/-- Splitting words into flits of 8. -/
def toFlits : Nat → List Word → List (List Word)
  | 0, _ => []
  | n + 1, ws => ws.take 8 :: toFlits n (ws.drop 8)

end Sys2Proof.Machine
end

