-- ==== Sys2Proof/Machine/MemOps.lean ====
section
/-!
DEFINITION. The G-code in use: error classes of codewords and what each read of one records (R315,
R316), encoders and the armed injection (R319), and the slots of the HBM stacks (R301 to R309).
-/

namespace Sys2Proof.Machine

/-- The class that an operand names. -/
def GClass.of : GErr → GClass
  | .none => .none | .single => .single | .adj => .adj | .checkbit => .checkbit | .double => .double
  | .nibble => .nibble | .addr => .addr | .other => .other

/-! ### What stands where -/

/-- The core whose scratchpad holds a word of the model's memory. -/
def spadCore (a : Nat) : Option Nat :=
  if decide (2 ^ 48 ≤ a) && decide (a < 257 * 2 ^ 48) then some (a / 2 ^ 48 - 1) else none

/-- The codewords that `n` words from an address lie in, by word address divided by 8 (R313). -/
def codewords (a n : Nat) : List Nat :=
  if n = 0 then [] else (List.range ((a + n - 1) / 8 + 1 - a / 8)).map (fun i => a / 8 + i)

/-- The stack is dead (R320). -/
def State.dead (s : State) (n : Nat) : Bool := (s.stackOf n).dead

/-- The class that a read of a codeword finds; every read of a dead stack finds OTHER (R320). -/
def State.classAt (s : State) (cw : Nat) : GClass :=
  match hbmStackOf (8 * cw) with
  | some n => if s.dead n then .other else s.mem.errs.get (dflt .none) cw
  | none => s.mem.errs.get (dflt .none) cw

/-- Setting the class of a codeword. -/
def State.setClass (s : State) (cw : Nat) (c : GClass) : State :=
  { s with mem := { s.mem with errs := s.mem.errs.set (dflt .none) cw c } }

/-! ### The armed injection (R319) -/

/-- The encoder of a word address is the one that the armed injection names (R319). -/
def State.injHits (s : State) (a : Nat) : Bool :=
  let v := s.injt
  let cls := bits v 3 0
  let die := bits v 6 4
  bit v 15 &&
  match spadCore a with
  | some c => cls == 3 && die == engDie (coreEng c) && bits v 13 7 == coreEng c && bits v 14 14 == coreIdx c
  | none =>
    match hbmStackOf a, poolOf a with
    | some n, _ => cls == n
    | none, some d => cls == 2 && die == d
    | none, none => (cls == 5 && inRange a mramBase mramLen) || (cls == 6 && inRange a flashBase flashLen)

/-- Encoding a codeword afresh: it holds no error, unless the armed injection takes this encode. -/
def State.encode (s : State) (cw : Nat) : State :=
  if s.injHits (8 * cw) then
    let x := s.takeInj
    x.1.setClass cw x.2
  else s.setClass cw .none

/-- The line of a stack that a word address lies in (R300). -/
def lineNo (a : Nat) : Nat := (a - hbmBase) % 0x200000000 / 32

/-- Write-backs that wait for words which are written meanwhile are dropped: the scrubber's (R318), the pool's and the
scratchpads' (R310, R311). -/
def State.dropWaiting (s : State) (a n : Nat) : State :=
  let out := fun (cw : Nat) => decide (cw < a / 8) || decide ((a + n - 1) / 8 < cw)
  match hbmStackOf a with
  | some k =>
    s.modStack k (fun k =>
      { k with fix := k.fix.filter (fun f => decide (f.line < lineNo a) || decide (lineNo (a + n - 1) < f.line)) })
  | none =>
    let p := { s.pool with spadFix := s.pool.spadFix.filter out }
    { s with pool :=
      match poolOf a with
      | some d => { p with fix := p.fix.modify (dflt []) d (fun q => q.filter out) }
      | none => p }

/-- The codewords of whole lines that n words of HBM touch are written back corrected (R306). -/
def State.correctLines (s : State) (a n : Nat) : State :=
  (codewords (a / 32 * 32) (((a + n - 1) / 32 - a / 32 + 1) * 32)).foldl (fun (s : State) cw =>
    if (s.classAt cw).correctable then s.setClass cw .none else s) s

/-- The codewords that n written words lie in are encoded afresh, HBM lines whole, and what waited for them is dropped
(R306, R313, R318, R319). -/
def State.recode (s : State) (a n : Nat) : State :=
  if n = 0 then s
  else
    let s := if (hbmStackOf a).isSome then s.correctLines a n else s
    ((codewords a n).foldl State.encode s).dropWaiting a n

/-- Words at an address reach no array: they are of a dead stack (R320). -/
def State.lostAt (s : State) (a : Nat) : Bool := match hbmStackOf a with | some n => s.dead n | none => false

/-- Writing words and encoding the codewords they lie in; a write to a dead stack is lost (R320). -/
def State.store (s : State) (a : Nat) (ws : List Word) : State :=
  if s.lostAt a then s else (s.wrs a ws).recode a ws.length

/-- One word and its address. -/
abbrev AWord := Nat × Word

/-- Writing the words of one run, of addresses that follow one another up or down, each codeword encoded once. -/
def State.storeRunWords (s : State) (r : List AWord) : State :=
  let a := r.foldl (fun m w => min m w.1) (r.headD (0, 0)).1
  if s.lostAt a then s else (r.foldl (fun (s : State) w => s.wr w.1 w.2) s).recode a r.length

/-- Words of one run of a scratchpad are written by debug, in both pads of a locked engine (R373). -/
def State.spadStore (s : State) (c : Nat) (r : List AWord) : State :=
  let put := fun (s : State) (c : Nat) => s.storeRunWords (r.map (fun w => (spadBase c + w.1, w.2)))
  if (s.engOf (coreEng c)).paired then put (put s (2 * coreEng c)) (2 * coreEng c + 1) else put s c

/-! ### What a read records (R316, R510) -/

/-- The lane of a word address (R300). -/
def laneOf (a : Nat) : Nat := a / 32 % 16

/-- Recording an error that a read of an HBM codeword found (R316, R323). -/
def State.hbmErr (s : State) (n cw : Nat) (c : GClass) (req : Nat) (merge : Bool) : State :=
  let ue := c.uncorrectable
  let s := s.modStack n (fun k =>
    if ue then { k with ueCnt := satInc k.ueCnt } else { k with ceCnt := satInc k.ceCnt })
  let s := (s.gcode n ue 1).raise 0 0x05 ((if ue then 3 else 1) + n)
  if s.flag 0 0x05 0xB 15 then s
  else
    { s.orReg 0 0x05 0xB 0x8000 with
      hbm := { s.hbm with
        elAddr := BitVec.ofNat 48 (8 * cw)
        elInfo := BitVec.ofNat 9 (c.code.toNat + 8 * n + 16 * laneOf (8 * cw) + 256 * b2n merge)
        elReq := BitVec.ofNat 9 req } }

/-- Recording the class that a read of a codeword found, and the write-back that follows (R310, R311,
R316, R325). -/
def State.readNote (s : State) (cw : Nat) (req : Nat) (merge : Bool) : State :=
  let c := s.classAt cw
  let ue := c.uncorrectable
  if c = .none then s
  else
    match spadCore (8 * cw) with
    | some k =>
      let s := (s.raise (coreOn k) 0x00 (if ue then 0x33 else 0x32)).gcode 3 ue 1
      if ue || s.pool.spadFix.contains cw then s
      else { s with pool := { s.pool with spadFix := s.pool.spadFix ++ [cw] } }
    | none =>
      match hbmStackOf (8 * cw), poolOf (8 * cw) with
      | some n, _ => s.hbmErr n cw c req merge
      | none, some d =>
        let s := (s.raise d 0x00 (if ue then 0x31 else 0x30)).gcode 2 ue 1
        if ue || (s.pool.fix.get (dflt []) d).contains cw then s
        else { s with pool := { s.pool with fix := s.pool.fix.modify (dflt []) d (fun q => q ++ [cw]) } }
      | none, none =>
        if inRange (8 * cw) mramBase mramLen then (s.raise 7 0x00 (if ue then 0x31 else 0x30)).gcode 7 ue 1
        else if inRange (8 * cw) flashBase flashLen then (s.raise 7 0x00 (if ue then 0x33 else 0x32)).gcode 8 ue 1
        else s

/-- Reading `n` words: what each codeword's class records, and the first word of the first codeword that
is uncorrectable, where one is (R316). -/
def State.readCheck (s : State) (a n req : Nat) (merge : Bool) : State × Option Nat :=
  ((codewords a n).foldl (fun (s : State) cw => s.readNote cw req merge) s,
    ((codewords a n).find? (fun cw => (s.classAt cw).uncorrectable)).map (fun cw => 8 * cw))

/-! ### Slots (R301 to R309) -/

/-- The position count of a time: positions since the first alignment marker (R301). -/
def State.posAt (s : State) (t : Nat) : Nat := (edgeUp s ck4 t - s.clk.marker) / ck4

/-- The order of priority of the boot positions: the Trifle, debug access, PEXP, then the engines by number; no other
requester holds any (R309). -/
def bootRank (req : Nat) : Option Nat :=
  if req = 0x106 then some 0 else if req = 0x107 then some 1 else if req = 0x103 then some 2
  else if req < 0x100 then some (3 + 2 * (req % 0x80) + req / 0x80) else none

/-- A position names a requester and its direction on a lane, unless the controllers are held in reset: the image's entry does, or it is a boot position of that
direction (R302, R309). -/
def State.slotNamed (s : State) (stack lane req : Nat) (wr : Bool) (pc : Nat) : Bool :=
  if s.shed then false
  else if s.hbm.table then
    (s.hbm.slots.get (dflt 0) (0x2000 * stack + 16 * (pc % 512) + lane)).toNat == req + 512 * b2n wr + 1024
  else (bootRank req).isSome &&
    (if wr then decide (13 ≤ pc % 32) && decide (pc % 32 ≤ 25) else decide (pc % 32 ≤ 12))

/-- The key of a position of a lane of a stack. -/
def posKey (stack lane pc : Nat) : Nat := 2 * (16 * pc + lane) + stack

/-- A position of a lane serves one request: it is open to a requester while no other request has it, under the boot
table none of the requester's own or of higher priority (R305, R309). -/
def State.slotOpen (s : State) (stack lane req pc : Nat) : Bool :=
  match s.hbm.used.get (dflt 0) (posKey stack lane pc) with
  | 0 => true
  | r + 1 => !s.hbm.table && decide ((bootRank req).getD 0 < (bootRank r).getD 0)

/-- The first position at or after one that serves a requester's direction on a lane, where the table
has one (R305). -/
def State.firstSlot (s : State) (stack lane req : Nat) (wr : Bool) (pc : Nat) : Option Nat :=
  let named := ((List.range 512).filter (fun i => s.slotNamed stack lane req wr (pc + i))).map (fun i => pc + i)
  ((List.range 8).flatMap (fun k => named.map (fun p => p + 512 * k))).find? (s.slotOpen stack lane req)

/-- The position that serves a request made now: not before the one that served the requester's previous
request to the stack (R305). -/
def State.serveAt (s : State) (stack lane req : Nat) (wr : Bool) : Option Nat :=
  s.firstSlot stack lane req wr (max (s.posAt s.now) (s.hbm.lastPos.get (dflt 0) (512 * stack + req)))

/-- A position of a lane is a requester's from now on; positions long past are forgotten. -/
def State.markSlot (s : State) (stack lane req pc : Nat) : State :=
  let live := s.hbm.used.filter (fun u => decide (s.posAt s.now ≤ u.1 / 32 + 4096))
  { s with hbm := { s.hbm with
    used := SMap.set (dflt 0) live (posKey stack lane pc) (req + 1)
    lastPos := s.hbm.lastPos.modify (dflt 0) (512 * stack + req) (fun p => max p pc) } }

/-- The requester that loses a position to another, and its next position (R309). -/
def State.displaced (s : State) (stack lane : Nat) (wr : Bool) (pc : Nat) : Option (Nat × Nat) :=
  match s.hbm.used.get (dflt 0) (posKey stack lane pc) with
  | 0 => none
  | r + 1 => (s.firstSlot stack lane r wr (pc + 1)).map (fun p => (r, p))

/-- A position serves a requester: it is taken, and a requester of lower priority that had it takes its next one (R305,
R309). -/
def State.takeSlot (s : State) (stack lane : Nat) (wr : Bool) : Nat → Nat → Nat → State
  | 0, _, _ => s
  | fuel + 1, req, pc =>
    match s.displaced stack lane wr pc with
    | none => s.markSlot stack lane req pc
    | some x => (s.markSlot stack lane req pc).takeSlot stack lane wr fuel x.1 x.2

/-- Noting the position that serves a requester. -/
def State.served (s : State) (stack lane : Nat) (wr : Bool) (req pc : Nat) : State :=
  s.takeSlot stack lane wr 300 req pc

/-- The core that a requester code names, where it is an engine's (R302). -/
def reqCore (req : Nat) : Option Nat :=
  if req < 0x80 then some (2 * req) else if req < 0x100 then some (2 * (req - 0x80) + 1) else none

/-- A write of a requester is lost: STORE_NOTICE where it is an engine (R316, R320). -/
def State.writeLost (s : State) (req a : Nat) : State :=
  match reqCore req with
  | some c => s.storeNotice c a
  | none => s

end Sys2Proof.Machine
end

