-- ==== Sys2Proof/Machine/Trig.lean ====
section
/-!
DEFINITION. Sine and cosine of angles in 2⁻²⁴ rad to the nearest Q14 value (R172), and the rounding of
R112. The series are summed in fixed point with 200 fraction bits, far beyond the distance from a tie of
any angle that the integrator can reach (assumption 7).
-/

namespace Sys2Proof.Machine

/-- 2π in units of 2⁻²⁰⁰. -/
def twoPi : Int := 10096689509235987743946820282484873672429286842977325943070736

/-- The angle x × 2⁻²⁴ rad, reduced to one turn, in units of 2⁻²⁰⁰ rad. -/
def angle200 (x : Int) : Int := (x * 2 ^ 176) % twoPi

/-- Summing n terms of a power series of sine or cosine from the term t, whose power is m: each next term
is −t·r²/((m+1)(m+2)). -/
def trigSum (r2 : Int) : Nat → Int → Int → Int → Int
  | 0, _, _, acc => acc
  | n + 1, t, m, acc => trigSum r2 n (-(t * r2 / 2 ^ 200) / ((m + 1) * (m + 2))) (m + 2) (acc + t)

/-- A value in units of 2⁻²⁰⁰, to the nearest multiple of 2⁻¹⁴. -/
def toQ14 (v : Int) : Int := (v + 2 ^ 185) / 2 ^ 186

/-- cos_q14 (R172). -/
def cosQ14 (x : Int) : Int :=
  if x = 0 then 16384
  else
    let r := angle200 x
    toQ14 (trigSum (r * r / 2 ^ 200) 50 (2 ^ 200) 0 0)

/-- sin_q14 (R172). -/
def sinQ14 (x : Int) : Int :=
  if x = 0 then 0
  else
    let r := angle200 x
    toQ14 (trigSum (r * r / 2 ^ 200) 50 r 1 0)

/-- Rounding from Q14, halves toward +∞ (R112). -/
def rnd14 (a : Int) : Int := (a + 8192) / 16384

end Sys2Proof.Machine
end

