-- ==== Sys2Proof/Machine/Effects.lean ====
section
/-!
DEFINITION. What events anywhere in the device bring about: the pins (R156, R420, R421), the verdict
message and forced STOP (R160 to R162), management responses (R92), fences (R26 to R32), SAFE, the
flush before a device reset and the reset itself (R187, R448, R449, R508).
-/

namespace Sys2Proof.Machine

/-! ### Pins -/

/-- A commanded change reaches the pads: T high and a fresh half-period where the pair starts to toggle, T low where
it comes to rest, which is no edge where T is low already (R157, R420). -/
def PairSt.take (p : PairSt) (x : Nat × Bool) : PairSt :=
  if x.2 = p.toggling then p
  else if x.2 then { p with t := true, c := false, toggling := true, changedAt := x.1 }
  else { p with t := false, c := true, toggling := false, changedAt := if p.t then x.1 else p.changedAt }

/-- The pair at a time: every change whose pad time has come is at the pads. -/
def PairSt.settle (p : PairSt) (now : Nat) : PairSt :=
  { (p.pend.filter (fun x => decide (x.1 ≤ now))).foldl PairSt.take p with
    pend := p.pend.filter (fun x => decide (now < x.1)) }

/-- What the pair is commanded to: to toggle, or to stand at T low and C high. -/
def PairSt.goal (p : PairSt) : Bool := match p.pend.getLast? with | some x => x.2 | none => p.toggling

/-- Commanding the pair, with the change at the pads at tpad: a change on its way that would come later gives way, and
a command that keeps what the pair does leaves the toggling undisturbed (R155, R157, R420). -/
def PairSt.command (p : PairSt) (tpad : Nat) (run : Bool) : PairSt :=
  let q := { p with pend := p.pend.filter (fun x => decide (x.1 < tpad)) }
  if q.goal = run then q else { q with pend := q.pend ++ [(tpad, run)] }

/-- A half-period of `h` CK1 ends: a pair that toggles changes level (R156, R420). -/
def PairSt.tick (p : PairSt) (now h : Nat) : PairSt :=
  let q := p.settle now
  if q.toggling && decide (q.changedAt + h ≤ now) then { q with t := q.c, c := q.t, changedAt := q.changedAt + h } else q

/-- The levels of T and C at the pads: the monitor's and the tamper sequencer's forcing goes before the block's own
command, by its own path (R54, R160, R420, R483). -/
def State.padsOf (s : State) (p : PairSt) : Bool × Bool :=
  if s.clk.forced then (false, true) else ((p.settle s.now).t, (p.settle s.now).c)

/-- EOUT_T and EOUT_C (R420). -/
def State.eoutPads (s : State) : Bool × Bool := s.padsOf s.crb.eout
/-- VETO_T and VETO_C (R156). -/
def State.vetoPads (s : State) : Bool × Bool := s.padsOf s.vdg.veto

/-- CK1 cycles of the Crumb tray's pulse of EPULSE_N: 16,500 CK4 (R421). -/
abbrev pulseCk1 : Nat := 16500 * ck4

/-- EPULSE_N is low: the tray's pulse, the pulse that the monitor or the tamper sequencer drives on the same pin, or
the hold after a pulse (R54, R421, R483). -/
def State.epulseLow (s : State) : Bool :=
  s.clk.oscPulse.isSome || (s.crb.pulsed && s.flag 0 0x03 3 0) ||
    (match s.crb.pulseEnd with
      | some e => decide (e ≤ s.now + pulseCk1) && (decide (s.now < e) || s.flag 0 0x03 3 0)
      | none => false)

/-- EOUT is commanded to its fault state, the pads 26 CK4 after this edge (R416, R420); with a pulse of EPULSE_N from
the same pad cycle where a reaction takes it from healthy to fault and no pulse runs then (R421). -/
def State.eoutFault (s : State) (pulse : Bool) : State :=
  let tpad := edgeUp s ck4 s.now + 26 * ck4
  let runs := match s.crb.pulseEnd with | some e => decide (tpad < e) | none => false
  { s with crb :=
    { s.crb with
      eout := s.crb.eout.command tpad false
      pulseEnd := if pulse && s.crb.eout.goal && !runs then some (tpad + pulseCk1) else s.crb.pulseEnd } }

/-! ### The verdict message (R161, R162) -/

/-- The producers with a vote in hand, and those whose vote R149 made STOP: PMASK. -/
def State.pmask (s : State) : Word :=
  BitVec.ofNat 16 ((List.range 3).foldl (fun a n =>
    a + (if (s.prodOf n).vote.isSome then 2 ^ n else 0) + (if (s.prodOf n).madeStop then 2 ^ (3 + n) else 0)) 0)

/-- The fields of a verdict message that differ from message to message. -/
structure VMsg where
  code : Verdict
  cap : Word
  fn : BitVec 32
  cause : Word
  pmask : Word
  vote : Verdict
  vcap : Word
deriving DecidableEq, Repr

/-- The 16 words of a verdict message (R161). -/
def State.vmsgWords (s : State) (m : VMsg) : List Word :=
  [0x564D, m.code.code, m.cap, ~~~m.code.code] ++ lowHigh m.fn ++ wordsLow 3 s.timeUs.toNat ++
    [m.cause, m.pmask, s.stateWord, m.vote.code, m.vcap, s.vdg.mseq, 0]

/-- Pushing a message to one enabled destination, with VDG_MSGDROP where it has less than two flits
of credit or is fenced (R162). -/
def State.vmsgTo (s : State) (ws : List Word) (t : Nat) (m : Nat) : State :=
  let r := (s.live 0 0x08 (8 + m)).toNat
  if bit r 0 then
    let x := s.blockPush (if bit r 1 then 6 else 5) (bits r 6 2) .vdg (toFlits 2 ws) true t
    if x.2 then x.1 else x.1.raise 0 0x08 3
  else s

/-- Forming a message, DTIME at the edge that decides or forces: the pushes, the VERDICT record, MSEQ, OUT and the
VDG_LAST registers, all at this stage (R161 to R163). -/
def State.sendVerdict (s : State) (m : VMsg) (ws : List Word) : State :=
  let t := edgeUp s ck4 s.now
  let s := (s.vmsgTo ws t 0).vmsgTo ws t 1
  let arr := fun n => ((s.prodOf n).arr).getD 0xFFFF
  let s := s.ledgerPut 0x02 0
    (ws.take 15 ++ (List.range 3).map (fun n => (s.prodOf n).reason) ++ (List.range 3).map arr)
  { s with vdg :=
    { s.vdg with
      mseq := s.vdg.mseq + 1, out := m.code, lastFn := m.fn, lastCode := m.code.code, lastCap := m.cap } }

/-- The message of a forced STOP (R161). -/
def State.forcedMsg (s : State) : VMsg :=
  if s.vdg.sealedOnce then
    { code := .stop, cap := 0, fn := s.vdg.fn, cause := 2, pmask := s.pmask,
      vote := if s.vdg.pending then .stop else s.vdg.decision.verdict,
      vcap := if s.vdg.pending then 0 else s.vdg.decision.cap }
  else { code := .stop, cap := 0, fn := s.lat.fn, cause := 2, pmask := 0, vote := .stop, vcap := 0 }

/-- STOP forced by a state at an edge: the pads 26 CK4 later, FORCED, and a message where one is due (R155, R160). -/
def State.forceStop (s : State) (t : Nat) (msg : Bool) : State :=
  let s := { s with vdg := { s.vdg with veto := s.vdg.veto.command (t + 26 * ck4) false, forced := true } }
  if msg then s.during t (fun s => s.sendVerdict s.forcedMsg (s.vmsgWords s.forcedMsg))
  else { s with vdg := { s.vdg with out := .stop } }

/-! ### Management responses (R92, R93) -/

/-- A response frame: CMD with bit 15 set, SEQ, STATUS, LEN, the results and the CRC (R92). -/
def State.respond (s : State) (port : MgmtPort) (cmd seq status : Word) (results : List Word) : State :=
  let ws := [cmd ||| 0x8000, seq, status, BitVec.ofNat 16 results.length] ++ results
  { s with cfg := { s.cfg with responses := s.cfg.responses ++ [⟨port, ws ++ [frameCrc ws]⟩] } }

/-- The response of the command that runs, where it is one of those that now finish (R93). -/
def State.finishOf (s : State) (cmds : List Word) (status : Word) (results : List Word) : State :=
  match s.cfg.running with
  | none => s
  | some r =>
    if !cmds.contains r.cmd then s
    else { s.respond r.port r.cmd r.seq status results with
      cfg := { (s.respond r.port r.cmd r.seq status results).cfg with running := none } }

/-- The response of LOAD_IMAGE or ENABLE, where one of them runs. -/
def State.finishRun (s : State) (status : Word) (results : List Word) : State := s.finishOf [0x10, 0x11] status results

/-- The response of SPLIT or JOIN, where one of them runs. -/
def State.finishMode (s : State) (status : Word) (results : List Word) : State := s.finishOf [0x20, 0x21] status results

/-! ### The biscuit tin's words (R503, R505) -/

/-- Where entry n stands within a copy, in entries (R505). -/
def bbxPos (n : Nat) : Nat := if n < 32 then n else 32 + (n - 32) % 4096

/-- First word of copy A of the biscuit tin (R501). -/
abbrev bbxA : Nat := 0x00F100300000
/-- First word of copy B of the biscuit tin (R501). -/
abbrev bbxB : Nat := 0x00F100340000
/-- First word of copy A of the field record (R501). -/
abbrev fldA : Nat := 0x00F100380000
/-- First word of copy B of the field record (R501). -/
abbrev fldB : Nat := 0x00F100380400

/-- The 32 words of an entry with its sequence number (R503). -/
def bbxWords (r : BbxReq) (n : BitVec 32) (loss : Bool) : List Word :=
  let ws := [BitVec.ofNat 16 (0x0100 + r.kind.toNat),
      BitVec.ofNat 16 (b2n (decide (n.toNat < 32)) + 2 * b2n loss + 4 * b2n r.holdup)] ++
    lowHigh n ++ lowHigh r.tns ++ wordsLow 3 r.tsec.toNat ++ [r.ctx] ++ lowHigh r.bootNo ++ fitW 18 r.body
  ws ++ lowHigh (crc32c (bytesOf ws))

/-- Writing an entry to both copies under the next ESEQ (R505, R506). -/
def State.bbxWrite (s : State) (r : BbxReq) : State :=
  let ws := bbxWords r s.bbx.next s.bbx.lossNext
  let p := 32 * bbxPos s.bbx.next.toNat
  let s := (s.store (bbxA + p) ws).store (bbxB + p) ws
  if s.bbx.next = 0xFFFFFFFF then { s with bbx := { s.bbx with full := true, lossNext := false } }
  else { s with bbx := { s.bbx with next := s.bbx.next + 1, lossNext := false } }

/-- The 640 words of the live field record with its CRC (R510). -/
def State.fldWords (s : State) : List Word :=
  let ws := (List.range 638).map (fun w => s.bbx.fld.get (dflt 0) w)
  ws ++ lowHigh (crc32c (bytesOf ws))

/-- Writing the field record to both copies; UPDATES counts it (R510). -/
def State.fldWrite (s : State) : State :=
  if s.nvGone then s
  else
    let s := s.fldAdd32 2 1
    (s.store fldA s.fldWords).store fldB s.fldWords

/-! ### Jobs that a fence or a reaction stops (R87) -/

/-- CFG_DETAIL of an item: section type, die and index (R81). -/
def cfgDetail (sec die idx : Nat) : BitVec 32 := BitVec.ofNat 32 (sec * 2 ^ 24 + die % 256 * 2 ^ 16 + idx % 65536)

/-- CFG_DETAIL of a refusal that names no die and no item (R81). -/
def noItem (sec : Nat) : BitVec 32 := cfgDetail sec 0xFF 0

/-- The body of an IMAGE entry (R504). -/
def State.imageBody (s : State) (accept : Bool) : List Word :=
  [if accept then 1 else 2, s.cfg.reason] ++ lowHigh s.cfg.detail ++ lowHigh s.cfg.imgVer ++
    [BitVec.ofNat 16 (b2n s.cfg.stagedSlot)] ++ (if accept then (w256Words s.cfg.digest).take 8 else [])

/-- A running load or check stops with 0x0F07; `tin` where a reaction of L4 or L5 stopped it (R87). -/
def State.jobStop (s : State) (tin : Bool) : State :=
  match s.cfg.job with
  | none => s
  | some _ =>
    let s := { s with cfg := { s.cfg with
      job := none, reason := 0x0F07, detail := noItem 0, refused := satInc s.cfg.refused } }
    let s := if tin then s.bbxReq 0x09 (s.imageBody false) else s
    s.finishRun 0 [0x0F07]

/-! ### SAFE -/

/-- Entering SAFE, or staying there: the state, the pins, the message of R160, and the stage that
BUSY marks stopped (R66, R87, R160, R420); `pulse` where stage 5 of the Crumb tray issues it (R421). -/
def State.enterSafe (s : State) (pulse : Bool) : State :=
  let was := s.cfg.state
  let s := s.eoutFault pulse
  if was = .safe then s
  else
    let s := { s with cfg := { s.cfg with state := .safe } }
    (s.forceStop (edgeUp s ck4 s.now) (was = .run || was = .degraded)).jobStop true

/-! ### Fences (R26 to R32) -/

/-- A compute pair is left unfenced (R30). -/
def State.pairLeft (s : State) : Bool :=
  (!(s.die 1).fenced && !(s.die 2).fenced) || (!(s.die 3).fenced && !(s.die 4).fenced)

/-- R30: no compute pair unfenced, or both port dies fenced. -/
def State.mustSafe (s : State) : Bool := !s.pairLeft || ((s.die 5).fenced && (s.die 6).fenced)

/-- The state after fences at run time (R30, R32). The pulse of EPULSE_N goes with a fence that stage 5 issues
(R421; DEDUCED, assumption 114). -/
def State.afterFence (s : State) (pulse : Bool) : State :=
  if s.cfg.state = .run || s.cfg.state = .degraded then
    if s.mustSafe then s.enterSafe pulse
    else { s with cfg := { s.cfg with state := .degraded } }
  else s

/-- The key of a core's watchdog. -/
def wdtKey (c : Nat) : Nat := 256 + c

/-- Stopping the watchdogs of an engine (R441). -/
def State.wdtStop (s : State) (e : Nat) : State :=
  let off : WdtUnit → WdtUnit := fun u => { u with running := false, frozenAt := none }
  (s.modWdt (wdtKey (2 * e)) off).modWdt (wdtKey (2 * e + 1)) off

/-- Counting a mismatch, and a transient outcome, in the LKS block and the field record (R362, R510). -/
def State.lksCount (s : State) (e : Nat) (trans : Bool) : State :=
  let s := s.modEng e (fun x =>
    { x with mism := satInc x.mism, trans := if trans then satInc x.trans else x.trans, counted := true })
  let s := s.fldAdd16 (352 + 2 * e) 1
  if trans then s.fldAdd16 (353 + 2 * e) 1 else s

/-- A self-test stops before its outcome: its mismatch is counted all the same (R362, R374). -/
def State.selftestStop (s : State) (e : Nat) : State :=
  if (s.engOf e).state = .selftest && !(s.engOf e).counted then s.lksCount e false else s

/-- Holding an engine in reset, fenced (R362, R28): both cores, and its watchdogs stopped; a SPLIT or JOIN command that
waits for its first instruction ends as one that cannot be done (R371). -/
def State.engFence (s : State) (e : Nat) : State :=
  let hold : CoreSt → CoreSt := fun c => { c with runst := .reset }
  let s := s.selftestStop e
  let s := if (s.engOf e).modeWait then (s.modEng e (fun x => { x with modeWait := false })).finishMode 3 [] else s
  ((((s.modEng e (fun x => { x with state := .fenced })).modCore (2 * e) hold).modCore
    (2 * e + 1) hold).wdtStop e)

/-- Flits in flight from a fenced die, those that no pop can see yet, are discarded at the receiving link port and counted
there (R31, R36; which flits are in flight: DESIGN CHOICE, assumption 119). -/
def State.dropFlight (s : State) (d : Nat) : State :=
  s.queue.foldl (fun (s : State) q =>
    let qd := q.1 / 512
    let at_ := if isCompute d && qd == partner d then qd else 0
    let lost := q.2.flits.filter (fun f =>
      decide (s.now < f.visibleAt) && (q.2.producers.getD f.k .lat).die == d && qd != d)
    if lost.isEmpty then s
    else
      (s.modDie at_ (fun x => { x with drops := satAdd x.drops lost.length })).modQueue qd (q.1 % 512)
        (fun x => { x with flits := x.flits.filter (fun f => !lost.contains f) })) s

/-- The write-buffer entries of every core that are bound for a die's pool are lost at its fence (R31). -/
def State.dropBuffered (s : State) (d : Nat) : State :=
  let toDie : WbEntry → Bool := fun e => e.words.any (fun w => poolOf w.1.toNat == some d)
  s.core.foldl (fun (s : State) c =>
    c.2.wb.foldl (fun (s : State) e =>
      if toDie e then
        (s.storeNotice c.1 ((e.words.headD (0, 0)).1.toNat)).modCore c.1
          (fun k => { k with wb := k.wb.filter (fun x => !(toDie x)) })
      else s) s) s

/-- What a fence cuts off: a die or an engine, with the cause and the fault ID of its FENCE entry (R26, R362, R504). -/
structure Cut where
  die : Bool
  no : Nat
  cause : Nat
  fid : Word
deriving DecidableEq, Repr

/-- What is cut off already: the hub is never fenced (R26). -/
def State.isCut (s : State) (x : Cut) : Bool :=
  if x.die then x.no == 0 || (s.die x.no).fenced else (s.engOf x.no).state == .fenced

/-- The link ports to a fenced die close 4 CK4 after the decision: the hub's and, for a compute die, its partner's
(R27, R37). -/
def State.closePorts (s : State) (d : Nat) : State :=
  let close : LinkSt → LinkSt := fun l => if l.closedAt.isSome then l else { l with closedAt := some (s.now + 4 * ck4) }
  let s := s.modLink 0 (if d = 7 then 6 else d - 1) close
  if isCompute d then s.modLink (partner d) 1 close else s

/-- The fence of a die or of an engine itself: the die's ports, cores and DMA engines and, for a compute die, the
engines of its pair; what is in flight or buffered is lost (R27, R28, R31). -/
def State.cutOne (s : State) (x : Cut) : State :=
  if x.die then
    let d := x.no
    let s := (s.modDie d (fun y => { y with fenced := true, fencedAt := s.now, held := true })).closePorts d
    let s := if isCompute d then
        (pairEngines d).foldl State.engFence (s.modDie (partner d) (fun y => { y with held := true }))
      else s
    (s.dropFlight d).dropBuffered d
  else s.engFence x.no

/-- Fences of one cycle, each of what is not cut off yet; the result names those that were made. -/
def State.cutAll (s : State) : List Cut → State × List Cut
  | [] => (s, [])
  | x :: xs =>
    if s.isCut x then s.cutAll xs
    else
      let y := (s.cutOne x).cutAll xs
      (y.1, x :: y.2)

/-- The FENCE entry of the biscuit tin (R31, R504). -/
def State.fenceEntry (s : State) (x : Cut) : State :=
  s.bbxReq 0x05 [BitVec.ofNat 16 (if x.die then x.no else engDie x.no), if x.die then 0xFFFF else BitVec.ofNat 16 x.no,
    BitVec.ofNat 16 x.cause, x.fid, s.stateWord]

/-- Fence decisions of one cycle: all are carried out, then one transition of the state, then an entry for each, and a
running load or check stops (R26 to R32, R87, R412). -/
def State.fenceAll (s : State) (xs : List Cut) (pulse : Bool) : State :=
  let x := s.cutAll xs
  if x.2.isEmpty then s
  else (x.2.foldl State.fenceEntry (x.1.afterFence pulse)).jobStop false

/-- Fencing a die. -/
def State.fenceDie (s : State) (d : Nat) (cause : Nat) (fid : Word) : State := s.fenceAll [⟨true, d, cause, fid⟩] false

/-- Fencing one engine (R362, R408). -/
def State.fenceEngine (s : State) (e : Nat) (cause : Nat) (fid : Word) : State := s.fenceAll [⟨false, e, cause, fid⟩] false

/-! ### The flush before a device reset (R187, R448, R508) -/

/-- CFG_STATUS without its sticky bit (R89). -/
def State.cfgStatus (s : State) : Word :=
  BitVec.ofNat 16 (s.cfg.state.code.toNat + 8 * b2n s.cfg.job.isSome + 16 * b2n s.cfg.stagedSlot +
    32 * b2n s.cfg.staged + 64 * b2n s.cfg.edited + 128 * s.life) ||| (s.reg 0 0x02 1 &&& 0x8000)

/-- First word of a slot of a kind: 0 firmware, 1 image, 2 pack (R68, R133, R459). -/
def slotWord (k : Nat) (slot : Bool) : Nat :=
  if k = 0 then (if slot then 0x00F000200000 else 0x00F000000000)
  else if k = 1 then (if slot then 0x00F000600000 else 0x00F000400000)
  else if slot then 0x00F004000000 else 0x00F001000000

/-- Words of a slot of a kind (R459). -/
def slotSize (k : Nat) : Nat := if k = 2 then 0x3000000 else 0x200000

/-- The address of a slot's validity word (R459). -/
def validAt (k : Nat) (slot : Bool) : Nat := slotWord k slot + slotSize k - 1

/-- CFG_UPD (R469). -/
def State.cfgUpd (s : State) : Word :=
  let u := s.boot.upd
  BitVec.ofNat 16 (u.state.toNat + 4 * u.kind.toNat + 16 * b2n u.slot + 32 * u.cause.toNat)

/-- An UPDATE entry of the biscuit tin, where a session is open (R468, R504). -/
def State.updEntry (s : State) (event : Word) : State :=
  if s.boot.upd.state = 0 then s
  else s.bbxReq 0x0B [s.cfgUpd, BitVec.ofNat 16 s.boot.upd.erased, event]

/-- The session closes and leaves its slot not valid (R467). -/
def State.updDrop (s : State) : State :=
  if s.boot.upd.state = 0 then s
  else
    let a := validAt s.boot.upd.kind.toNat s.boot.upd.slot
    let s := if s.rd a = 0x5A3C then s.store a [0] else s
    { s with boot := { s.boot with upd := {} } }

/-- WDT_RSTEV before a reset of a kind: one that is not a watchdog reset clears WDRST and WHICH (R438). -/
def rstEvFor (kind : ResetKind) (v : Word) : Word := if kind = .watchdog then v else v &&& 0xFFFC

/-- The flush starts: the Ledger Unit refuses records and the BBX unit requests, and the tin forms its
POWER entry (R187, R508). A flush that runs already goes on; a request for another kind of reset during
it does not restart it (R426, R443). -/
def State.startFlush (s : State) (kind : ResetKind) (event : Nat) : State :=
  match s.boot.phase with
  | .flush _ _ => s
  | .off => s
  | _ =>
    let s := s.updEntry (if kind = .watchdog then 5 else 1)
    let p := s.bbxForm 0x02 [BitVec.ofNat 16 event, BitVec.ofNat 16 s.bbx.fifo.length, s.cfgStatus] true
    { s with
      boot := { s.boot with phase := .flush kind s.now }
      cfg := { s.cfg with job := none, running := none }
      cus := { s.cus with voltArmed := false }
      ldg := { s.ldg with
        closing := true, sign := none
        lossNext := s.ldg.lossNext || (s.ldg.sign.map (fun g => (wordAt g.words 1).getLsbD 0)).getD false
        breakNext := s.ldg.breakNext || (s.ldg.sign.map (fun g => (wordAt g.words 1).getLsbD 1)).getD false }
      wdt := { s.wdt with rstEv := rstEvFor kind s.wdt.rstEv }
      bbx := { s.bbx with flush := some s.now, power := some p } }

/-- The entries of the FIFO and the POWER entry are written, with HOLDUP (R503, R508). Before the boot scan has given the
next ESEQ, no entry is written (assumption 5). -/
def State.tinFlush (s : State) : State :=
  let s' :=
    if s.bbx.ready && !s.nvGone then
      (s.bbx.fifo ++ s.bbx.power.toList).foldl (fun (s : State) r =>
        if s.bbx.full then s else s.bbxWrite { r with holdup := true }) s
    else s
  { s' with bbx := { s'.bbx with fifo := [], power := none, writing := none } }

/-- The tin's flush is made: the entries, then both copies of the field record (R508). An entry that a tamper trip
requests after it goes last (R514). -/
def State.bbxFlush (s : State) : State :=
  if !s.flushing then s
  else if s.bbx.flush.isNone then s.tinFlush
  else
    let s' := s.eng.foldl (fun (s : State) x => s.selftestStop x.1) s.tinFlush
    { s'.fldWrite with bbx := { s'.fldWrite.bbx with flush := none } }

/-- A warm reset is requested: EOUT and VETO to their fault states at once, with a pulse of EPULSE_N
where the reset's kind gives one, then the flush (R448, R421). -/
def State.warmReset (s : State) (kind : ResetKind) (pulse : Bool) : State :=
  match s.boot.phase with
  | .flush _ _ => s
  | .off => s
  | _ => ((s.eoutFault pulse).forceStop (edgeUp s ck4 s.now) false).startFlush kind 3

/-! ### The device reset (R67, R448, R449) -/

/-- Clearing HBM, the die pools and the scratchpads (R312, R449). -/
def MemSt.clearRam (m : MemSt) : MemSt :=
  { bytes := m.bytes.filter (fun c => inRange (c.1 / 2) flashBase flashLen || inRange (c.1 / 2) mramBase mramLen ||
      inRange (c.1 / 2) otpBase otpLen)
    errs := m.errs.filter (fun c => inRange (8 * c.1) flashBase flashLen || inRange (8 * c.1) mramBase mramLen) }

/-- The time base through a warm reset: device time runs on with no step, LOCKED becomes HOLDOVER, and the
registers but TIME_UNC return to their reset values (R169, R449). -/
def State.timeWarm (s : State) : TimeSt :=
  { base := s.time32, tick := s.clkTick, tq := if s.time.tq = .locked then .holdover else s.time.tq,
    unc := s.time.unc,
    hoAcc := if s.time.tq = .holdover then s.time.hoAcc + s.time.step * (s.clkTick - s.time.tick) else 0 }

/-- The device reset of a kind, entering a phase: what R449 keeps, everything else at its reset value. -/
def State.deviceReset (s : State) (kind : ResetKind) (phase : Phase) : State :=
  let warm := kind != .powerOn
  let s := s.updDrop
  { State.reset with
    now := s.now
    free := s.free
    pending := s.pending
    mem := s.mem.clearRam
    clk := { ({} : ClkSt) with
      rootLk := warm && s.clk.rootLk
      marker := s.clk.marker
      monF := warm && s.clk.monF
      monCause := if warm then s.clk.monCause else 0
      oscPulse := s.clk.oscPulse }
    time := if warm then s.timeWarm else s.time
    ldg := { ({} : LdgSt) with
      copyA := s.ldg.copyA, copyB := s.ldg.copyB, archive := s.ldg.archive, archAt := s.ldg.archAt, toArchive := s.ldg.toArchive,
      frozen := s.ldg.frozen, lossNext := s.ldg.lossNext, breakNext := s.ldg.breakNext }
    crb := { ({} : CrbSt) with pulseEnd := if warm then s.crb.pulseEnd else none }
    wdt := { ({} : WdtSt) with rstEv := if warm then s.wdt.rstEv else 0 }
    boot := { ({} : BootSt) with
      phase := phase, porst := s.boot.porst, resetLow := s.boot.resetLow, podOk := s.boot.podOk,
      rstKind := kind, copyA := s.boot.copyA, copyB := s.boot.copyB, startAt := s.now }
    cus := { ({} : CusSt) with
      helper := s.cus.helper, enrols := s.cus.enrols, zeroed := s.cus.zeroed, owner := s.cus.owner, tcfg := s.cus.tcfg,
      tresp := s.cus.tresp, tMap := s.cus.tMap, tValid := s.cus.tValid, tTime := s.cus.tTime, tCnt := s.cus.tCnt,
      offMap := s.cus.offMap, offCount := s.cus.offCount, voltArmed := s.cus.voltArmed,
      vddio33Lost := warm && s.cus.vddio33Lost } }

end Sys2Proof.Machine
end

