-- ==== Sys2Proof/Machine/VdgOps.lean ====
section
/-!
DEFINITION. The Verdict Gate: classification of producer flits (R144 to R149), the vote (R150 to R154),
the decision and its message (R155 to R162).
-/

namespace Sys2Proof.Machine

/-- VDG_CTRL.NPROD (R163). -/
def State.nProd (s : State) : Nat := s.fldL 0 0x08 0 2 1
/-- VDG_CTRL.MODE: MAJORITY (R163). -/
def State.majority (s : State) : Bool := s.flagL 0 0x08 0 0
/-- The engine of producer n (R163). -/
def State.prodEngine (s : State) (n : Nat) : Nat := s.fldL 0 0x08 (4 + n) 6 0
/-- The hub queue of producer n (R163). -/
def State.prodQueue (s : State) (n : Nat) : Nat := s.fldL 0 0x08 (4 + n) 15 8
/-- CK1 time of the deadline edge D_F (R148). -/
def State.deadlineAt (s : State) : Nat := s.vdg.boundary + (s.live 0 0x08 2).toNat * 375 * ck8

/-- The device is in a state in which the Gate judges flits (R149). -/
def DevState.supervising : DevState → Bool
  | .run => true | .degraded => true | .safe => true | _ => false

/-- RUN or DEGRADED (R67, R371, R462). -/
def DevState.operates : DevState → Bool
  | .run => true | .degraded => true | _ => false

/-- The verdict of a code (R143). -/
def verdictOf (w : Word) : Option Verdict :=
  if w = 0x00FF then some .go else if w = 0x0F0F then some .limit else if w = 0xFF00 then some .stop else none

/-- The vote of a well-formed flit, or none where the flit is malformed (R145). -/
def flitVote (eng : Nat) (ws : List Word) : Option Vote :=
  let cap := wordAt ws 2
  match verdictOf (wordAt ws 1) with
  | none => none
  | some v =>
    let capOk := match v with
      | .limit => decide (1 ≤ cap.toNat) && decide (cap.toNat ≤ 32767)
      | _ => cap == 0
    if wordAt ws 0 == 0x5644 && wordAt ws 3 == ~~~(wordAt ws 1) && capOk && (wordAt ws 6).toNat == eng then
      some ⟨v, cap⟩
    else none

/-- FN of a flit (R144). -/
def flitFn (ws : List Word) : BitVec 32 := wordAt ws 5 ++ wordAt ws 4

/-- FN earlier than F as a signed 32-bit difference (R149). -/
def fnEarlier (a f : BitVec 32) : Bool := (a - f).msb
/-- FN later than F (R149). -/
def fnLater (a f : BitVec 32) : Bool := !(a - f).msb && a - f != 0

/-- µs from the boundary to now, rounded down, as VDG_ARRn holds it (R163). -/
def State.arrNow (s : State) : Word :=
  let us := (s.now - s.vdg.boundary) / usCk1
  if us < 0xFFFF then BitVec.ofNat 16 us else 0xFFFE

/-- Entering the arrival of producer n's first flit classified for F (R163). -/
def State.setArr (s : State) (n : Nat) : State :=
  if (s.prodOf n).arr.isSome then s else s.modProd n (fun p => { p with arr := some s.arrNow })

/-- Making producer n's vote STOP (R149). -/
def State.madeStop (s : State) (n : Nat) (ws : List Word) (wellFormed : Bool) : State :=
  (s.setArr n).modProd n (fun p =>
    { p with vote := some ⟨.stop, 0⟩, madeStop := true, reason := if wellFormed then wordAt ws 7 else p.reason })

/-- Classifying one flit popped from producer n's queue (R149). -/
def State.classifyFlit (s : State) (n : Nat) (ws : List Word) : State :=
  let bump : (VdgSt → VdgSt) → State → State := fun f s => { s with vdg := f s.vdg }
  let bad := bump (fun v => { v with cBad := satInc v.cBad })
  let confl := bump (fun v => { v with cConfl := satInc v.cConfl })
  let stale := bump (fun v => { v with cStale := satInc v.cStale })
  if !s.cfg.state.supervising then s
  else if !s.vdg.sealedOnce then stale s
  else
    match flitVote (s.prodEngine n) ws with
    | none => if s.vdg.pending then bad (s.madeStop n ws false) else bad s
    | some v =>
      let fn := flitFn ws
      if fnEarlier fn s.vdg.fn then stale s
      else if fnLater fn s.vdg.fn then
        if s.vdg.pending then bad (s.madeStop n ws false) else bad s
      else
        let p := s.prodOf n
        let late := decide (s.deadlineAt < s.now)
        if p.madeStop then confl s
        else if late then bump (fun v => { v with cLate := satInc v.cLate }) s
        else
          match p.first with
          | none =>
            let s := (s.setArr n).modProd n (fun p =>
              { p with first := some ws, reason := wordAt ws 7, vote := if s.vdg.pending then some v else p.vote })
            s
          | some w0 =>
            if w0 = ws then bump (fun v => { v with cDup := satInc v.cDup }) s
            else if s.vdg.pending then confl (s.madeStop n ws true)
            else confl s

/-- The votes in hand for F, of producers whose engines are not fenced (R149, R150). -/
def State.votes (s : State) : List Vote :=
  (List.range s.nProd).filterMap (fun n => (s.prodOf n).vote)

/-- The lowest cap of the LIMIT votes (R152). -/
def lowCap (vs : List Vote) : Word :=
  vs.foldl (fun (a : Word) v =>
    match v.verdict with
    | .limit => if a = 0 || decide (v.cap.toNat < a.toNat) then v.cap else a
    | _ => a) 0

/-- How many votes have a verdict. -/
def countOf (v : Verdict) (vs : List Vote) : Nat := (vs.filter (fun x => x.verdict == v)).length

/-- The vote of a mode over the votes in hand: a decision, or none yet (R150, R151). -/
def evaluate (majority : Bool) (nProd : Nat) (vs : List Vote) : Option Vote :=
  if majority then
    if 2 ≤ countOf .stop vs then some ⟨.stop, 0⟩
    else if 2 ≤ countOf .go vs then some ⟨.go, 0⟩
    else if 2 ≤ countOf .limit vs then some ⟨.limit, lowCap vs⟩
    else if 3 ≤ vs.length then some ⟨.stop, 0⟩
    else none
  else if 1 ≤ countOf .stop vs then some ⟨.stop, 0⟩
  else if nProd ≤ vs.length && decide (1 ≤ nProd) then
    if 1 ≤ countOf .limit vs then some ⟨.limit, lowCap vs⟩ else some ⟨.go, 0⟩
  else none

/-- Latching a decision of F at this edge: the pads 48 CK4 later; the message and the VERDICT record at stage 5, 18 CK4
after the edge, DTIME of the edge itself (R155, R157, R160 to R162). In SAFE and while the pins are forced the pads stay
at veto and CODE is STOP. -/
def State.latchDecision (s : State) (v : Vote) (cause : Word) : State :=
  let t := edgeUp s ck4 s.now
  let held := s.cfg.state == .safe || s.clk.forced
  let code : Verdict := if held then .stop else v.verdict
  let m : VMsg :=
    { code := code, cap := if code = .limit then v.cap else 0, fn := s.vdg.fn, cause := cause, pmask := s.pmask,
      vote := v.verdict, vcap := if v.verdict = .limit then v.cap else 0 }
  let ws := ({ s with now := t }).vmsgWords m
  let s := { s with vdg := { s.vdg with
    pending := false, decision := v, veto := s.vdg.veto.command (t + 48 * ck4) (code != Verdict.stop), forced := held
    cDefault := if cause = 1 then satInc s.vdg.cDefault else s.vdg.cDefault } }
  s.during (t + 18 * ck4) (fun s => s.sendVerdict m ws)

/-- The vote of F evaluated at this edge; a difference of the two voters latches STOP and reports
VDG_MISM (R147, R154). -/
def State.voteNow (s : State) (differ : Bool) : State :=
  if !s.vdg.pending || !s.cfg.state.supervising then s
  else
    match evaluate s.majority s.nProd s.votes with
    | none => if differ then (s.latchDecision ⟨.stop, 0⟩ 0).raise 0 0x08 1 else s
    | some v => if differ then (s.latchDecision ⟨.stop, 0⟩ 0).raise 0 0x08 1 else s.latchDecision v 0

/-- Popping the pop-visible head of producer n's queue, where there is one: a poisoned flit is
discarded, the queue of a producer on a fenced engine yields none (R147, R149, R294). -/
def State.popProducer (s : State) (n : Nat) : State :=
  let q := s.prodQueue n
  if (s.engOf (s.prodEngine n)).state == .fenced then s
  else
    match s.head 0 q with
    | none => s
    | some f => if f.poison then s.popHead 0 q else (s.popHead 0 q).classifyFlit n f.words

/-- One CK4 edge of the Gate: at most one flit per producer queue, all classified together, then the
vote (R147). -/
def State.gateEdge (s : State) (differ : Bool) : State :=
  ((List.range (min s.nProd 3)).foldl (fun (s : State) n => s.popProducer n) s).voteNow differ

/-- The deadline edge of an undecided frame (R148, R150, R151): flits pop-visible at the edge itself
are classified and voted first. -/
def State.deadlineEdge (s : State) (differ : Bool) : State :=
  if !s.vdg.pending || !s.cfg.state.supervising || decide (s.now < s.deadlineAt) then s
  else
    let s := s.gateEdge differ
    if s.vdg.pending then
      let s := s.latchDecision ⟨.stop, 0⟩ 1
      if differ then s.raise 0 0x08 1 else s
    else s

/-- VDG_ARRn as it reads: for the last decided frame (R163). -/
def State.arrReads (s : State) (n : Nat) : Word :=
  if s.vdg.pending || !s.vdg.sealedOnce then
    (if n = 0 then s.vdg.arr0 else if n = 1 then s.vdg.arr1 else s.vdg.arr2)
  else ((s.prodOf n).arr).getD 0xFFFF

/-- VDG_ARRn kept for the last decided frame where its producers' votes give way (R163). -/
def State.keepArr (s : State) : State :=
  { s with vdg := { s.vdg with arr0 := s.arrReads 0, arr1 := s.arrReads 1, arr2 := s.arrReads 2 } }

/-- Frame F comes under decision at its sealing boundary (R148). -/
def State.gateOpen (s : State) (fn : BitVec 32) (boundary : Nat) : State :=
  let s := s.keepArr
  { s with vdg := { s.vdg with sealedOnce := true, fn := fn, boundary := boundary, pending := true, prod := [] } }

end Sys2Proof.Machine
end

