-- ==== Sys2Proof/Machine/LatOps.lean ====
section
/-!
DEFINITION. The frame clock, the sealing of frames, the slot clears, the motion table and the sample
integrator (R100 to R106, R114, R123 to R130, R171, R172, R308).
-/

namespace Sys2Proof.Machine

/-! ### The frame clock (R100 to R106) -/

/-- CK1 cycles of a frame: LAT_CTRL.PERIOD in 0.1 ms (R100, R141). -/
def State.period (s : State) : Nat := s.fldL 0 0x07 0 9 0 * 300000
/-- CK1 time of the boundary that seals the open frame (R100). -/
def State.boundaryAt (s : State) : Nat := s.lat.openAt + s.period
/-- CK1 time of the intake cutoff of the open frame (R102). -/
def State.cutoffAt (s : State) : Nat := s.boundaryAt - 288 * ck8
/-- CK1 cycles between the instants of two motion samples: 46,875 CK8 (R123). -/
abbrev sampleStepCk1 : Nat := 46875 * ck8
/-- CK1 cycles from a sample's instant to its publication: 24,000 CK8 (R123). -/
abbrev publishCk1 : Nat := 24000 * ck8
/-- Number of samples of a frame from its opening boundary: period / 125 µs (R123). -/
def State.samplesOf (s : State) : Nat := s.period / sampleStepCk1

/-- Device time in units of 2⁻³² ns at a CK1 time (R166). -/
def State.time32At (s : State) (t : Nat) : Nat := s.time.base + s.time.step * ((t - s.clk.marker) / ck8 - s.time.tick)

/-- Word address of the ring: LAT_BASE (R126, R141). -/
def State.latBase (s : State) : Nat := s.liveN 0 0x07 2 3
/-- First word of a ring slot (R126). -/
def State.slotBase (s : State) (slot : Nat) : Nat := s.latBase + slot * 0x400000
/-- Ring slot of a frame (R101). -/
def slotOfFn (fn : BitVec 32) : BitVec 6 := fn.extractLsb' 0 6

/-- A slot clear starts (R104); the marks of an earlier clear of the slot end with it. -/
def State.clearStart (s : State) (slot : BitVec 6) (t : Nat) : State :=
  { s with lat := { s.lat with
    clear := some { slot := slot, base := s.slotBase slot.toNat, startedAt := t, nextLine := 0, failed := [] }
    slotErr := setBit s.lat.slotErr slot.toNat false } }

/-- Sample −1 of a frame, by definition (R123). -/
def sampleZero : MotionSample := ⟨0, 0, 16384, 0⟩

/-- The frame clock starts at a commit edge: frame 0 opens, the clears of slots 0 and 1 are due, and the
integrator's base is the commit (R83, R100, R104, R114; the motion table of frame 0 is assumption 6). -/
def State.frameStart (s : State) : State :=
  let s := { s with
    lat := { s.lat with
      running := true, fn := 0, openAt := s.now, bTime := s.timeUs, nextBTime := 0, cutoff := false
      cur := {}, next := {}, motNext := {}, clearOne := true
      motCur := { samples := [(39, some sampleZero)] } }
    integ := { s.integ with cur := ⟨0, 0, 0⟩, hist := [] } }
  s.clearStart 0 s.now

/-- The frame clock stops: the open frame is abandoned and no further clear starts (R106). -/
def State.frameStop (s : State) : State :=
  { s with lat := { s.lat with running := false, clearOne := false } }

/-- The intake cutoff: the opening time of the next frame is computed from the device time at the cutoff
edge (R102, R114). -/
def State.intakeCutoff (s : State) : State :=
  if !s.lat.running || s.lat.cutoff || decide (s.now < s.cutoffAt) then s
  else
    { s with lat := { s.lat with
      cutoff := true
      nextBTime := BitVec.ofNat 48 ((s.time32At s.cutoffAt + 288 * s.time.step) / 2 ^ 32 / 1000) } }

/-! ### The motion table (R123, R124) -/

/-- Some of samples −40 to −1 of a table is unpublished. -/
def MotionTable.gapBefore (m : MotionTable) : Bool :=
  (List.range 40).any (fun i => (m.samples.get (dflt none) i).isNone)

/-- EGO_STALE is reported for the open frame, at most once, and its notice carries EGO_GAP (R124). -/
def State.reportStale (s : State) : State :=
  if s.lat.motCur.staleReported then s
  else
    ({ s with lat := { s.lat with
      motCur := { s.lat.motCur with staleReported := true }
      cur := { s.lat.cur with egoGap := true } } }).raise 0 0x06 3

/-- A sample of the open frame has passed its due time unpublished (R124). -/
def State.staleDue (s : State) : Bool :=
  s.lat.running &&
  (List.range s.samplesOf).any (fun k =>
    decide (s.lat.openAt + k * sampleStepCk1 + publishCk1 ≤ s.now) &&
      (s.lat.motCur.samples.get (dflt none) (k + 40)).isNone)

/-- EGO_STALE at the edge at which a sample falls due unpublished (R124). -/
def State.egoStale (s : State) : State := if s.staleDue then s.reportStale else s

/-- Publishing a formed sample of a table, by its key; a sample is published once. -/
def MotionTable.publish (m : MotionTable) (key : Nat) : MotionTable :=
  match m.formed.get (dflt none) key with
  | none => m
  | some v => { m with samples := m.samples.set (dflt none) key (some v), formed := m.formed.set (dflt none) key none }

/-- The Attestor publishes sample k of the open frame, or samples −40 to −1 together where k is negative,
of the next frame (`next`) or of the open one when they come late; not before 24,000 CK8 after the instant
(R123, R124). -/
def State.publish (s : State) (next : Bool) (k : Int) : State :=
  let opening := if next then s.boundaryAt else s.lat.openAt
  let due : Int := opening + (if k < 0 then -1 else k) * sampleStepCk1 + publishCk1
  if !s.lat.running || decide ((s.now : Int) < due) || (next && decide (0 ≤ k)) then s
  else
    let go : MotionTable → MotionTable := fun m =>
      if k < 0 then (List.range 40).foldl MotionTable.publish m else m.publish (k + 40).toNat
    if next then { s with lat := { s.lat with motNext := go s.lat.motNext } }
    else { s with lat := { s.lat with motCur := go s.lat.motCur } }

/-! ### The sample integrator (R172) -/

/-- A word of a motion sample: the value where 16 signed bits hold it, else a free value. -/
def State.fit16 (s : State) (v : Int) : State × Word :=
  if -32768 ≤ v ∧ v ≤ 32767 then (s, BitVec.ofInt 16 v)
  else
    let x := s.draw
    (x.2, Config.freeWord x.1)

/-- The four words of a sample from positions in mm and a yaw in 2⁻²⁴ rad. -/
def State.mkSample (s : State) (ex ey psi : Int) : State × MotionSample :=
  let a := s.fit16 ex
  let b := a.1.fit16 ey
  (b.1, ⟨a.2, b.2, BitVec.ofInt 16 (cosQ14 psi), BitVec.ofInt 16 (sinQ14 psi)⟩)

/-- Forming samples −2, −3, … of the next frame from the exact samples of this one, newest first, relative
to the base sample (R172). -/
def State.reExpress (s : State) (b : IntegSample) (key : Nat) : List IntegSample → State
  | [] => s
  | h :: hs =>
    let cb := cosQ14 b.psi
    let sb := sinQ14 b.psi
    let dx := h.ax - b.ax
    let dy := h.ay - b.ay
    let m := s.mkSample (rnd14 (rnd14 (cb * dx + sb * dy))) (rnd14 (rnd14 (cb * dy - sb * dx))) (h.psi - b.psi)
    let s := { m.1 with lat := { m.1.lat with
      motNext := { m.1.lat.motNext with formed := m.1.lat.motNext.formed.set (dflt none) key (some m.2) } } }
    if key = 0 then s else s.reExpress b (key - 1) hs

/-- The yaw increment of a step: 0 with the IMU off; what the last transfer left; without one, a free value
and POS_IMU (R172, R196). -/
def State.takeDpsi (s : State) : State × Int :=
  if !s.flagL 0 0x0A 0 1 then (s, 0)
  else
    match s.integ.dpsi with
    | some v => ({ s with integ := { s.integ with dpsi := none } }, v)
    | none =>
      let x := s.draw
      (x.2.raise 0 0x0A 3, (Config.freeWord x.1).toInt)

/-- The distance of a step in mm: the motion of the pulse count, 0 without a paired motion sensor, which
sets DRDEAD (R171, R172). -/
def State.takeD (s : State) : State × Int :=
  let k := (s.live 0 0x0A 2).toNat
  let mm := if k = 0 then s.integ.mmPrev else s.port.msi.pulses.toNat * 1000000 / k
  let on := s.flagL 0 0x0A 0 2 && s.pos.msPair
  let d : Int := if on then (mm : Int) - s.integ.mmPrev else 0
  ({ s with
      integ := { s.integ with mmPrev := mm, dist := d.toNat :: s.integ.dist.take 999 }
      pos := { s.pos with drDead := !on, odo := s.pos.odo + BitVec.ofInt 48 d } }, d)

/-- One step of the integrator: the exact sample, and where the frame clock runs the sample of the motion
table it forms; the last sample of a frame is the base of the next one's (R172). -/
def State.sampleStep (s : State) : State :=
  let y := s.takeDpsi
  let x := y.1.takeD
  let s := x.1
  let psi := s.integ.cur.psi + y.2
  let c : IntegSample := ⟨s.integ.cur.ax + x.2 * cosQ14 psi, s.integ.cur.ay + x.2 * sinQ14 psi, psi⟩
  let older := s.integ.hist
  let s := { s with integ := { s.integ with cur := c, hist := c :: older.take 39 } }
  if !s.lat.running then s
  else
    let k := (s.now - s.lat.openAt) / sampleStepCk1
    if s.samplesOf ≤ k then s
    else
      let m := s.mkSample (rnd14 c.ax) (rnd14 c.ay) c.psi
      let s := m.1
      let s :=
        if (s.lat.motCur.samples.get (dflt none) (k + 40)).isSome then s
        else { s with lat := { s.lat with
          motCur := { s.lat.motCur with formed := s.lat.motCur.formed.set (dflt none) (k + 40) (some m.2) } } }
      if k + 1 = s.samplesOf then
        let s := { s with
          lat := { s.lat with motNext := { formed := [(39, some sampleZero)] } }
          integ := { s.integ with cur := ⟨0, 0, 0⟩, hist := [] } }
        s.reExpress c 38 (older.take 39)
      else s

/-! ### Sealing (R103, R128, R129) -/

/-- The last motion sample of the frame being sealed: its published value, else free words. -/
def State.lastSample (s : State) : State × MotionSample :=
  match s.lat.motCur.samples.get (dflt none) (s.samplesOf - 1 + 40) with
  | some m => (s, m)
  | none =>
    let a := s.draw
    let b := a.2.draw
    let c := b.2.draw
    let d := c.2.draw
    (d.2, ⟨Config.freeWord a.1, Config.freeWord b.1, Config.freeWord c.1, Config.freeWord d.1⟩)

/-- The words of the SEALED notice of the open frame (R128). -/
def State.noticeWords (s : State) (m : MotionSample) : List Word :=
  let slot := slotOfFn s.lat.fn
  let flags := b2n s.lat.cur.egoGap + 2 * b2n s.lat.cur.hbmErr +
    4 * b2n (s.lat.cur.clearErr || s.lat.slotErr.getLsbD slot.toNat)
  [0x534C, BitVec.ofNat 16 flags] ++ lowHigh s.lat.fn ++ [slot.setWidth 16] ++
    wordsLow 3 s.lat.nextBTime.toNat ++ [s.lat.cur.sensors] ++ lowHigh s.lat.cur.binned ++
    [s.lat.cur.dropped, m.ex, m.ey, m.ec, m.es]

/-- Pushing the notice to one enabled queue, pop-visible 40 CK4 after the boundary b; without two flits of
credit, or with a fenced consumer, it is counted and not pushed (R103, R129). -/
def State.noticeTo (s : State) (ws : List Word) (b : Nat) (p : Nat) : State :=
  let r := (s.live 0 0x07 (0xA + p)).toNat
  let die := bits r 3 1
  let q := bits r 12 4
  let miss : State → State := fun s => { s with lat := { s.lat with nDrop := satInc s.lat.nDrop } }
  if !(bit r 0) then s
  else
    let x := s.blockPush die q .lat (toFlits 2 ws) true (b + 31 * ck4)
    if x.2 then x.1 else if s.consFenced die q then miss x.1 else (miss x.1).raise 0 0x07 1

/-- A frame boundary: the open frame is sealed and noticed, the next opens, the Gate takes the sealed frame
under decision, and the next slot's clear starts (R100, R103, R104, R124, R128, R148). -/
def State.frameBoundary (s : State) : State :=
  if !s.lat.running || decide (s.now < s.boundaryAt) then s
  else
    let b := s.boundaryAt
    let x := s.intakeCutoff.lastSample
    let s := x.1
    let ws := s.noticeWords x.2
    let s := (List.range 3).foldl (fun (s : State) p => s.noticeTo ws b p) s
    let s := s.gateOpen s.lat.fn b
    let fn := s.lat.fn + 1
    let s := { s with lat := { s.lat with
      fn := fn, openAt := b, bTime := s.lat.nextBTime, cutoff := false, cur := s.lat.next, next := {}
      motCur := s.lat.motNext, motNext := {} } }
    let s := if s.lat.motCur.gapBefore then s.reportStale else s
    s.clearStart (slotOfFn (fn + 1)) b

/-! ### Slot clears (R104, R130, R308) -/

/-- Writing a whole line of one word. -/
def State.putLine (s : State) (a : Nat) (v : Word) : State := s.store a (List.replicate 32 v)

/-- A line whose rewrite failed is left undefined: free words (R308). -/
def State.undefLine (s : State) (a : Nat) : State :=
  let x := s.draw
  x.2.store a ((List.range 32).map (fun i => Config.freeCell x.1 i))

/-- The first lines of a list, one on each lane (R308). -/
def onePerLane : List Nat → List Nat → List Nat
  | _, [] => []
  | used, l :: ls => if used.contains (l % 16) then onePerLane used ls else l :: onePerLane (l % 16 :: used) ls

/-- A clear write is answered with a parity error: CLEAR_ERR, and the slot's mark for its frame's notice
(R130). -/
def State.clearErr (s : State) (slot : BitVec 6) : State :=
  ({ s with lat := { s.lat with slotErr := setBit s.lat.slotErr slot.toNat true } }).raise 0 0x07 3

/-- One CLR position: the next 16 lines of the slot, or the rewrites of failed lines; `parity` names the
lanes that the stack answers with a command-address parity error (R308). -/
def State.clearWrite (s : State) (parity : Word) : State :=
  match s.lat.clear with
  | none => s
  | some c =>
    if c.nextLine < 131072 then
      let lines := (List.range 16).map (fun i => c.nextLine + i)
      let bad := lines.filter (fun l => parity.getLsbD (l % 16))
      let s := (lines.filter (fun l => !(parity.getLsbD (l % 16)))).foldl
        (fun (s : State) l => s.putLine (c.base + 32 * l) 0) s
      let s := { s with lat := { s.lat with
        clear := some { c with nextLine := c.nextLine + 16, failed := c.failed ++ bad } } }
      if bad.isEmpty then s else s.clearErr c.slot
    else
      let now := onePerLane [] c.failed
      let s := now.foldl (fun (s : State) l =>
        if parity.getLsbD (l % 16) then s.undefLine (c.base + 32 * l) else s.putLine (c.base + 32 * l) 0xFFFF) s
      { s with lat := { s.lat with clear := some { c with failed := c.failed.filter (fun l => !now.contains l) } } }

/-- A clear reports completion 262,144 CK8 after its start; every write of it has been made by then, and in
frame 0 the clear of slot 1 follows that of slot 0 (R104, R308). -/
def State.clearEnd (s : State) : State :=
  match s.lat.clear with
  | none => s
  | some c =>
    let e := c.startedAt + 262144 * ck8
    if s.now < e then s
    else
      let left := 32 * (131072 - c.nextLine)
      let lo := c.base + 32 * c.nextLine
      let s := if left = 0 || s.lostAt c.base then s else ((s.wipe lo left).encode (lo / 8)).dropWaiting lo left
      let s := c.failed.foldl (fun (s : State) l => s.putLine (c.base + 32 * l) 0xFFFF) s
      let s := { s with lat := { s.lat with clear := none } }
      if s.lat.clearOne then
        ({ s with lat := { s.lat with clearOne := false } }).clearStart 1 e
      else s

end Sys2Proof.Machine
end

