-- ==== Sys2Proof/Machine/Bbx.lean ====
section
/-!
DEFINITION. The biscuit tin and the field record as commands: writing, the boot scan, the load of the field
record, its counters (R505 to R515, R546).
-/

namespace Sys2Proof.Machine

/-! ### The tin (R505 to R508) -/

/-- The write of the oldest entry ends, 512 CK4 after the unit began it (R506). A request that waits when ESEQ
has stopped is lost in its turn (R505; DEDUCED, assumption 112). -/
def State.bbxWritten (s : State) : State :=
  match s.bbx.writing, s.bbx.fifo with
  | some w, r :: rest =>
    if s.now < w + 512 * ck4 || s.bbx.flush.isSome || s.nvGone then s
    else
      let s := if s.bbx.full then s.bbxLose else s.bbxWrite r
      { s with bbx := BbxSt.begin { s.bbx with fifo := rest, writing := none } s.now }
  | _, _ => s

/-- An entry's CRC holds (R503). -/
def entryOk (ws : List Word) : Bool := crc32c (bytesOf (ws.take 30)) == wordAt ws 31 ++ wordAt ws 30

/-- ESEQ of an entry (R503). -/
def entrySeq (ws : List Word) : Nat := (wordAt ws 3 ++ wordAt ws 2).toNat

/-- Words read from a copy of a store: none where a codeword of them is uncorrectable (R316). -/
def State.storeRead (s : State) (a n : Nat) : Option (List Word) :=
  if (codewords a n).any (fun cw => (s.classAt cw).uncorrectable) then none else some (s.rds a n)

/-- The unit's reads of a store are noted by the G-code decoder of the MRAM (R315, R316). -/
def State.storeReads (s : State) (a n : Nat) : State :=
  (s.mem.errs.filter (fun c => decide (a / 8 ≤ c.1) && decide (8 * c.1 < a + n))).foldl
    (fun (s : State) c => s.readNote c.1 0 false) s

/-- The entry that holds at a position of the two copies, where one does: the one with the higher ESEQ where
both are valid (R507). -/
def bestEntry (a b : Option (List Word)) : Option (List Word) :=
  match a.filter entryOk, b.filter entryOk with
  | some x, some y => if entrySeq x < entrySeq y then some y else some x
  | some x, none => some x
  | none, y => y

/-- Scanning positions: repairs made and the highest valid ESEQ so far (R507). -/
def State.scanFrom (s : State) (fixed : Nat) (top : Option Nat) : List Nat → State × Nat × Option Nat
  | [] => (s, fixed, top)
  | p :: ps =>
    let a := s.storeRead (bbxA + 32 * p) 32
    let b := s.storeRead (bbxB + 32 * p) 32
    match bestEntry a b with
    | none => s.scanFrom fixed top ps
    | some e =>
      let s' := if a = b then s else (s.store (bbxA + 32 * p) e).store (bbxB + 32 * p) e
      s'.scanFrom (if a = b then fixed else fixed + 1) (some (max (entrySeq e) (top.getD 0))) ps

/-- The boot scan ends: READY, the next ESEQ, and a STORE entry with BBX_COPY where it repaired a position
(R507). -/
def State.bbxScan (s : State) : State :=
  if s.bbx.ready || s.dies.enumAt.isNone then s
  else
    let x := ((s.storeReads bbxA 132096).storeReads bbxB 132096).scanFrom 0 none (List.range 4128)
    let s := x.1
    let s := { s with bbx := { s.bbx with
      ready := true
      next := match x.2.2 with | none => 0 | some n => BitVec.ofNat 32 (n + 1)
      full := decide (x.2.2 = some 0xFFFFFFFF) } }
    let s := { s with bbx := s.bbx.begin s.now }
    if x.2.1 = 0 then s else (s.bbxReq 0x0F [0, 1, BitVec.ofNat 16 x.2.1]).raise 0 0x0C 2

/-! ### The field record (R510, R511) -/

/-- The CRC of a copy of the field record holds (R510). -/
def fieldOk (ws : List Word) : Bool := crc32c (bytesOf (ws.take 638)) == wordAt ws 639 ++ wordAt ws 638

/-- UPDATES of a copy (R510). -/
def fieldUpdates (ws : List Word) : Nat := (wordAt ws 3 ++ wordAt ws 2).toNat

/-- The live record with the words of a copy. -/
def fieldMap (ws : List Word) : SMap Word :=
  (List.range 638).foldl (fun (m : SMap Word) i => m.set (dflt 0) i (wordAt ws i)) []

/-- A record that restarts: MAGIC and FORMAT, every counter 0 (R510). -/
def fieldFresh : SMap Word := [(0, 0x4644), (1, 1)]

/-- Counts made since power good, before the record was loaded, go on top of it: the 16-bit counters of the
rails and the tamper sensors. -/
def State.fldCarry (s : State) (early : SMap Word) : State :=
  early.foldl (fun (s : State) c =>
    if decide (272 ≤ c.1) && decide (c.1 < 298) || (decide (344 ≤ c.1) && decide (c.1 < 352)) then s.fldAdd16 c.1 c.2.toNat
    else s) s

/-- The copy that is loaded: its CRC holds and its UPDATES is the higher (R510). -/
def fieldPick (a b : Option (List Word)) : Option (List Word) :=
  match a.filter fieldOk, b.filter fieldOk with
  | some x, some y => if fieldUpdates x < fieldUpdates y then some y else some x
  | some x, none => some x
  | none, y => y

/-- Words of a copy that were repaired: those in which it differs from the one taken, all of one that could not be
read. -/
def repaired (ws : List Word) : Option (List Word) → Nat
  | none => 640
  | some xs => ((ws.zip xs).filter (fun x => x.1 != x.2)).length

/-- Loading from what was read of the two copies (R510). -/
def State.fldFrom (s : State) (a b : Option (List Word)) : State :=
  match fieldPick a b with
  | some ws =>
    let s := { s with bbx := { s.bbx with fld := fieldMap ws, fldOk := true } }
    if a = b then s else s.bbxReq 0x0F [1, 1, BitVec.ofNat 16 (repaired ws a + repaired ws b)]
  | none =>
    (({ s with bbx := { s.bbx with fld := fieldFresh, fldOk := false } }).bbxReq 0x0F [1, 2, 0]).raise 0 0x0C 3

/-- The device reset that led to this boot is counted (R510). -/
def State.fldBoot (s : State) : State :=
  match s.boot.rstKind with
  | .powerOn => s.fldAdd32 6 1
  | .watchdog => (s.fldAdd32 8 1).fldAdd32 10 1
  | _ => s.fldAdd32 8 1

/-- The unit loads the record at boot: the copy whose CRC holds and whose UPDATES is higher, repairing the
other; with neither, a fresh record, a STORE entry and FLD_LOST. Then the reset is counted and the record
written (R510). -/
def State.fldLoad (s : State) : State :=
  let x := (s.storeReads fldA 640).storeReads fldB 640
  (((x.fldFrom (s.storeRead fldA 640) (s.storeRead fldB 640)).fldCarry x.bbx.fld).fldBoot).fldWrite

/-- The bin of a reading in °C (R511). -/
def tempBin (c : Int) : Nat := (max 0 (min 15 ((c + 55) * 4 / 45))).toNat

/-- One second of operation: each die's reading counts in its bin, and SECS and HOURS advance (R510, R511). -/
def State.tempSample (s : State) (cs : List Int) : State :=
  let up := match s.boot.phase with | .rom => true | .firmware => true | .halted => true | .recovery => true | _ => false
  if !up || decide (s.now < s.bbx.fldAt + (s.bbx.fldSecs + 1) * secCk1) then s
  else
    let s := (List.range 8).foldl (fun (s : State) d =>
      match cs[d]? with
      | none => s
      | some c => if d == 0 || (s.die d).present then s.fldAdd32 (16 + 32 * d + 2 * tempBin c) 1 else s) s
    let secs := (s.bbx.fld.get (dflt 0) 14).toNat
    let hour := decide (359 ≤ secs)
    let s := { s with bbx := { s.bbx with
      fldSecs := s.bbx.fldSecs + 1, fldDue := s.bbx.fldDue || hour
      fld := s.bbx.fld.set (dflt 0) 14 (if hour then 0 else BitVec.ofNat 16 (secs + 1)) } }
    if hour then s.fldAdd32 4 1 else s

/-- The record is written as HOURS has advanced (R510). -/
def State.fieldWrite (s : State) : State :=
  if !s.bbx.fldDue then s else ({ s with bbx := { s.bbx with fldDue := false } }).fldWrite

/-- A rail has left its operating limits: counted once (R511, R546); with VDDIO33 lost, the VETO and EOUT pads
stop driving (R551). -/
def State.railCount (s : State) (rail : Nat) (high : Bool) : State :=
  let s := s.fldAdd16 (272 + 2 * rail + b2n high) 1
  if rail = 10 && !high then { s with cus := { s.cus with vddio33Lost := true } } else s

/-! ### Firmware entries (R512) -/

/-- A write of a word of BBX_FWDATA; the last requests the FIRMWARE entry, at most FWMAX in each hour of
operating time (R512). With FWEN at 0 the words are held and no entry is requested. -/
def State.fwData (s : State) (i : Nat) (v : Word) : State :=
  let s := { s with bbx := { s.bbx with fwData := s.bbx.fwData.set (dflt 0) i v } }
  if i ≠ 15 || !s.flagL 0 0x0C 1 0 then s
  else
    let hour := s.bbx.fldSecs / 3600
    let taken := if s.bbx.fwHour = hour then s.bbx.fwTaken else 0
    if s.fldL 0 0x0C 1 5 1 ≤ taken then { s with bbx := { s.bbx with fwDrop := satInc s.bbx.fwDrop } }
    else
      ({ s with bbx := { s.bbx with fwHour := hour, fwTaken := taken + 1 } }).bbxReq 0x80
        ((List.range 16).map (fun k => s.bbx.fwData.get (dflt 0) k))

/-! ### The commands -/

/-- BBX_ENTRY_REQUEST: a maker that has no command of its own requests an entry of a kind of R504 (R506). -/
def execBbxEntryRequest (t : Nat) (kind : Byte) (body : List Word) (s : State) : Host.Outcome State Fault Refusal :=
  .next (if (decide (1 ≤ kind.toNat) && decide (kind.toNat ≤ 0x0F)) || kind = 0x80 then (s.to t).bbxReq kind.toNat body
    else s.to t)

/-- BBX_ENTRY_WRITE (R506). -/
def execBbxEntryWrite (t : Nat) (s : State) : Host.Outcome State Fault Refusal := .next (s.to t).bbxWritten

/-- BBX_SCAN_END (R507). -/
def execBbxScanEnd (t : Nat) (s : State) : Host.Outcome State Fault Refusal := .next (s.to t).bbxScan

/-- FIELD_RECORD_WRITE (R510). -/
def execFieldRecordWrite (t : Nat) (s : State) : Host.Outcome State Fault Refusal := .next (s.to t).fieldWrite

/-- TEMP_SAMPLE (R510, R511). -/
def execTempSample (t : Nat) (celsius : List Int) (s : State) : Host.Outcome State Fault Refusal :=
  .next ((s.to t).tempSample celsius)

end Sys2Proof.Machine
end

