-- ==== Sys2Proof/Machine/Mpu.lean ====
section
/-!
DEFINITION. The protection units: regions, default maps and locked regions (R326 to R341, R478, R479),
the decision on an access (R332, R336, R337), and the decode of addresses after it (R42, R338).
-/

namespace Sys2Proof.Machine

/-- The kinds of access (R333). -/
inductive Access where
  | read | write | exec
deriving DecidableEq, Repr

/-- The attributes that go with an access (R334): C 1 is WT, O 1 is RELAXED. -/
structure Attr where
  wt : Bool
  relaxed : Bool
deriving DecidableEq, Repr

/-- The address class of a word (R331); none outside the ranges of R41. -/
def classOf (a : Nat) : Option Nat :=
  if a < spadLen then some 0
  else if (poolOf a).isSome then some 1
  else if inRange a flashBase flashLen then some 2
  else if inRange a mramBase mramLen then some 3
  else if inRange a otpBase otpLen then some 4
  else if inRange a csrBase 0x8000000 then some 5
  else (hbmStackOf a).map (fun n => 6 + n)

/-- A protection unit as it stands for one access: where its set's regions are, the acting ring, the die of
its default map, and its engine where it is an engine's (R328 to R331, R340). -/
structure MUnit where
  die : Nat
  blk : Nat
  /-- offset of the first region of the active set -/
  off : Nat
  ring : Nat
  home : Nat
  eng : Option Nat
deriving DecidableEq, Repr

/-- A region (R329). -/
structure Region where
  base : Nat
  len : Nat
  ctl : Nat
deriving DecidableEq, Repr

/-- The region at an offset, as it is in force (R346). -/
def State.region (s : State) (die blk off : Nat) : Region :=
  ⟨s.liveN die blk off 3, s.liveN die blk (off + 3) 2, (s.live die blk (off + 5)).toNat⟩

/-- An enabled region covers a word (R329). -/
def Region.covers (r : Region) (a : Nat) : Bool := bit r.ctl 11 && inRange a r.base (256 * r.len)

/-- The ring field of a region for a kind of access (R346). -/
def Region.field (r : Region) : Access → Nat
  | .read => bits r.ctl 2 0
  | .write => bits r.ctl 5 3
  | .exec => bits r.ctl 8 6

/-- A ring is allowed by a ring field; 7 allows none (R329, R332). -/
def ringOk (ring field : Nat) : Bool := field != 7 && decide (ring ≤ field)

/-- A ring is allowed by a default field: 0 none, 1 ring 0, 2 rings 0 and 1 (R347). -/
def defaultOk (ring field : Nat) : Bool := decide (ring < field)

/-- The region of the active set that covers a word (R330). -/
def State.covering (s : State) (u : MUnit) (a : Nat) : Option Region :=
  ((List.range 16).map (fun r => s.region u.die u.blk (u.off + 6 * r))).find? (fun r => r.covers a)

/-- The engines that a locked image region lets write: none, the producers, or one engine (R479, R496). -/
def State.lockWriter (s : State) (ctl : Nat) (eng : Option Nat) : Bool :=
  match eng with
  | none => false
  | some e =>
    if bits ctl 2 1 = 1 then (List.range s.nProd).any (fun n => s.prodEngine n == e)
    else if bits ctl 2 1 = 2 then bits ctl 9 3 == e
    else false

/-- A locked region refuses the access of a master that has a protection unit (R478, R479). -/
def State.lockRefuses (s : State) (eng : Option Nat) (k : Access) (a : Nat) : Bool :=
  inRange a 0x00F100000000 0x10000 ||
  (k == .write &&
    (inRange a 0x00F100100000 0x200000 || inRange a 0x00F100300000 0x80800 ||
     (List.range 8).any (fun n =>
       let b := 0x30 + 6 * n
       let ctl := (s.live 0 0x0B (b + 5)).toNat
       bit ctl 0 && inRange a (s.liveN 0 0x0B b 3) (256 * s.liveN 0 0x0B (b + 3) 2) && !(s.lockWriter ctl eng))))

/-- The decision on one word: the attributes, or the DETAIL of R339 (R332, R479). -/
def State.mpuWord (s : State) (u : MUnit) (k : Access) (a : Nat) : Except Nat Attr :=
  match classOf a with
  | none => .ok ⟨false, false⟩
  | some cl =>
    match s.covering u a with
    | some r =>
      if ringOk u.ring (r.field k) && !(s.lockRefuses u.eng k a) then .ok ⟨bit r.ctl 9, bit r.ctl 10⟩ else .error 2
    | none =>
      if 2 ≤ u.ring then .error 1
      else
        let d := (s.live u.home 0x31 (8 + cl)).toNat
        let f := match k with | .read => bits d 1 0 | .write => bits d 3 2 | .exec => bits d 5 4
        if !(defaultOk u.ring f) then .error 3
        else if s.lockRefuses u.eng k a then .error 2
        else .ok ⟨bit d 6, bit d 7⟩

/-- A refused access: the first word of the first refused piece, whether an earlier piece passed, and the
DETAIL (R337, R338). -/
structure Refused where
  addr : Nat
  part : Bool
  detail : Nat
deriving DecidableEq, Repr

/-- Cutting an access into runs of words that lie in one aligned block of n words. -/
def runs (n : Nat) : List Nat → List (List Nat)
  | [] => []
  | a :: as =>
    match runs n as with
    | (b :: bs) :: ps => if a / n = b / n then (a :: b :: bs) :: ps else [a] :: (b :: bs) :: ps
    | ps => [a] :: ps

/-- The pieces of an access (R336): its runs within one granule of 256 words. -/
def pieces (as : List Nat) : List (List Nat) := runs 256 as

/-- The first word of the first piece of an access in which a test fails, with what it gives for it (R337, R338). -/
def refusedPiece (f : Nat → Option Nat) (part : Bool) : List (List Nat) → Option Refused
  | [] => none
  | p :: ps =>
    match p.findSome? f with
    | some d => some ⟨p.headD 0, part, d⟩
    | none => refusedPiece f true ps

/-- The DETAIL with which a unit forbids a word, where it does. -/
def State.mpuForbids (s : State) (u : MUnit) (k : Access) (a : Nat) : Option Nat :=
  match s.mpuWord u k a with
  | .error d => some d
  | .ok _ => none

/-- The piece of an access that the unit forbids (R336, R337): a piece's words all stand in one granule, which one
region or default entry decides. -/
def State.mpuCheck (s : State) (u : MUnit) (k : Access) (part : Bool) (ps : List (List Nat)) : Option Refused :=
  refusedPiece (s.mpuForbids u k) part (ps.map (fun p => p.take 1))

/-- The attributes of a word that the unit allows. -/
def State.attrOf (s : State) (u : MUnit) (k : Access) (a : Nat) : Attr :=
  match s.mpuWord u k a with
  | .ok x => x
  | .error _ => ⟨false, false⟩

/-! ### The decode of R42 -/

/-- Die, block and offset of a CSR address (R43). -/
def csrDie (a : Nat) : Nat := (a - csrBase) / 0x1000000
/-- Block of a CSR address. -/
def csrBlk (a : Nat) : Nat := a / 0x10000 % 0x100
/-- Offset of a CSR address. -/
def csrOff (a : Nat) : Nat := a % 0x10000

/-- The logic of a CSR block's offset sits in a domain that the last commit gates: the engine control block of a
gated quad's engine, and Sifter 1 (R51, R52). -/
def State.csrGated (s : State) (d blk off : Nat) : Bool :=
  (isCompute d && decide (0x10 ≤ blk) && decide (blk ≤ 0x2F) && !s.flagL d 0x01 1 ((blk - 0x10) / 4)) ||
    (d == 0 && blk == 6 && decide (0x100 ≤ off) && !s.flagL 0 0x01 1 5)

/-- DIE_PRESENT has latched (R23). -/
def State.enumerated (s : State) : Bool := s.dies.enumEnd.isSome

/-- The die of a word is fenced, or not to be reached before DIE_PRESENT latches (R42). A load, a fetch, a CSR access
or a STRONG store that passed its decoder in the 12 CK4 after the decision comes to the same refusal (R27, R31). -/
def State.dieRefuses (s : State) (d : Nat) : Bool := decide (d ≠ 0) && ((s.die d).fenced || !s.enumerated)

/-- A fenced die whose fence map the decoders do not hold yet, so that a store to its pool still passes into a write
buffer (R27, R31). -/
def State.fencing (s : State) (a : Nat) : Bool :=
  match poolOf a with
  | some d => (s.die d).fenced && s.enumerated && decide (s.now < (s.die d).fencedAt + 12 * ck4)
  | none => false

/-- The DETAIL with which an address is refused at its decoder, where it is (R9, R42, R221). The reader says
whether the master has a scratchpad. -/
def State.decodeRefuses (s : State) (spad write : Bool) (a : Nat) : Option Nat :=
  match classOf a with
  | none => some 1
  | some 0 => if spad then none else some 1
  | some 1 => if s.dieRefuses ((poolOf a).getD 0) then some 2 else none
  | some 4 => some 4
  | some 5 =>
    let d := csrDie a
    if s.dieRefuses d then
      if s.enumerated && !write && csrBlk a == 0 && csrOff a == 5 then none else some 2
    else if (regAt d (csrBlk a) (csrOff a)).isNone || s.csrGated d (csrBlk a) (csrOff a) then some 3
    else none
  | some 2 => if s.dieRefuses 7 then some 2 else none
  | some 3 => if s.dieRefuses 7 then some 2 else none
  | some _ => none

/-! ### Units that are no engine's (R344) -/

/-- Unit u of a die's MPU block as it stands for its next burst or update (R328, R341). -/
def State.dieUnit (s : State) (die u : Nat) : MUnit :=
  let b := 0x100 + 0x100 * u
  ⟨die, 0x31, b + 0x40 + (if s.flag die 0x31 b 2 then 0x60 else 0), s.fldL die 0x31 b 1 0, die, none⟩

/-- Recording the violation of a unit: the syndrome where it is free, the count and MPU_VIOL (R344). -/
def State.mpuViol (s : State) (die u : Nat) (r : Refused) (write : Bool) : State :=
  let b := 0x100 + 0x100 * u
  let s := if s.flag die 0x31 (b + 4) 15 then s
    else
      let info := r.detail + 16 * b2n write + 32 * b2n r.part + 64 * b2n (s.flag die 0x31 b 2) + 0x8000
      (s.setRegs die 0x31 (b + 1) (wordsLow 3 r.addr)).setReg die 0x31 (b + 4) (BitVec.ofNat 16 info)
  (s.setReg die 0x31 (b + 5) (satInc (s.reg die 0x31 (b + 5)))).raise die 0x31 (u + 1)

end Sys2Proof.Machine
end

