-- ==== Sys2Proof/Machine/EngOps.lean ====
section
/-!
DEFINITION. The cores: registers and banks (R206 to R210), the status word, interrupt lines (R232), resets
of a core and of an engine (R207, R230, R359), and the starting of watchdogs (R441).
-/

namespace Sys2Proof.Machine

/-! ### Registers (R206, R208) -/

/-- The current ring (R208). -/
def CoreSt.ring (k : CoreSt) : Nat := bits k.sw.toNat 12 11

/-- The bank that code sees: that of SW.RING, or the double-fault bank (R206). -/
def CoreSt.bankNo (k : CoreSt) : Nat := if k.df then 4 else k.ring

/-- A bank. -/
def CoreSt.bankAt (k : CoreSt) (n : Nat) : BankSt := k.bank.get (dflt {}) n

/-- Changing a bank. -/
def CoreSt.modBank (k : CoreSt) (n : Nat) (f : BankSt → BankSt) : CoreSt :=
  { k with bank := k.bank.modify (dflt {}) n f }

/-- Register Dn under a bank. -/
def CoreSt.dIn (k : CoreSt) (bank n : Nat) : Word :=
  if n < 8 then k.d.get (dflt 0) n else (k.bankAt bank).d.get (dflt 0) (n - 8)

/-- Register Dn. -/
def CoreSt.dr (k : CoreSt) (n : Nat) : Word := k.dIn k.bankNo n

/-- Writing Dn under a bank. -/
def CoreSt.setDIn (k : CoreSt) (bank n : Nat) (v : Word) : CoreSt :=
  if n < 8 then { k with d := k.d.set (dflt 0) n v }
  else k.modBank bank (fun b => { b with d := b.d.set (dflt 0) (n - 8) v })

/-- Writing Dn. -/
def CoreSt.setD (k : CoreSt) (n : Nat) (v : Word) : CoreSt := k.setDIn k.bankNo n v

/-- Register An under a bank. -/
def CoreSt.aIn (k : CoreSt) (bank n : Nat) : Addr :=
  if n < 4 then k.a.get (dflt 0) n else (k.bankAt bank).a.get (dflt 0) (n - 4)

/-- Register An. -/
def CoreSt.ar (k : CoreSt) (n : Nat) : Addr := k.aIn k.bankNo n

/-- Writing An under a bank. -/
def CoreSt.setAIn (k : CoreSt) (bank n : Nat) (v : Addr) : CoreSt :=
  if n < 4 then { k with a := k.a.set (dflt 0) n v }
  else k.modBank bank (fun b => { b with a := b.a.set (dflt 0) (n - 4) v })

/-- Writing An. -/
def CoreSt.setA (k : CoreSt) (n : Nat) (v : Addr) : CoreSt := k.setAIn k.bankNo n v

/-- Register Vn. -/
def CoreSt.vr (k : CoreSt) (n : Nat) : BitVec 512 := k.v.get (dflt 0) n

/-- Writing Vn. -/
def CoreSt.setV (k : CoreSt) (n : Nat) (v : BitVec 512) : CoreSt := { k with v := k.v.set (dflt 0) n v }

/-- Register Pn. -/
def CoreSt.pr (k : CoreSt) (n : Nat) : BitVec 32 := k.p.get (dflt 0) n

/-- Writing Pn. -/
def CoreSt.setP (k : CoreSt) (n : Nat) (v : BitVec 32) : CoreSt := { k with p := k.p.set (dflt 0) n v }

/-- Accumulator ACn. -/
def CoreSt.acc (k : CoreSt) (n : Nat) : BitVec 40 := k.ac.get (dflt 0) n

/-- Writing ACn. -/
def CoreSt.setAcc (k : CoreSt) (n : Nat) (v : BitVec 40) : CoreSt := { k with ac := k.ac.set (dflt 0) n v }

/-- A flag of SW. -/
def CoreSt.flag (k : CoreSt) (i : Nat) : Bool := k.sw.getLsbD i

/-- Writing a flag of SW. -/
def CoreSt.setFlag (k : CoreSt) (i : Nat) (b : Bool) : CoreSt := { k with sw := setBit k.sw i b }

/-- Lane n of a vector (R260). -/
def lane (v : BitVec 512) (n : Nat) : Word := v.extractLsb' (16 * n) 16

/-- A vector from its 32 lanes, lane 0 first. -/
def ofLanes (ws : List Word) : BitVec 512 := BitVec.ofNat 512 (ofWordsLow (fitW 32 ws))

/-- The 32 lanes of a vector, lane 0 first. -/
def lanes (v : BitVec 512) : List Word := (List.range 32).map (fun n => lane v n)

/-- Stack limit of a ring (R211, R213). -/
def CoreSt.slimOf (k : CoreSt) (ring : Nat) : Addr := k.slim.get (dflt 0) ring

/-! ### What a core is in (R238, R274, R367) -/

/-- The engine is split (ENG_STATUS.SPLIT). -/
def State.isSplit (s : State) (e : Nat) : Bool := (s.engOf e).state == .split

/-- ENG_STATUS.SPLIT and ENGID.SPLIT read 1: from cycle 17 of a SPLIT to the end of a JOIN's hand-over (R369, R370). -/
def State.splitShown (s : State) (e : Nat) : Bool :=
  (s.isSplit e && decide ((s.engOf e).splitAt ≤ s.now)) || (s.engOf e).state == .handover

/-- A core takes no command of its own: core 1 of an engine that is not split (R238, R367). -/
def State.noCore (s : State) (c : Nat) : Bool := coreIdx c == 1 && !s.isSplit (coreEng c)

/-- The engine resynchronises: until the checker issues again (R363). -/
def State.inResync (s : State) (e : Nat) : Bool :=
  let x := s.engOf e
  x.state == .locked && x.resyncing && decide (s.now < x.armAt)

/-- What LKS_STATEs.STATE shows of an engine (R363, R369, R380). -/
def State.lksShown (s : State) (e : Nat) : LksState :=
  let x := s.engOf e
  if s.inResync e then .resync else if x.state == .split && decide (s.now < x.splitAt) then .locked else x.state

/-- What ENG_STATUS.RUNST shows of a core: a locked engine is halted once its checker is, 8 CK1 later (R238, R372). -/
def State.runstCode (s : State) (c : Nat) : Nat :=
  let k := s.coreOf c
  if k.runst == .halted && s.leads c && decide (s.now < k.haltedAt + 8) then RunSt.run.code.toNat else k.runst.code.toNat

/-- The core has a program of its own now: the locked engine's main core, or a core of a split engine. -/
def State.coreLive (s : State) (c : Nat) : Bool :=
  let st := (s.engOf (coreEng c)).state
  st == .split || (st == .locked && coreIdx c == 0)

/-- A core issues instructions now. -/
def State.issuing (s : State) (c : Nat) : Bool :=
  s.coreLive c && (s.coreOf c).runst == .run && (s.engOf (coreEng c)).modeCmd.isNone && decide ((s.coreOf c).resumeAt ≤ s.now)

/-- The protection unit of a core for an access of a ring (R326, R328, R340, R346). -/
def State.coreUnit (s : State) (c ring : Nat) : MUnit :=
  ⟨coreDie c, coreBlk c, coreOff c + 0x40 + (if (s.coreOf c).flag 10 then 0x60 else 0), ring, coreDie c,
    some (coreEng c)⟩

/-- LKS_INJ armed for an engine that splits has no effect: ARM reads 0 (R374). -/
def State.lksDisarm (s : State) (e : Nat) : State :=
  let v := s.reg (engDie e) 0x32 3
  if bits v.toNat 4 0 = engSlot e then s.setReg (engDie e) 0x32 3 (v &&& 0x7FFF) else s

/-! ### Interrupt lines (R211, R232) -/

/-- CYC of a core (R211): CK1 cycles since it left engine reset. -/
def State.cyc (s : State) (c : Nat) : Nat := s.now - (s.coreOf c).cycOrigin

/-- ENG_INTSELn of a core. -/
def State.intSel (s : State) (c n : Nat) : Nat := (s.live (coreDie c) (coreBlk c) (coreOff c + 0x10 + n)).toNat

/-- IPEND bit n of a core (R232). -/
def State.ipend (s : State) (c n : Nat) : Bool :=
  let v := s.intSel c n
  match bits v 1 0 with
  | 1 =>
    let q := bits v 10 2
    (s.queueOf (coreDie c) q).consumer == some (.core c) && (s.head (coreDie c) q).isSome
  | 2 => decide ((s.coreOf c).tcmp.toNat ≤ s.cyc c)
  | 3 => (s.coreOf c).soft.getLsbD n
  | _ => false

/-- IPEND as a whole. -/
def State.ipendAll (s : State) (c : Nat) : BitVec 32 :=
  BitVec.ofNat 32 ((List.range 32).foldl (fun a n => a + (if s.ipend c n then 2 ^ n else 0)) 0)

/-- The asynchronous cause with this vector is pending: STORE_NOTICE, WATCHDOG_WARN, or an enabled line (R217, R232). -/
def State.asyncPending (s : State) (c v : Nat) : Bool :=
  let k := s.coreOf c
  if v = 11 then k.snCount != 0 else if v = 13 then k.warn
  else decide (32 ≤ v) && k.ien.getLsbD (v - 32) && s.ipend c (v - 32)

/-- The vector of the asynchronous cause that is taken first, where one is pending: STORE_NOTICE,
WATCHDOG_WARN, then the lowest enabled line (R217, R232). -/
def State.asyncVec (s : State) (c : Nat) : Option Nat :=
  ([11, 13] ++ (List.range 32).map (fun n => 32 + n)).find? (s.asyncPending c)

/-! ### Watchdog starts (R432, R441) -/

/-- The CK8 count of the first edge at or after a time. -/
def ck8Up (s : State) (t : Nat) : Nat := (edgeUp s ck8 t - s.clk.marker) / ck8

/-- Base offset and die of a watchdog's registers (R445), by its key. -/
def wdtDie (k : Nat) : Nat := if k < 256 then 0 else coreDie (k - 256)
/-- Base offset of a watchdog's registers. -/
def wdtOff (k : Nat) : Nat :=
  if k < 256 then 0x200 + 0x10 * k else 0x200 + 0x200 * coreIdx (k - 256) + 0x10 * engSlot (coreEng (k - 256))

/-- A word of a watchdog's settings in force (R445). -/
def State.wdtWord (s : State) (k i : Nat) : Nat := (s.live (wdtDie k) 4 (wdtOff k + i)).toNat

/-- MODE of a watchdog: 0 OFF, 1 CHALLENGE, 2 CHECKIN. -/
def State.wdtMode (s : State) (k : Nat) : Nat := bits (s.wdtWord k 0) 1 0

/-- Starting a watchdog: a period at p = 0 with DONE clear and a fresh challenge, bits 15:0 of CLK_TICK
(R432, R441); BADPREV still names the last completed period, and one that erase-busy freezes stays frozen, at p = 0
(R439). A watchdog that is OFF does not start. -/
def State.wdtStart (s : State) (k t : Nat) : State :=
  if s.wdtMode k = 0 then s.modWdt k (fun u => { u with running := false, frozenAt := none })
  else
    let e := ck8Up s t
    s.modWdt k (fun u =>
      { u with
        running := true, start := e, frozenAt := if u.byErase then some 0 else none, done := 0, chal := BitVec.ofNat 16 e, bad := false,
        warned := false })

/-! ### Resets of a core (R207, R230, R359) -/

/-- Where a core starts after an engine reset (R238): its own ENG_BOOT. -/
def State.engBoot (s : State) (c : Nat) : Addr := BitVec.ofNat 48 (s.liveN (coreDie c) (coreBlk c) (coreOff c + 1) 3)

/-- The registers after an engine reset (R207): all 0 but SW, PC and TCMP; CYC counts from the end of the
reset. What the caches and the write buffer hold stays, and so does ENG_TRIPLES. -/
def CoreSt.afterReset (k : CoreSt) (boot : Addr) (cause : BitVec 3) (resume : Nat) : CoreSt :=
  { ({} : CoreSt) with
    pc := boot, cycOrigin := resume, icache := k.icache, dcache := k.dcache, wb := k.wb, runst := .run,
    resumeAt := resume, lastRst := cause, triples := k.triples }

/-- CK1 cycles from an engine reset to the first instruction (R230, R371, R435). -/
abbrev engResetCk1 : Nat := 256

/-- Resetting one core, which issues from ENG_BOOT 256 CK1 later and whose watchdog starts then. -/
def State.coreReset (s : State) (c : Nat) (cause : BitVec 3) : State :=
  let r := s.now + engResetCk1
  (s.modCore c (fun k => k.afterReset (s.engBoot c) cause r)).wdtStart (wdtKey c) r

/-- A checkpoint of both cores, with empty journals (R358, R359, R370). -/
def EngSt.checkpoint (x : EngSt) (main checker : CoreSt) : EngSt :=
  { x with
    ckValid := true, ckpt := some main, ckptK := some checker, journal := [], jstop := false, journalK := [],
    jstopK := false, ckOld := none }

/-- The checkpoint of an engine as its cores stand (R358, R359, R370). -/
def State.takeCkpt (s : State) (e : Nat) : State :=
  s.modEng e (fun x => x.checkpoint (s.coreOf (2 * e)) (s.coreOf (2 * e + 1)))

/-- CK1 cycles of a CHK: its copy is complete when the next instruction issues (R266, R358). -/
abbrev chkCk1 : Nat := 40

/-- The checkpoint of a CHK: until its copy is complete the earlier one stays (R358). -/
def State.chkCkpt (s : State) (e : Nat) : State :=
  let x := s.engOf e
  let old : CkSave := ⟨x.ckValid, x.ckpt, x.ckptK, x.journal, x.journalK, s.now + chkCk1⟩
  (s.takeCkpt e).modEng e (fun x => { x with ckOld := some old })

/-- The checkpoint that a mismatch in cycle D finds (R358). -/
def EngSt.backed (x : EngSt) (d : Nat) : EngSt :=
  match x.ckOld with
  | none => x
  | some o =>
    if o.doneAt ≤ d then { x with ckOld := none }
    else
      { x with
        ckValid := x.ckValid && o.valid, ckpt := o.main, ckptK := o.checker, journal := x.journal ++ o.journal
        journalK := x.journalK ++ o.journalK, ckOld := none }

/-- The checkpoint of one core of a split engine at its reset (R359). -/
def State.coreCkpt (s : State) (c : Nat) : State :=
  s.modEng (coreEng c) (fun x =>
    if coreIdx c = 0 then
      { x with ckValid := true, ckpt := some (s.coreOf c), journal := [], jstop := false, ckOld := none }
    else { x with ckptK := some (s.coreOf c), journalK := [], jstopK := false })

/-- An engine reset: both cores of a locked engine, whose signature windows are counted from its end, or the one core of a
split engine (R230, R355, R359). -/
def State.engReset (s : State) (c : Nat) (cause : BitVec 3) : State :=
  let e := coreEng c
  let r := s.now + engResetCk1
  if (s.engOf e).state = .split then (s.coreReset c cause).coreCkpt c
  else
    ((s.modEng e (fun x => { x with state := .locked, windowAt := r, armAt := r, resyncing := false })).coreReset (2 * e)
      cause).takeCkpt e

/-- The halt of a core by debug: it takes no instruction, and its watchdog is frozen (R372, R441). -/
def State.freezeWdt (s : State) (k : Nat) : State :=
  s.modWdt k (fun u =>
    if u.running && u.frozenAt.isNone then { u with frozenAt := some (s.clkTick - u.start) } else u)

/-- A frozen watchdog runs again from the same position (R439, R441). -/
def State.thawWdt (s : State) (k : Nat) : State :=
  s.modWdt k (fun u =>
    match u.frozenAt with
    | some p => { u with frozenAt := none, start := ck8Up s s.now - p }
    | none => u)

/-- The watchdogs of the Trifle run again as debug lets it go: one that erase-busy freezes stays frozen (R439, R492). -/
def State.thawTrifle (s : State) : State :=
  [0, 1].foldl (fun (s : State) k => if (s.wdtOf k).byErase then s else s.thawWdt k) s

end Sys2Proof.Machine
end

