-- ==== Sys2Proof/Machine/DbgOps.lean ====
section
/-!
DEFINITION. The halt and the resumption of cores by debug (R372, R374, R441), and the close of a debug
session (R491).
-/

namespace Sys2Proof.Machine

/-- A requested halt is taken where the core stands at an instruction boundary: it issues, or it waits
(R235, R372). The watchdog freezes (R441). -/
def State.takeHalt (s : State) (c : Nat) : State :=
  let k := s.coreOf c
  if k.haltReq && s.coreLive c && (s.engOf (coreEng c)).modeCmd.isNone && (k.runst == .run || k.runst == .wait) &&
      decide (k.resumeAt ≤ s.now) then
    (s.modCore c (fun k => { k with haltReq := false, runst := .halted, haltedAt := s.now })).freezeWdt (wdtKey c)
  else s

/-- A halted core goes on to issue; the signature window has not advanced while it stood (R372, R373). -/
def State.unhalt (s : State) (c : Nat) (again : Bool) : State :=
  let t := s.now - (s.coreOf c).haltedAt
  (s.modCore c (fun k => { k with runst := .run, haltReq := again })).modEng (coreEng c) (fun x =>
    if coreIdx c = 0 then { x with windowAt := x.windowAt + t } else x)

/-- A halted core resumes: it issues the instruction at its pc, and its watchdog runs on (R372, R441). A halt
that is requested and not yet taken is withdrawn. -/
def State.resumeCore (s : State) (c : Nat) : State :=
  if s.noCore c then s
  else
    let s := (s.modCore c (fun k => { k with haltReq := false })).modEng (coreEng c) (fun x =>
      if coreIdx c = 0 then { x with haltAfter := false } else x)
    if (s.coreOf c).runst = .halted then (s.unhalt c false).thawWdt (wdtKey c) else s

/-- EXTEST, CLAMP and HIGHZ are no longer allowed: BYPASS is selected (R487). -/
def DbgSt.unbound (d : DbgSt) : DbgSt :=
  if d.ir = 0x03 || d.ir = 0x04 || d.ir = 0x05 then { d with ir := 0xFF, capture := 0 } else d

/-- The debug session closes: every core halted by debug resumes, the Trifle too, and a boundary instruction ends (R487,
R491, R492). -/
def State.dbgClose (s : State) : State :=
  if s.dbg.session.isNone then s
  else
    let s := (s.core.map (fun c => c.1)).foldl (fun (s : State) c => s.resumeCore c) s
    let s := if s.dbg.trifleHalted then s.thawTrifle else s
    { s with dbg := { s.dbg.unbound with session := none, trifleHalted := false } }

end Sys2Proof.Machine
end

