-- ==== Sys2Proof/Machine/Hbm.lean ====
section
/-!
DEFINITION. The HBM controllers, the scrubbers and the pools as commands (R305 to R322).
-/

namespace Sys2Proof.Machine

/-- The first word of a line of a stack (R300, R323). -/
def lineAddr (stack line : Nat) : Nat := hbmBase + 0x200000000 * stack + 32 * line

/-- The array has come to hold an error of a class in a codeword. -/
def State.decay (s : State) (cw : Nat) (c : GErr) : State :=
  if c = .none then s else s.setClass cw (GClass.of c)

/-- The words that a read request returns: with C = WT the aligned line, with NC the aligned 8-word blocks that hold the
words asked for (R291). -/
def readSpan (r : HbmReq) : Nat × Nat :=
  let a := r.addr.toNat
  if r.wt then (a / 32 * 32, 32) else (a / 8 * 8, 8 * (codewords a r.n.toNat).length)

/-- A read request is served: the words it returns go to the requester, and what the decoder finds in them is
recorded (R291, R305, R316). -/
def State.serveRead (s : State) (n : Nat) (r : HbmReq) (pc : Nat) : State :=
  let s := (s.decay (r.addr.toNat / 32 * 4) r.cls).served n (laneOf r.addr.toNat) false r.req.toNat pc
  let x := s.readCheck (readSpan r).1 (readSpan r).2 r.req.toNat false
  { x.1 with hbm := { x.1.hbm with ret := x.1.hbm.ret.set (dflt []) r.req.toNat (s.rds (readSpan r).1 (readSpan r).2) } }

/-- A merge write's read is served: an uncorrectable line loses the entry, another waits for its write
slot (R306, R316). -/
def State.serveMerge (s : State) (n : Nat) (r : HbmReq) (pc : Nat) : State :=
  let base := r.addr.toNat / 32 * 32
  let s := (s.decay (base / 8) r.cls).served n (laneOf base) false r.req.toNat pc
  let x := s.readCheck base 32 r.req.toNat true
  if x.2.isSome then x.1.writeLost r.req.toNat r.addr.toNat
  else { x.1 with hbm := { x.1.hbm with merge := x.1.hbm.merge ++ [⟨r.req.toNat, r.addr, r.words, pc⟩] } }

/-- A whole line is written in one write slot (R306); on a dead stack it is lost (R320). -/
def State.serveLine (s : State) (n : Nat) (r : HbmReq) (pc : Nat) : State :=
  let s := s.served n (laneOf r.addr.toNat) true r.req.toNat pc
  if s.dead n then s.writeLost r.req.toNat r.addr.toNat else s.store r.addr.toNat r.words

/-- A request is served at the first position that R305 gives it; a request for another stack, one that
crosses a line, or one whose lane has no slot for it, is not served (R306). -/
def State.hbmServe (s : State) (n : Nat) (r : HbmReq) : State :=
  let a := r.addr.toNat
  let lane := laneOf a
  if hbmStackOf a ≠ some n then s
  else if !r.write then
    match s.serveAt n lane r.req.toNat false with
    | none => s
    | some pc => s.serveRead n r pc
  else if r.words = [] || decide (32 < a % 32 + r.words.length) then s
  else if r.words.length = 32 then
    match s.serveAt n lane r.req.toNat true with
    | none => s
    | some pc => s.serveLine n r pc
  else
    match s.serveAt n lane r.req.toNat false with
    | none => s
    | some pc => s.serveMerge n r pc

/-- The merge writes that wait at a stack for a requester, oldest first. -/
def State.mergeOf (s : State) (n req : Nat) : Option MergeSt :=
  s.hbm.merge.find? (fun m => m.req == req && hbmStackOf m.addr.toNat == some n)

/-- The oldest merge write of a requester is made in the first write slot on its lane that stands at
least 83 positions after the read, once that position has come (R306). -/
def State.mergeWrite (s : State) (n req : Nat) : State :=
  match s.mergeOf n req with
  | none => s
  | some m =>
    match s.firstSlot n (laneOf m.addr.toNat) req true (m.readPos + 83) with
    | none => s
    | some pc =>
      if s.posAt s.now < pc then s
      else
        let s := { s with hbm := { s.hbm with merge := s.hbm.merge.erase m } }
        let s := s.served n (laneOf m.addr.toNat) true req pc
        if s.dead n then s.writeLost req m.addr.toNat else s.store m.addr.toNat m.words

/-- The scrubber of a stack runs: HBM_CTRL.SCRUBn (R317). -/
def State.scrubOn (s : State) (n : Nat) : Bool := s.flagL 0 0x05 0 n

/-- The next line of a sweep is read in an SCRB read slot of its lane: a correctable line waits for its rewrite and holds
its lane's sweep, an uncorrectable one is logged and left (R317, R318). -/
def State.scrubRead (s : State) (n : Nat) (c : GErr) : State :=
  let k := s.stackOf n
  let line := k.scrLine.toNat
  if !(s.scrubOn n) || k.fix.any (fun f => f.line % 16 == line % 16) then s
  else
    match s.serveAt n (line % 16) 0x104 false with
    | none => s
    | some pc =>
      let a := lineAddr n line
      let s := (s.decay (a / 8) c).served n (line % 16) false 0x104 pc
      let bad := (codewords a 32).any (fun cw => (s.classAt cw).correctable)
      let x := s.readCheck a 32 0x104 false
      x.1.modStack n (fun k =>
        { k with
          scrLine := k.scrLine + 1
          sweeps := if k.scrLine = BitVec.allOnes 28 then satInc k.sweeps else k.sweeps
          fix := if bad && x.2.isNone then k.fix ++ [⟨line, pc⟩] else k.fix })

/-- The oldest waiting rewrite of a stack is made in the scrubber's first write slot on its lane that stands at least 83
positions after the read, once that position has come: the line is stored whole and corrected (R317). -/
def State.scrubRewrite (s : State) (n : Nat) : State :=
  match (s.stackOf n).fix with
  | [] => s
  | f :: fs =>
    match s.firstSlot n (f.line % 16) 0x104 true (f.readAt + 83) with
    | none => s
    | some pc =>
      if s.posAt s.now < pc then s
      else
        let s := (s.modStack n (fun k => { k with fix := fs })).served n (f.line % 16) true 0x104 pc
        if s.dead n then s else s.recode (lineAddr n f.line) 32

/-- One access cycle of a pool's scrubber: the oldest waiting write-back, or the next codeword of the sweep
(R310). -/
def State.poolScrub (s : State) (d : Nat) (c : GErr) : State :=
  if !(isCompute d) then s
  else
    match s.pool.fix.get (dflt []) d with
    | cw :: cws =>
      let s := s.encode cw
      { s with pool := { s.pool with fix := s.pool.fix.set (dflt []) d cws } }
    | [] =>
      let i := s.pool.next.get (dflt 0) d
      let cw := poolBase d / 8 + i
      let s := (s.decay cw c).readNote cw 0 false
      { s with pool := { s.pool with next := s.pool.next.set (dflt 0) d ((i + 1) % 0x100000) } }

/-- The oldest corrected codeword of a core's scratchpad is written back (R311). -/
def State.spadWriteback (s : State) (c : Nat) : State :=
  match s.pool.spadFix.find? (fun cw => spadCore (8 * cw) == some c) with
  | none => s
  | some cw =>
    let s := s.encode cw
    { s with pool := { s.pool with spadFix := s.pool.spadFix.erase cw } }

/-- A stack fails: eight command-address parity errors in a row, or loss of strobe lock (R320). -/
def State.hbmDead (s : State) (n : Nat) (strobe : Bool) : State :=
  if s.dead n then s
  else
    (s.modStack n (fun k =>
      { k with dead := true, parityRun := if strobe then k.parityRun else 8 })).raise 0 0x05 (5 + n)

/-- A temperature reading of a stack, within what 8 signed bits hold (R322). -/
def State.hbmTemp (s : State) (n : Nat) (celsius : Int) : State :=
  let c := max (-128) (min 127 celsius)
  let out := decide (125 < celsius) || decide (celsius < -55)
  let was := (s.stackOf n).tempOut
  let s := s.modStack n (fun k => { k with temp := BitVec.ofInt 8 c, tempOut := out })
  if out && !was then s.raise 0 0x05 (7 + n) else s

/-- A stack has failed training or BIST, or has failed since (R320, R453). -/
def State.stackFailed (s : State) : Bool := s.hbm.stack0.dead || s.hbm.stack1.dead

/-- HBM_STATUS (R323). -/
def State.hbmStatus (s : State) : Word :=
  BitVec.ofNat 16 (b2n s.hbm.stack0.trained + 2 * b2n s.hbm.stack1.trained + 4 * b2n s.hbm.stack0.dead +
    8 * b2n s.hbm.stack1.dead + 16 * b2n s.hbm.table) ||| (s.reg 0 0x05 1 &&& 0x8000)

/-- CFG_BOOTRES (R469). -/
def State.bootRes (s : State) : Word :=
  BitVec.ofNat 16 (s.boot.stage.toNat + 16 * s.boot.rstKind.code.toNat + 128 * b2n s.boot.fallback)

/-- An HBM entry of the biscuit tin (R504). -/
def State.hbmEntry (s : State) : State := s.bbxReq 0x0E [s.hbmStatus, s.bootRes]

/-- STAGE HALT_HBM, with its entry: an image is staged and a stack is dead (R453). -/
def State.haltHbm (s : State) : State := { s with boot := { s.boot with stage := 10 } }.hbmEntry

/-- CK1 cycles of a slot frame: 512 positions of one CK4 (R301). -/
abbrev slotFrameCk1 : Nat := 512 * ck4

/-- The committed HBM_SLOT values take effect at the start of the first slot frame at or after the commit edge
(R309). -/
def State.tableSwitch (s : State) : State :=
  if !s.hbm.switchDue || decide (s.now < edgeUp s slotFrameCk1 (s.boot.commitAt.getD 0)) then s
  else
    let b := csrKey 0 0x05 0x4000
    { s with hbm := { s.hbm with
      table := true, switchDue := false
      slots := (s.csr.live.filter (fun c => decide (b ≤ c.1) && decide (c.1 < b + 0x4000))).map
        (fun c => (c.1 - b, c.2)) } }

/-- Training and BIST of a stack end at start-up (R320, R450). -/
def State.hbmTrained (s : State) (n : Nat) (ok : Bool) : State :=
  let s := s.modStack n (fun k => { k with trained := ok, dead := k.dead || !ok })
  let s := if ok then s else (s.raise 0 0x05 9).hbmEntry
  let fin := fun (k : StackSt) => k.trained || k.dead
  let s := { s with boot := { s.boot with hbmDone := fin s.hbm.stack0 && fin s.hbm.stack1 } }
  if !ok && s.boot.stage == 2 then s.haltHbm else s

/-! ### The commands -/

/-- HBM_REQUEST_SERVED (R305, R306, R309, R316). -/
def execHbmRequestServed (t : Nat) (stack : BitVec 1) (req : HbmReq) (s : State) : Host.Outcome State Fault Refusal :=
  .next ((s.to t).hbmServe stack.toNat req)

/-- MERGE_WRITE (R306). -/
def execMergeWrite (t : Nat) (stack : BitVec 1) (req : BitVec 9) (s : State) : Host.Outcome State Fault Refusal :=
  .next ((s.to t).mergeWrite stack.toNat req.toNat)

/-- REFRESH (R307): a REF position of a stack is used; no stored word changes. -/
def execRefresh (t : Nat) (_stack : BitVec 1) (s : State) : Host.Outcome State Fault Refusal :=
  .next { s.to t with hbm := { s.hbm with refreshes := s.hbm.refreshes + 1 } }

/-- SCRUB_READ (R317, R318). -/
def execScrubRead (t : Nat) (stack : BitVec 1) (cls : GErr) (s : State) : Host.Outcome State Fault Refusal :=
  .next ((s.to t).scrubRead stack.toNat cls)

/-- SCRUB_REWRITE (R317, R318). -/
def execScrubRewrite (t : Nat) (stack : BitVec 1) (s : State) : Host.Outcome State Fault Refusal :=
  .next ((s.to t).scrubRewrite stack.toNat)

/-- POOL_SCRUB (R310). -/
def execPoolScrub (t : Nat) (die : DieAddr) (cls : GErr) (s : State) : Host.Outcome State Fault Refusal :=
  .next ((s.to t).poolScrub die.toNat cls)

/-- SPAD_WRITEBACK (R311). -/
def execSpadWriteback (t : Nat) (c : CoreId) (s : State) : Host.Outcome State Fault Refusal :=
  .next ((s.to t).spadWriteback c.toNat)

/-- HBM_DEAD (R320). -/
def execHbmDead (t : Nat) (stack : BitVec 1) (strobe : Bool) (s : State) : Host.Outcome State Fault Refusal :=
  .next ((s.to t).hbmDead stack.toNat strobe)

/-- HBM_TEMP_READ (R322). -/
def execHbmTempRead (t : Nat) (stack : BitVec 1) (celsius : Int) (s : State) : Host.Outcome State Fault Refusal :=
  .next ((s.to t).hbmTemp stack.toNat celsius)

/-- HBM_TABLE_SWITCH (R309). -/
def execHbmTableSwitch (t : Nat) (s : State) : Host.Outcome State Fault Refusal :=
  .next ((s.to t).tableSwitch)

/-- HBM_TRAINING_END (R320, R450). -/
def execHbmTrainingEnd (t : Nat) (stack : BitVec 1) (ok : Bool) (s : State) : Host.Outcome State Fault Refusal :=
  .next ((s.to t).hbmTrained stack.toNat ok)

end Sys2Proof.Machine
end

