-- ==== Sys2Proof/Machine/CrbOps.lean ====
section
/-!
DEFINITION. The Crumb tray: the reaction map (R405 to R410), latching and classification (R411 to
R415), the reactions of each level (R408, R412, R416 to R419), and the injections (R425).
-/

namespace Sys2Proof.Machine

/-! ### What a fault ID names (R404, R409) -/

/-- The die whose block reports a source, and whose line it is (R401, R404): the blocks 0x40 to 0x47 carry into the die
field of their sums, so those fault IDs name the die below; the sources 0x30 to 0x33 of the NV die are its own (R325). -/
def lineDie (f : Word) : Nat :=
  let d := fidDie f
  let b := fidBlk f
  let i := fidSrc f
  if d = 1 && b = 7 then 0
  else if d = 7 && b = 0 && decide (0x30 ≤ i) && decide (i ≤ 0x33) then 7
  else if decide (6 ≤ d) && (b = 0 || (b = 1 && decide (0x10 ≤ i)) || (decide (2 ≤ b) && decide (b ≤ 7))) then d - 1
  else d

/-- The die of a source (R409): the die in its fault ID, but the die that DIE_LOST and LINK_FAIL name. -/
def sourceDie (f : Word) : Nat := (lostDie f).getD (lineDie f)

/-- The engine that a source names (R409): by the slot of its engine control block, of the LKS sources
0x20 to 0x7F, and of the engine watchdogs' sources (R446). -/
def sourceEngine (f : Word) : Option Nat :=
  let d := fidDie f
  let b := fidBlk f
  let i := fidSrc f
  if !(isCompute d) then none
  else if decide (0x10 ≤ b) && decide (b ≤ 0x2F) then some (engAt d (b - 0x10))
  else if b = 0x32 && decide (0x20 ≤ i) then some (engAt d (i % 32))
  else if b = 0x04 && decide (0x20 ≤ i) && decide (i < 0x60) then some (engAt d (i % 32))
  else none

/-- The lines that a reaction map entry never changes: RSVD_WRITE and the SYSREG_RSVD of every engine
control block (R410). -/
def alwaysL0 (f : Word) : Bool :=
  f == 0x0181 || (isCompute (fidDie f) && decide (0x10 ≤ fidBlk f) && decide (fidBlk f ≤ 0x2F) && fidSrc f == 3)

/-- An LKS source whose die is still in its start-up tests (R424). -/
def State.testMode (s : State) (f : Word) : Bool :=
  isCompute (fidDie f) && fidBlk f == 0x32 && decide (0x20 ≤ fidSrc f) && !(s.flag (fidDie f) 0x32 0 0)

/-! ### The map (R405, R407, R410) -/

/-- What the map gives a source: its map level, the level that it takes under R410, and the rest of its entry. -/
structure MapVal where
  mapLevel : Nat
  level : Nat
  esc : Nat
  tgt : Bool
  grace : Nat
  root : Word
deriving DecidableEq, Repr

/-- Word k of map entry e. -/
def State.mapWord (s : State) (e k : Nat) : Word := s.live 0 0x03 (0x4000 + 4 * e + k)

/-- The entry of a source: the lowest-numbered entry in use whose FID names it (R405). -/
def State.mapEntry (s : State) (f : Word) : Option Nat :=
  (List.range 2048).find? (fun e => s.mapWord e 0 == f && bits (s.mapWord e 1).toNat 2 0 != 7)

/-- The floors of R410: TRF_NOVOTE, CRB_MISM and EOUT_PIN take at least L4. -/
def floorOf (f : Word) (l : Nat) : Nat :=
  if (f == 0x01F7 || f == 0x0182 || f == 0x0183) && decide (l < 4) then 4 else l

/-- The level and its parts that a source takes: the boot map until the first commit, then the entry or
DEFLVL, with the fixed levels and floors of R410. -/
def State.mapVal (s : State) (f : Word) : MapVal :=
  if alwaysL0 f then ⟨0, 0, 0, false, 0, 0⟩
  else if !s.crb.mapLive then ⟨1, floorOf f 1, 0, false, 0, 0⟩
  else
    match s.mapEntry f with
    | none => ⟨s.fldL 0 0x03 0 2 0, floorOf f (s.fldL 0 0x03 0 2 0), 0, false, 0, 0⟩
    | some e =>
      let w := (s.mapWord e 1).toNat
      ⟨bits w 2 0, floorOf f (bits w 2 0), bits w 5 3, bit w 6, (s.mapWord e 2).toNat, s.mapWord e 3⟩

/-! ### Latching and classification (R411) -/

/-- The CRB_LATCH bit of a fault ID. -/
def State.latched (s : State) (f : Word) : Bool := s.flag 0 0x03 (0x1000 + f.toNat / 16) (f.toNat % 16)

/-- Setting the CRB_LATCH bit of a fault ID. -/
def State.setLatch (s : State) (f : Word) : State :=
  s.orReg 0 0x03 (0x1000 + f.toNat / 16) (BitVec.ofNat 16 (2 ^ (f.toNat % 16)))

/-- The classes of R411. -/
inductive Class where
  | reaction | again | consequential
deriving DecidableEq, Repr

/-- The code CRB_LOG.DRYCLS reads (R427). -/
def Class.code : Class → BitVec 2
  | .reaction => 0 | .again => 1 | .consequential => 2

/-- Classifying a report latched at T: `was` is its bit before, or a loss of a die that was fenced already (R411). -/
def State.classify (s : State) (T : Nat) (f : Word) (was : Bool) : Class :=
  if was then .again
  else
    let r := (s.mapVal f).root
    if r = 0 then .reaction
    else
      match s.crb.latchedAt.get (dflt none) r.toNat with
      | none => .reaction
      | some tr =>
        if tr ≤ T && decide (T - tr ≤ s.fldL 0 0x03 1 12 0 * ck4) then .consequential else .reaction

/-- A latched report with the level it takes and its class. -/
structure Latched where
  rep : Report
  val : MapVal
  cls : Class
deriving DecidableEq, Repr

/-- What a classifier decides of a report: the level of a reaction, or none. -/
def Latched.decides (l : Latched) : Option Nat := if l.cls = .reaction then some l.val.level else none

/-- The second classifier's decision joined to the first's: a reaction of either is issued, at the higher level of the
two (R415). -/
def Latched.joined (l : Latched) (d : Option Nat) : Latched :=
  match l.decides, d with
  | some a, some b => { l with val := { l.val with level := max a b } }
  | none, some b => { l with cls := .reaction, val := { l.val with level := b } }
  | _, none => l

/-- The second classifier's decision on the first report of a fault ID in a cycle, with what R410 makes of it; the
result says whether it differs from the first's (R415). -/
def joinOther (f : Word) (d : Option Nat) : List Latched → List Latched × Bool
  | [] => ([], false)
  | l :: ls =>
    if l.rep.fid = f then (l.joined d :: ls, l.decides != d)
    else
      let x := joinOther f d ls
      (l :: x.1, x.2)

/-- The reports of one cycle in ascending fault ID and then die, as one list (R413, R428). -/
def sortReports : List Report → List Report
  | [] => []
  | r :: rs => ins r (sortReports rs)
where
  ins (r : Report) : List Report → List Report
    | [] => [r]
    | q :: qs =>
      if r.fid.toNat < q.fid.toNat || (r.fid = q.fid && decide (r.die.toNat ≤ q.die.toNat)) then r :: q :: qs
      else q :: ins r qs

/-- Latching the reports of cycle T: a bit that was clear is set and its cycle kept; the result names,
for each report, whether its bit was set before it (R411). -/
def State.latchAll (s : State) (T : Nat) : List Report → State × List (Report × Bool)
  | [] => (s, [])
  | r :: rs =>
    let was := s.latched r.fid
    let s' := if was then s
      else { s.setLatch r.fid with
        crb := { s.crb with latchedAt := s.crb.latchedAt.set (dflt none) r.fid.toNat (some T) } }
    let x := s'.latchAll T rs
    (x.1, (r, was) :: x.2)

/-! ### The log (R419) -/

/-- Writing a log entry; a full log loses it, and the first loss is reported (R419). -/
def State.logPut (s : State) (e : LogEntry) : State :=
  if 64 ≤ s.crb.log.length then
    let s' := { s with crb := { s.crb with logOvf := satInc s.crb.logOvf } }
    if s.crb.logOvf = 0 then s'.raiseOwn 0x0185 false 0 else s'
  else { s with crb := { s.crb with log := s.crb.log ++ [e] } }

/-- The CYC field of a log entry: the latch cycle, with the block of the dropped write in bits 31:24
for RSVD_WRITE (R427). -/
def State.logCyc (s : State) (T : Nat) (r : Report) : BitVec 32 :=
  let c := BitVec.ofNat 32 (ck4Cycle s T)
  if r.fid = 0x0181 then r.blk ++ c.extractLsb' 0 24 else c

/-- The Trifle's fault interrupt line: asserted while the log holds an entry with NOTE (R419). -/
def State.faultIrq (s : State) : Bool := s.crb.log.any (fun e => e.note)

/-- The entry of a reaction, which shows its map level, or of an escalation, which shows the ESC level; NOTE goes by the
level taken (R419, R427). -/
def State.logEntry (s : State) (T : Nat) (r : Report) (level : Nat) (note escNow esc : Bool) : LogEntry :=
  { fid := r.fid, level := BitVec.ofNat 3 level, note := note, inj := r.inj, dry := false,
    escNow := escNow, esc := esc, dryCls := 0, die := if r.fid = 0x0181 then r.die else 0, cyc := s.logCyc T r }

/-! ### Reactions (R408, R412, R417) -/

/-- The lowest free grace timer of the 32 (R417). -/
def State.freeTimer (s : State) : Option Nat :=
  (List.range 32).find? (fun n => (s.crb.grace.get (dflt none) n).isNone)

/-- The target of an L3 reaction: the engine of the source, or its die where TGT is 1 or the source names no engine
(R405, R409). -/
def fenceTarget (f : Word) (tgt : Bool) : Cut :=
  match sourceEngine f with
  | some e => if tgt then ⟨true, sourceDie f, 3, f⟩ else ⟨false, e, 3, f⟩
  | none => ⟨true, sourceDie f, 3, f⟩

/-- What the levels issued together do to the pins and the state: SAFE once where one of them is L4 or L5, and every
fence of L3 (R408, R412). -/
def State.levelEffects (s : State) (ls : List (Word × Nat × Bool)) : State :=
  let s := if ls.any (fun x => x.2.1 == 4 || x.2.1 == 5) then s.enterSafe true else s
  s.fenceAll ((ls.filter (fun x => x.2.1 == 3)).map (fun x => fenceTarget x.1 x.2.2)) true

/-- A FAULT record (R179, R408). -/
def State.faultRecord (s : State) (f : Word) (level : Nat) (root : Word) : State :=
  s.ledgerPut 0x04 0 [f, BitVec.ofNat 16 level, root, s.crb.storm.extractLsb' 0 16, s.stateWord]

/-- A REACTION entry of the biscuit tin (R504). -/
def State.reactionEntry (s : State) (T : Nat) (r : Report) (level : Nat) (esc escNow : Bool) (root : Word) : State :=
  s.bbxReq 0x07
    ([r.fid, BitVec.ofNat 16 level, BitVec.ofNat 16 (b2n esc + 2 * b2n escNow + 4 * b2n r.inj), root] ++
      lowHigh s.crb.storm ++ [s.stateWord] ++ lowHigh (BitVec.ofNat 32 (ck4Cycle s T)))

/-- A reaction as it is issued: its report, the level taken, whether it takes the ESC level for want of
a grace timer, and what the map gives. -/
structure Issue where
  rep : Report
  level : Nat
  escNow : Bool
  val : MapVal
deriving DecidableEq, Repr

/-- An L2 reaction takes a grace timer, or its ESC level at once (R417); every other level is taken as it is. -/
def State.issue (s : State) (T : Nat) (l : Latched) : State × Issue :=
  if l.val.level = 2 then
    match s.freeTimer with
    | some n =>
      let g : Grace := ⟨l.rep.fid, T, l.rep.inj, T + l.val.grace * 750 * ck4, BitVec.ofNat 3 l.val.esc, l.val.tgt, l.val.root⟩
      ({ s with crb := { s.crb with grace := s.crb.grace.set (dflt none) n (some g) } },
        { rep := l.rep, level := 2, escNow := false, val := l.val })
    | none => (s, { rep := l.rep, level := l.val.esc, escNow := true, val := l.val })
  else (s, { rep := l.rep, level := l.val.level, escNow := false, val := l.val })

/-- Issuing several reactions, in the order of the list. -/
def State.issueAll (s : State) (T : Nat) : List Latched → State × List Issue
  | [] => (s, [])
  | l :: ls =>
    let a := s.issue T l
    let b := a.1.issueAll T ls
    (b.1, a.2 :: b.2)

/-- The records of one issued reaction: the log entry, the FAULT record from L1 up, the biscuit tin's
entry from L3 up and for TRF_NOVOTE (R408, R419). -/
def State.recordIssue (s : State) (T : Nat) (i : Issue) : State :=
  let s := s.logPut (s.logEntry T i.rep (if i.escNow then i.level else i.val.mapLevel) (decide (1 ≤ i.level)) i.escNow false)
  let s := if 1 ≤ i.level then s.faultRecord i.rep.fid i.level i.val.root else s
  if 3 ≤ i.level || i.rep.fid = 0x01F7 || i.escNow then
    s.reactionEntry T i.rep i.level false i.escNow i.val.root
  else s

/-- The reset of an L5 reaction, once every record of the cycle has been handed over (R408). -/
def State.resetIf (s : State) (lvl5 : Bool) : State := if lvl5 then s.startFlush .l5 3 else s

/-- CK1 cycles from a latch cycle to the issue of its reactions: 34 CK4 (R416). -/
abbrev issueCk1 : Nat := 34 * ck4

/-- The reactions of one cycle at stage 5: pins, fences and state first, then their records, which name the state
after, then the reset (R408, R412). -/
def State.react (s : State) (T : Nat) (ls : List Latched) : State :=
  let a := s.issueAll T ls
  let s := a.1.levelEffects (a.2.map (fun i => (i.rep.fid, i.level, i.val.tgt)))
  let s := a.2.foldl (fun (s : State) i => s.recordIssue T i) s
  s.resetIf (a.2.any (fun i => i.level == 5))

/-- The report that first-fault selection takes: the highest map level, then the lowest fault ID (R413). -/
def pickFirst : List Latched → Option Latched
  | [] => none
  | l :: ls =>
    match pickFirst ls with
    | none => some l
    | some m => if m.val.mapLevel ≤ l.val.mapLevel then some l else some m

/-- First-fault selection, while CRB_FIRSTINFO.VALID is 0 (R413). -/
def State.firstFault (s : State) (T : Nat) (ls : List Latched) : State :=
  if s.flag 0 0x03 0x11 15 then s
  else
    match pickFirst ls with
    | none => s
    | some l =>
      { s.orReg 0 0x03 0x11 0x8000 with
        crb := { s.crb with
          firstFid := l.rep.fid, firstLevel := BitVec.ofNat 3 l.val.mapLevel, firstInj := l.rep.inj,
          firstCyc := BitVec.ofNat 32 (ck4Cycle s T) } }

/-- The reports of cycle T as classified go to first-fault selection and, 34 CK4 after the latch, to their reactions;
where the second classifier decided otherwise on one of them, CRB_MISM is reported (R412 to R416). -/
def State.reactions (s : State) (T : Nat) (other : OtherClass) (ls : List Latched) : State :=
  let x := match other with
    | none => (ls, false)
    | some (f, d) => joinOther f (d.map (fun (l : BitVec 3) => if alwaysL0 f then 0 else floorOf f l.toNat)) ls
  let s := { s with crb := { s.crb with
    conseq := satAdd s.crb.conseq (x.1.filter (fun (l : Latched) => l.cls == Class.consequential)).length } }
  let re := x.1.filter (fun (l : Latched) => l.cls == Class.reaction)
  let s := (s.firstFault T re).during (T + issueCk1) (fun s => s.react T re)
  if x.2 then s.raiseOwn 0x0182 false 0 else s

/-- The Crumb tray takes the reports of cycle T: those of a die in its start-up tests are only counted
(R424); the others are latched, counted, classified and reacted to (R411 to R415). -/
def State.latchCycle (s : State) (T : Nat) (other : OtherClass) (rs : List Report) : State :=
  let tests := rs.filter (fun r => s.testMode r.fid)
  let s := tests.foldl (fun (s : State) r =>
    { s with crb := { s.crb with testCnt := s.crb.testCnt.modify (dflt 0) (fidDie r.fid) satInc } }) s
  let a := s.latchAll T (sortReports (rs.filter (fun r => !(s.testMode r.fid))))
  let s := { a.1 with crb := { a.1.crb with
    lastT := T, lastReps := a.2, storm := satAdd a.1.crb.storm a.2.length } }
  s.reactions T other (a.2.map (fun (x : Report × Bool) =>
    ({ rep := x.1, val := s.mapVal x.1.fid, cls := s.classify T x.1.fid (x.2 || x.1.lost) } : Latched)))

/-- The Trifle clears latch bits in the cycle that latched reports of their sources: each of those reports is taken as
new and its bit stays set (R426). -/
def State.latchMeets (s : State) (w : Nat) (v : Word) : State :=
  if s.crb.lastT ≤ s.now && decide (s.now < s.crb.lastT + ck4) then
    let T := s.crb.lastT
    let hit := s.crb.lastReps.filter (fun (x : Report × Bool) => x.1.fid.toNat / 16 == w && v.getLsbD (x.1.fid.toNat % 16))
    let a := s.latchAll T (hit.map (fun (x : Report × Bool) => x.1))
    let s := { a.1 with crb := { a.1.crb with lastReps := a.1.crb.lastReps.map (fun (x : Report × Bool) => (x.1, x.2 && !hit.contains x)) } }
    s.reactions T none ((hit.filter (fun (x : Report × Bool) => x.2 && !x.1.lost)).map (fun (x : Report × Bool) =>
      ({ rep := x.1, val := s.mapVal x.1.fid, cls := s.classify T x.1.fid false } : Latched)))
  else s

/-! ### The next latch cycle -/

/-- A report's line has been declared broken (R403). -/
def State.lineBroken (s : State) (r : Report) : Bool := s.crb.broken.contains (lineKey r.die.toNat r.fid)

/-- The earliest time in a list. -/
def earliest : List Nat → Option Nat
  | [] => none
  | t :: ts => match earliest ts with
    | none => some t
    | some u => some (min t u)

/-- The next cycle in which the Crumb tray takes something in: a report's latch or the acting edge of
an injection. -/
def State.nextLatch (s : State) : Option Nat :=
  earliest (s.crb.inflight.map (fun r => r.latchAt) ++ s.crb.injAt.toList)

/-- A DRY injection: classified and always logged, and nothing else (R425). -/
def State.injectDry (s : State) (T : Nat) (f : Word) : State :=
  s.logPut {
    fid := f, level := BitVec.ofNat 3 (s.mapVal f).level, note := false, inj := false, dry := true,
    escNow := false, esc := false, dryCls := (s.classify T f (s.latched f || s.lostFenced f)).code, die := 0,
    cyc := BitVec.ofNat 32 (ck4Cycle s T) }

/-- The acting edge of a pending injection at T: CRB_INJC and CRB_INJF as they stand then (R425). The
result names the report that it adds to the cycle. -/
def State.inject (s : State) (T : Nat) : State × List Report :=
  let f := s.reg 0 0x03 9
  let mode := s.fld 0 0x03 0xA 1 0
  let s := { s.setReg 0 0x03 0xA (s.reg 0 0x03 0xA &&& 0x7FFF) with crb := { s.crb with injAt := none } }
  if mode = 0 then (s, [⟨f, T, true, BitVec.ofNat 3 (lineDie f), 0, s.lostFenced f⟩])
  else if mode = 1 then (s.injectDry T f, [])
  else (s, [⟨BitVec.ofNat 16 (0x0190 + lineDie f), T, true, 0, 0x03, false⟩])

/-- Taking in the next latch cycle, where it has come: the acting edge of an injection and every report
that arrives in it on a line in service (R403, R411, R425). -/
def State.takeReports (s : State) (other : OtherClass) : State :=
  match s.nextLatch with
  | none => s
  | some T =>
    if s.now < T then s
    else
      let due := s.crb.inflight.filter (fun r => r.latchAt == T)
      let s := { s with crb := { s.crb with inflight := s.crb.inflight.filter (fun r => r.latchAt != T) } }
      let a := if s.crb.injAt = some T then s.inject T else (s, [])
      a.1.latchCycle T other (due.filter (fun r => !(s.lineBroken r)) ++ a.2)

/-- A grace timer that expires: the expiry enters stage 4, so that its ESC level is issued 12 CK4 later (R416, R417). -/
def State.graceExpire (s : State) (n : Nat) (g : Grace) : State :=
  let s := { s with crb := { s.crb with grace := s.crb.grace.set (dflt none) n none } }
  let r : Report := ⟨g.fid, g.latch, g.inj, 0, 0, false⟩
  s.during (g.due + 12 * ck4) (fun s =>
    let s := s.levelEffects [(g.fid, g.esc.toNat, g.tgt)]
    let s := s.logPut (s.logEntry g.latch r g.esc.toNat true false true)
    let s := (s.faultRecord g.fid g.esc.toNat g.root).reactionEntry g.latch r g.esc.toNat true false g.root
    s.resetIf (g.esc == 5))

/-- The running grace timer that expires first. -/
def State.firstGrace (s : State) : Option (Nat × Grace) :=
  (List.range 32).foldl (fun (a : Option (Nat × Grace)) n =>
    match s.crb.grace.get (dflt none) n, a with
    | none, _ => a
    | some g, none => some (n, g)
    | some g, some b => if g.due < b.2.due then some (n, g) else a) none

end Sys2Proof.Machine
end

