-- ==== Sys2Proof/Machine/TimeOps.lean ====
section
/-!
DEFINITION. The time base: slew, steps, discipline and quality (R165 to R170, R194).
-/

namespace Sys2Proof.Machine

/-- The step per CK8 edge for a slew in parts per billion (R166). -/
def stepFor (ppb : Int) : Nat := (8 * (1000000000 + ppb) * 2 ^ 32 / 3000000000).toNat

/-- A write of TIME_ADJ: the step is computed again (R166). -/
def State.timeAdj (s : State) (v : BitVec 32) : State :=
  { s.rebase with time := { s.rebase.time with step := stepFor v.toInt } }

/-- The words of a time as a record holds it: TNS then TSEC (R178, R179). -/
def timeWords (v : BitVec 80) : List Word := wordsLow 5 v.toNat

/-- A TIME record: before, after, source and TIME_UNC (R179). -/
def State.timeRecord (s : State) (before : BitVec 80) (source : Word) : State :=
  s.ledgerPut 0x09 0 (timeWords before ++ timeWords s.timeNow ++ [source] ++ lowHigh s.time.unc)

/-- The source of a step: the discipline source that TIME_CTRL.TSRC chooses, whose sample firmware steps to; where it
chooses GNSS with gPTP behind it, the one of the two is free (R167, R168, R179; assumption 123). -/
def State.stepSource (s : State) : State × Word :=
  let src := s.fldL 0 0x47 0 1 0
  if src < 3 then (s, BitVec.ofNat 16 src)
  else
    let x := s.draw
    (x.2, BitVec.ofNat 16 (1 + (Config.freeWord x.1).toNat % 2))

/-- A step of device time: a TIME record, and TIME_STEPBIG above 1 s (R168, R194). -/
def State.timeStep (s : State) (v : BitVec 80) : State :=
  let before := s.timeNow
  let a := s.timeNs
  let s := s.rebase
  let s := { s with time := { s.time with base := time32Of v } }
  let b := s.timeNs
  let x := s.stepSource
  let s := x.1.timeRecord before x.2
  if decide (a + 1000000000 < b) || decide (b + 1000000000 < a) then s.raise 0 0x47 2 else s

/-- A write of TIME_SYNC: TIME_UNC loaded, LOCKED, the 10 s holdover timer restarted (R169, R193). -/
def State.timeSync (s : State) (v : BitVec 32) : State :=
  { s.rebase with time := { s.rebase.time with tq := .locked, unc := v, syncAt := s.now, hoAcc := 0 } }

/-- The holdover timer expires: HOLDOVER, and TIME_HOLD (R169, R194). -/
def State.timeHold (s : State) : State :=
  if s.time.tq = .locked ∧ s.time.syncAt + 10 * secCk1 ≤ s.now then
    ({ s.rebase with time := { s.rebase.time with tq := .holdover, hoAcc := 0 } }).raise 0 0x47 1
  else s

/-- 10,000 µs in units of 2⁻³² ns (R169). -/
def uncUnit : Nat := 10000000 * 2 ^ 32

/-- In HOLDOVER: 1 µs more for each further 10,000 µs of device time (R169). -/
def State.uncStep (s : State) : State :=
  let r := s.rebase
  if r.time.tq = .holdover ∧ uncUnit ≤ r.time.hoAcc then
    { r with time := { r.time with unc := satInc r.time.unc, hoAcc := r.time.hoAcc - uncUnit } }
  else s

/-- A rising edge of PPS_IN: device time with CK8 resolution is latched (R167). -/
def State.ppsIn (s : State) : State := { s with time := { s.time with pps := s.timeNow } }

/-- PPS_IN (R167). -/
def execPpsIn (t : Nat) (s : State) : Host.Outcome State Fault Refusal := .next (s.to t).ppsIn

/-- TIME_HOLD (R169, R194). -/
def execTimeHold (t : Nat) (s : State) : Host.Outcome State Fault Refusal := .next (s.to t).timeHold

/-- HOLDOVER_UNC_STEP (R169). -/
def execHoldoverUncStep (t : Nat) (s : State) : Host.Outcome State Fault Refusal := .next (s.to t).uncStep

end Sys2Proof.Machine
end

