-- ==== Sys2Proof/Machine/Cvu.lean ====
section
/-!
DEFINITION. The check-value units: the CRC profiles and channels (R384, R397), the assignments (R383,
R395), receive classification (R389 to R393) and the protected message (R385 to R388, R398).
-/

namespace Sys2Proof.Machine

/-! ### CRC profiles (R268, R384) -/

/-- Bits of the CRC of a profile. -/
def polyWidth (poly : Nat) : Nat := if poly = 1 then 16 else 32

/-- The initial value of a profile (R268). -/
def polyInit (poly : Nat) : BitVec 32 := if poly = 1 then 0xFFFF else 0xFFFFFFFF

/-- Folding bytes into a running value without final XOR (R268); POLY 3 names no profile. -/
def polyFold (poly : Nat) (v : BitVec 32) (bs : List Byte) : BitVec 32 :=
  if poly = 0 then crcR 0x82F63B78 v bs
  else if poly = 1 then (crc16 0x1021 (v.extractLsb' 0 16) bs).setWidth 32
  else if poly = 2 then crcR 0xEDB88320 v bs
  else v

/-- The final XOR of a profile (R268). -/
def polyFinal (poly : Nat) (v : BitVec 32) : BitVec 32 :=
  if poly = 1 then v else if poly = 3 then v else ~~~v

/-- The CRC of bytes under a profile. -/
def polyCrc (poly : Nat) (bs : List Byte) : BitVec 32 := polyFinal poly (polyFold poly (polyInit poly) bs)

/-! ### CRC channels (R397, R399) -/

/-- The offset of channel n. -/
def calcOff (n : Nat) : Nat := 0x500 + 8 * n

/-- POLY of a channel. -/
def State.calcPoly (s : State) (die n : Nat) : Nat := s.fld die 0x46 (calcOff n) 1 0

/-- VAL of a channel. -/
def State.calcVal (s : State) (die n : Nat) : BitVec 32 := BitVec.ofNat 32 (s.regN die 0x46 (calcOff n + 2) 2)

/-- Storing VAL. -/
def State.setCalc (s : State) (die n : Nat) (v : BitVec 32) : State :=
  s.setRegs die 0x46 (calcOff n + 2) (lowHigh v)

/-- The key of a channel's CK4 edge. -/
def calcKey (die n : Nat) : Nat := 4 * (die - 5) + n

/-- What has been folded by DATA in the present CK4 edge no longer counts as such. -/
def State.calcClose (s : State) (die n : Nat) : State :=
  { s with cvu := { s.cvu with edges := s.cvu.edges.set (dflt {}) (calcKey die n) {} } }

/-- START: the profile's initial value (R397). -/
def State.calcStart (s : State) (die n : Nat) : State :=
  (s.calcClose die n).setCalc die n (polyInit (s.calcPoly die n))

/-- The DATA words folded in the present CK4 edge: with none yet, VAL as it stands is what they are folded upon. -/
def State.calcEdge (s : State) (die n : Nat) : CalcEdge :=
  let x := s.cvu.edges.get (dflt {}) (calcKey die n)
  let e := edgeUp s ck4 s.now
  if x.edge = e then x else ⟨e, s.calcVal die n, []⟩

/-- The words of one CK4 edge folded into a channel: the DMA words first, the DATA words after them (R397). -/
def State.calcPut (s : State) (die n : Nat) (x : CalcEdge) : State :=
  { s.setCalc die n (polyFold (s.calcPoly die n) x.old (bytesOf x.data)) with
    cvu := { s.cvu with edges := s.cvu.edges.set (dflt {}) (calcKey die n) x } }

/-- Folding a word written to CVU_CALCn_DATA into a channel (R397). -/
def State.calcData (s : State) (die n : Nat) (w : Word) : State :=
  let x := s.calcEdge die n
  s.calcPut die n { x with data := x.data ++ [w] }

/-- Folding DMA words into a channel: ahead of the DATA words of the same CK4 edge (R397). -/
def State.calcDma (s : State) (die n : Nat) (ws : List Word) : State :=
  let x := s.calcEdge die n
  s.calcPut die n { x with old := polyFold (s.calcPoly die n) x.old (bytesOf ws) }

/-! ### Assignments -/

/-- A commit has been accepted since the last device reset (R395). -/
def State.committed (s : State) : Bool := s.boot.commitAt.isSome

/-- The ring address of port die P0 or P1. -/
def pd (p : Nat) : Nat := 5 + p

/-- One assignment as it is in force: enabled, port position, POLY, MAXGAP, DATA_ID, TMO and, on send, the
queue (R383, R399). -/
structure Assign where
  en : Bool
  port : Nat
  poly : Nat
  gap : Nat
  id : Word
  tmo : Nat
  q : Nat
deriving DecidableEq, Repr

/-- The boot assignment of either direction, held at number 0 (R395; assumption 13). -/
def bootAssign (a : Nat) : Assign := ⟨a == 0, 4, 0, 15, 0x4D47, 0, 0⟩

/-- Receive assignment a of port die p (R395, R399). -/
def State.rxAssign (s : State) (p a : Nat) : Assign :=
  if !s.committed then bootAssign a
  else
    let b := 0x100 + 0x10 * a
    let c := (s.live (pd p) 0x46 b).toNat
    ⟨bit c 0, bits c 3 1, bits c 5 4, bits c 9 6, s.live (pd p) 0x46 (b + 1), (s.live (pd p) 0x46 (b + 2)).toNat, 0⟩

/-- Transmit assignment a of port die p (R395, R399). -/
def State.txAssign (s : State) (p a : Nat) : Assign :=
  if !s.committed then bootAssign a
  else
    let b := 0x300 + 8 * a
    let c := (s.live (pd p) 0x46 b).toNat
    ⟨bit c 0, bits c 3 1, bits c 5 4, 0, s.live (pd p) 0x46 (b + 1), 0, bits c 10 6⟩

/-- The header of R385 without its CRC: DATA_ID, CTR, LEN and PROF. -/
def cvuHead (x : Assign) (ctr : Word) (len : Nat) : List Word :=
  [x.id, ctr, BitVec.ofNat 16 len, BitVec.ofNat 16 x.poly]

/-- The CRC of R386 over header words 0 to 3 and the payload. -/
def cvuCrc (poly : Nat) (head payload : List Word) : BitVec 32 := polyCrc poly (bytesOf (head ++ payload))

/-! ### The armed injection (R398) -/

/-- CVU_INJ is armed for this assignment and direction (true: send). -/
def State.cvuArmed (s : State) (p a : Nat) (send : Bool) : Bool :=
  let v := (s.reg (pd p) 0x46 8).toNat
  bit v 15 && bit v 4 == send && bits v 3 0 == a

/-- The mask of the injection, cut to the profile's width; ARM reads 0 again (R398). -/
def State.cvuTake (s : State) (p poly : Nat) : State × BitVec 32 :=
  let m := BitVec.ofNat 32 (s.regN (pd p) 0x46 9 2)
  (s.setReg (pd p) 0x46 8 (s.reg (pd p) 0x46 8 &&& 0x7FFF), if polyWidth poly = 16 then m &&& 0xFFFF else m)

/-! ### Receiving (R389 to R393) -/

/-- What the CVU makes of a frame's payload. -/
inductive RxOutcome where
  /-- discarded -/
  | dropped
  /-- delivered to the route of assignment a: the payload without its header -/
  | delivered (a : Nat) (payload : List Word)
deriving DecidableEq, Repr

/-- The timer of an assignment loaded now (R393): none with TMO 0. -/
def State.tmoDue (s : State) (tmo : Nat) : Option Nat := if tmo = 0 then none else some (s.now + tmo * (750 * ck4))

/-- The assignment after a delivered message (R391 to R393). -/
def RxAssign.deliver (r : RxAssign) (ctr : Word) (due : Option Nat) : RxAssign :=
  { r with run := true, last := ctr, runLen := 0, afterWrong := false, dueAt := due }

/-- Classification of a message with a good CRC: whether it is delivered, whether WRONG_SEQ is to be
reported, and the assignment after it (R391, R392). -/
def RxAssign.classify (r : RxAssign) (ctr : Word) (gap : Nat) (due : Option Nat) : Bool × Bool × RxAssign :=
  let d := (ctr - r.last).toNat
  if !r.run || d = 1 then (true, false, { r.deliver ctr due with ok := satInc r.ok })
  else if d = 0 then (false, false, { r with rep := satInc r.rep })
  else if d ≤ gap + 1 then (true, false, { r.deliver ctr due with skip := satInc r.skip })
  else
    let n := if r.afterWrong && ctr == r.cand + 1 then r.runLen.toNat + 1 else 1
    if n = 3 then
      (true, false, { r.deliver ctr due with cand := ctr, ok := satInc r.ok, resync := satInc r.resync })
    else
      (false, true,
        { r with runLen := BitVec.ofNat 2 n, cand := ctr, afterWrong := true, seq := satInc r.seq })

/-- CRC_FAIL: counted and reported, the assignment otherwise unchanged (R389). -/
def State.cvuCrcFail (s : State) (p a : Nat) : State :=
  (s.modRx p a (fun r => { r with crc := satInc r.crc })).raise (pd p) 0x46 1

/-- The computed CRC of a message, with the armed injection where it names this assignment (R386, R398). -/
def State.cvuComputed (s : State) (p a poly : Nat) (ws : List Word) (len : Nat) : State × BitVec 32 :=
  let c := cvuCrc poly (ws.take 4) ((ws.drop 6).take len)
  if s.cvuArmed p a false then
    let x := s.cvuTake p poly
    (x.1, c ^^^ x.2)
  else (s, c)

/-- The timer of an assignment expires: TIMEOUT (R393). -/
def State.cvuTimeout (s : State) (p a : Nat) : State :=
  match (s.rxOf p a).dueAt with
  | none => s
  | some due =>
    if s.now < due || (s.die (pd p)).fenced then s
    else (s.modRx p a (fun r => { r with run := false, dueAt := none, tmo := satInc r.tmo })).raise (pd p) 0x46 3

/-- Step 4 of R389: the counter is classified (R391, R392); a timer that has come to its end goes first (R396). -/
def State.cvuClassify (s : State) (p a : Nat) (x : Assign) (ws : List Word) (len : Nat) : State × RxOutcome :=
  let s := s.cvuTimeout p a
  let z := (s.rxOf p a).classify (wordAt ws 1) x.gap (s.tmoDue x.tmo)
  let s := s.modRx p a (fun _ => z.2.2)
  let s := if z.2.1 then s.raise (pd p) 0x46 2 else s
  (s, if z.1 then .delivered a ((ws.drop 6).take len) else .dropped)

/-- Steps 2 to 4 of R389 for a message of assignment a. -/
def State.cvuCheck (s : State) (p a : Nat) (ws : List Word) (mism : Bool) : State × RxOutcome :=
  let x := s.rxAssign p a
  let len := (wordAt ws 2).toNat
  if len < 8 || 4608 < len || len % 8 != 0 || ws.length < 6 + len ||
      (wordAt ws 3).toNat != x.poly || (x.poly == 1 && wordAt ws 5 != 0) then
    (s.cvuCrcFail p a, .dropped)
  else
    let y := s.cvuComputed p a x.poly ws len
    if mism then
      ((({ y.1 with cvu := { y.1.cvu with mismCnt := y.1.cvu.mismCnt.modify (dflt 0) p satInc } }).raise
        (pd p) 0x46 5), .dropped)
    else if y.2 != wordAt ws 5 ++ wordAt ws 4 then (y.1.cvuCrcFail p a, .dropped)
    else y.1.cvuClassify p a x ws len

/-- R389: the frame's whole payload words against the enabled receive assignments of the port. -/
def State.cvuReceive (s : State) (p pos : Nat) (ws : List Word) (mism : Bool) : State × RxOutcome :=
  let holds : Nat → Bool := fun a =>
    let x := s.rxAssign p a
    x.en && x.port == pos && x.id == wordAt ws 0 && wordAt ws 0 != 0
  match if ws.length < 6 then none else (List.range 16).find? holds with
  | none =>
    (({ s with cvu := { s.cvu with noId := s.cvu.noId.modify (dflt 0) p satInc } }).raise (pd p) 0x46 4, .dropped)
  | some a => s.cvuCheck p a ws mism

/-! ### The message that is sent (R385 to R387) -/

/-- The messages of an assignment that are formed and not yet handed to the MAC. -/
def State.handsOf (s : State) (p a : Nat) : List TxHand := (s.pdie p).hands.filter (fun h => h.a == a)

/-- The counter of the next message of a transmit assignment: the one after those that are formed already (R387). -/
def State.txCtr (s : State) (p a : Nat) : Word := (s.txOf p a).ctr + BitVec.ofNat 16 (s.handsOf p a).length

/-- The words of the next message of a transmit assignment, header and payload (R385, R387). -/
def State.cvuMessage (s : State) (p a : Nat) (payload : List Word) : List Word :=
  let x := s.txAssign p a
  let head := cvuHead x (s.txCtr p a) payload.length
  head ++ lowHigh (cvuCrc x.poly head payload) ++ payload

/-- The words that are handed to the MAC: an armed injection XORs its mask into the CRC field (R398). -/
def State.cvuHanded (s : State) (p : Nat) (h : TxHand) : State × List Word :=
  if s.cvuArmed p h.a true then
    let y := s.cvuTake p h.poly
    (y.1, h.words.take 4 ++ lowHigh ((wordAt h.words 5 ++ wordAt h.words 4) ^^^ y.2) ++ h.words.drop 6)
  else (s, h.words)

/-- CVU_TIMEOUT (R393). -/
def execCvuTimeout (t : Nat) (p1 : Bool) (a : BitVec 4) (s : State) : Host.Outcome State Fault Refusal :=
  .next ((s.to t).cvuTimeout (portNo p1) a.toNat)

end Sys2Proof.Machine
end

