-- ==== Sys2Proof/Machine/Eth.lean ====
section
/-!
DEFINITION. Ethernet: frames in (R519 to R521, R525), routes (R521), the mailbox (R523), frames out (R387,
R388, R520, R524), links (R538) and PLCA on 10BASE-T1S (R527, R528).
-/

namespace Sys2Proof.Machine

/-! ### Ports -/

/-- The offset of the registers of a position (R539). -/
def ethOff (pos : Nat) : Nat := 0x100 + 0x20 * pos

/-- A position that is present (R517). -/
def ethPos (pos : Nat) : Bool := pos == 0 || pos == 1 || pos == 4 || pos == 5

/-- The port die stands and is not fenced (R538). -/
def State.pdOn (s : State) (p : Nat) : Bool := (s.die (pd p)).present && !(s.die (pd p)).fenced

/-- The port runs: ETH_PCFGp.EN from the commit; before it, the 1000BASE-T1 port under the boot settings (R395, R539); none
once a power loss holds the PHYs and MACs in reset (R550). -/
def State.ethRuns (s : State) (p pos : Nat) : Bool :=
  s.pdOn p && ethPos pos && !s.shed && (if s.committed then s.flagL (pd p) 0x40 (ethOff pos) 0 else pos == 4)

/-- MACsec is on at a port (R524, R539): on a 1000BASE-T1 port only. -/
def State.macsec (s : State) (p pos : Nat) : Bool :=
  s.committed && pos == 4 && s.flagL (pd p) 0x40 (ethOff pos) 3

/-- The boot address: 0x02, then bits 39:0 of the hub's DIE_UID (R395). -/
def bootMac : BitVec 48 := (0x02 : BitVec 8) ++ (Config.dieUid 0).extractLsb' 0 40

/-- The address of a port (R395, R539). -/
def State.ethMac (s : State) (p pos : Nat) : BitVec 48 :=
  if s.committed then BitVec.ofNat 48 (s.liveN (pd p) 0x40 (ethOff pos + 1) 3) else bootMac

/-- The broadcast address. -/
abbrev bcast : BitVec 48 := 0xFFFFFFFFFFFF

/-- A destination address that the port accepts (R395, R519). -/
def State.ethTakes (s : State) (p pos : Nat) (dst : BitVec 48) : Bool :=
  let m := BitVec.ofNat 48 (s.liveN (pd p) 0x40 (ethOff pos + 4) 3)
  dst == s.ethMac p pos || dst == bcast ||
    (s.committed && ((m != 0 && dst == m) || dst == 0x0180C200000E))

/-- A tag that the port accepts: under the boot settings no tag (R395), then none or VID 0 with UNTAG, else an enabled
VID (R519). -/
def State.ethTag (s : State) (p pos : Nat) (tagged : Bool) (vid : Nat) : Bool :=
  if !s.committed then !tagged
  else if vid = 0 then s.flagL (pd p) 0x40 (ethOff pos) 2
  else (List.range 4).any (fun v =>
    let r := (s.live (pd p) 0x40 (ethOff pos + 7 + v)).toNat
    bit r 12 && bits r 11 0 == vid)

/-- The largest frame of a port, with FCS and without MACsec (R520). -/
def ethMax (pos : Nat) : Nat := if pos = 5 then 1522 else 9250

/-- CK1 cycles of a number of bits at the line rate of a position (R4, R518). -/
def bitCk1 (pos n : Nat) : Nat := if pos = 5 then 300 * n else if pos = 4 then 3 * n else (3 * n + 9) / 10

/-! ### Bytes of a frame -/

/-- Bytes as a number, first byte most significant. -/
def ofBytes : List Byte → Nat := List.foldl (fun a b => 256 * a + b.toNat) 0

/-- The 6 bytes of an address, first octet in bits 47:40 (R519). -/
def macBytes (a : BitVec 48) : List Byte := (List.range 6).map (fun i => a.extractLsb' (40 - 8 * i) 8)

/-- A frame taken apart: its addresses, whether it is tagged, the VID of its tag (0 without one), its EtherType and its payload. -/
structure EthParts where
  dst : BitVec 48
  src : BitVec 48
  tagged : Bool
  vid : Nat
  etype : Nat
  body : List Byte
deriving DecidableEq, Repr

/-- Taking a frame apart: at most one IEEE 802.1Q tag (R518). -/
def ethParts (bs : List Byte) : EthParts :=
  let et := ofBytes ((bs.drop 12).take 2)
  let tagged := et == 0x8100
  { dst := BitVec.ofNat 48 (ofBytes (bs.take 6)), src := BitVec.ofNat 48 (ofBytes ((bs.drop 6).take 6))
    tagged := tagged
    vid := if tagged then ofBytes ((bs.drop 14).take 2) % 4096 else 0
    etype := if tagged then ofBytes ((bs.drop 16).take 2) else et
    body := if tagged then bs.drop 18 else bs.drop 14 }

/-- Whole words of bytes: an odd last byte belongs to no word. -/
def wholeWords (bs : List Byte) : List Word := packBytes (bs.take (bs.length / 2 * 2))

/-! ### Counters -/

/-- A frame counted in ETH_RXOTHERp (R519). -/
def State.ethOther (s : State) (p pos : Nat) : State := s.modEth p pos (fun e => { e with rxOther := satInc e.rxOther })

/-- A frame counted in ETH_TXLOSTp (R520). -/
def State.ethLost (s : State) (p pos : Nat) : State := s.modEth p pos (fun e => { e with txLost := satInc e.txLost })

/-- A frame that fails MACsec verification (R519). -/
def State.ethSecFail (s : State) (p pos : Nat) : State :=
  (s.modEth p pos (fun e => { e with secFail := satInc e.secFail })).raise (pd p) 0x40 8

/-- An entry counted in ETH_MBXDROP (R523). -/
def State.mbxDropped (s : State) (p : Nat) : State := s.modPdie p (fun d => { d with mbxDrop := satInc d.mbxDrop })

/-! ### Timestamps (R525) -/

/-- Device time in ns at a CK1 time, on the present step. -/
def State.nsAt (s : State) (t : Nat) : Int :=
  ((s.time.base : Int) + s.time.step * ((((t - s.clk.marker) / ck8 : Nat) : Int) - s.time.tick)) / 2 ^ 32

/-- A time in ns, laid out as TIME_NOW (R193). -/
def stamp80 (ns : Int) : BitVec 80 :=
  BitVec.ofNat 48 (ns.toNat / 1000000000) ++ BitVec.ofNat 32 (ns.toNat % 1000000000)

/-- The nominal receive and transmit latency of a position in ns (R525). -/
def rxLatency (pos : Nat) : Int := if pos = 5 then 2600 else if pos = 4 then 560 else 1220
/-- The nominal transmit latency (R525). -/
def txLatency (pos : Nat) : Int := if pos = 5 then 1300 else if pos = 4 then 310 else 440

/-- The ingress timestamp of a frame whose start-frame delimiter ended at a CK1 time (R525). -/
def State.rxStamp (s : State) (pos sfdAt : Nat) : BitVec 80 :=
  stamp80 (s.nsAt (edgeUp s ck4 sfdAt) - rxLatency pos)

/-! ### The receive mailbox (R523) -/

/-- Words of a mailbox. -/
abbrev mbxLen : Nat := 2048

/-- An entry for the receive mailbox: discarded and counted where it does not fit (R523). -/
def State.mbxPut (s : State) (p kind port bytes : Nat) (ts : BitVec 80) (data : List Word) : State :=
  let e := [BitVec.ofNat 16 kind, BitVec.ofNat 16 port, BitVec.ofNat 16 bytes] ++ timeWords ts ++ data
  if mbxLen < (s.pdie p).mbxRx.length + e.length then s.mbxDropped p
  else s.modPdie p (fun d => { d with mbxRx := d.mbxRx ++ e })

/-- ETH_MBXPOP: words removed from the head (R539). -/
def State.mbxPop (s : State) (p n : Nat) : State := s.modPdie p (fun d => { d with mbxRx := d.mbxRx.drop n })

/-! ### Frames in -/

/-- CK1 cycles of the stages 1 to 4 of R394, from the end of a frame at the MAC to the end of its classification. -/
abbrev checkStages : Nat := 58 * ck4

/-- CK1 cycles from the end of a frame at the MAC to its first push: the seven stages of R394. -/
abbrev pushAfter : Nat := 159 * ck4

/-- The CK4 edge at which the frame in hand ended at the MAC: ETH_FRAME_RECEIVE of a protected message comes as its
classification completes (R394; assumption 33). -/
def State.frameEnd (s : State) : Nat := edgeUp s ck4 s.now - checkStages

/-- Words of the receive buffer (R521). -/
abbrev rxBuffer : Nat := 32768

/-- A delivered message goes to its route (R521): into the mailbox, or into the receive buffer to wait. -/
def State.routeTake (s : State) (p pos a : Nat) (payload : List Word) (room : Nat) (f : EthRx) (src : BitVec 48) :
    State :=
  if !s.committed || s.fldL (pd p) 0x40 (0x300 + 4 * a) 1 0 = 0 then
    let s := if s.committed then s
      else s.modPdie p (fun d =>
        { d with peer := src, asked := d.asked ++ [⟨wordAt payload 0, wordAt payload 1, src⟩] })
    s.mbxPut p 1 (pos + 256 * a) (2 * payload.length) (s.rxStamp pos f.sfdAt) payload
  else
    s.modPdie p (fun d =>
      { d with
        room := d.room + room
        waiting := d.waiting ++
          [⟨a, toFlits (payload.length / 8) payload, true, room, s.frameEnd + pushAfter⟩] })

/-- A commit edge has fallen while the frame in hand stood in the stages of R394 (R395). -/
def State.cutByCommit (s : State) : Bool :=
  match s.boot.commitAt with
  | none => false
  | some t => decide (s.frameEnd < t)

/-- A frame of the end-to-end EtherType: the CVU, and the route of what it delivers; one that stood in the stages at a
commit edge is discarded and not classified (R389, R395, R519). -/
def State.ethCvu (s : State) (p pos : Nat) (f : EthRx) (x : EthParts) (room : Nat) : State :=
  if s.cutByCommit then s
  else
    let r := s.cvuReceive p pos (wholeWords x.body) f.mism
    match r.2 with
    | .dropped => r.1
    | .delivered a payload => r.1.routeTake p pos a payload room f x.src

/-- The gPTP port of TIME_CTRL.PORT (R193, R526). -/
def State.ptpPort (s : State) (p pos : Nat) : Bool :=
  s.committed && s.fldL 0 0x47 0 5 2 == (if pos < 2 then 4 * p + pos else if pos = 4 then 8 + p else 16)

/-- A FRAME entry for the mailbox (R523). -/
def State.ethMbx (s : State) (p pos : Nat) (f : EthRx) : State :=
  s.mbxPut p 2 pos f.bytes.length (s.rxStamp pos f.sfdAt) (packBytes f.bytes)

/-- Where an accepted frame goes by its EtherType (R519). -/
def State.ethByType (s : State) (p pos : Nat) (f : EthRx) (x : EthParts) (room : Nat) : State :=
  if x.etype = 0x88B5 then
    if s.macsec p pos && f.sec.isNone then s.ethSecFail p pos else s.ethCvu p pos f x room
  else if x.etype = 0x88F7 && s.ptpPort p pos then s.ethMbx p pos f
  else if x.etype = 0x888E && s.macsec p pos then s.ethMbx p pos f
  else s.ethOther p pos

/-- The key of a secure association: direction (true: send) and AN (R524). -/
def saKeyNo (send : Bool) (an : Nat) : Nat := 4 * b2n send + an

/-- The installed association. -/
def State.saOf (s : State) (p : Nat) (send : Bool) (an : Nat) : Option SaSt :=
  (s.pdie p).sa.get (dflt none) (saKeyNo send an)

/-- Storing an association. -/
def State.setSa (s : State) (p : Nat) (send : Bool) (an : Nat) (x : SaSt) : State :=
  s.modPdie p (fun d => { d with sa := d.sa.set (dflt none) (saKeyNo send an) (some x) })

/-- Verification of a protected frame: an installed key, the SCI, the ICV and strict replay protection; the
next acceptable PN where it holds (R519, R524). -/
def State.secCheck (s : State) (p : Nat) (g : SecTag) : Option SaSt :=
  match s.saOf p false g.an.toNat with
  | none => none
  | some x =>
    if g.icvOk && g.sci == BitVec.ofNat 64 (s.liveN (pd p) 0x40 0x214 4) && decide (x.pn ≤ g.pn.toNat) then
      some { x with pn := g.pn.toNat + 1 }
    else none

/-- An accepted frame: counted, and verified where it came protected (R519). -/
def State.ethAccepted (s : State) (p pos : Nat) (f : EthRx) (x : EthParts) (room : Nat) : State :=
  let s := s.modEth p pos (fun e => { e with rxFrm := e.rxFrm + 1 })
  match f.sec with
  | none => s.ethByType p pos f x room
  | some g =>
    if !s.macsec p pos then s.ethOther p pos
    else
      match s.secCheck p g with
      | none => s.ethSecFail p pos
      | some y => (s.setSa p false g.an.toNat y).ethByType p pos f x room

/-- The words of the receive buffer that a frame takes (R521). -/
def rxRoom (f : EthRx) : Nat := (f.bytes.length + 1) / 2 + (if f.sec.isSome then 16 else 0)

/-- A whole frame at the MAC (R519 to R521): room, length, FCS, address and tag. -/
def State.ethReceive (s : State) (p pos : Nat) (f : EthRx) : State :=
  let x := ethParts f.bytes
  let prot := if f.sec.isSome then 32 else 0
  let len := f.bytes.length + 4 + prot
  let most := ethMax pos + (if s.macsec p pos then prot else 0)
  if !(s.ethRuns p pos && (s.ethOf p pos).link) then s
  else if rxBuffer < (s.pdie p).room + rxRoom f then s.modPdie p (fun d => { d with rxFull := satInc d.rxFull })
  else if most < len then s.modEth p pos (fun e => { e with rxLong := satInc e.rxLong })
  else if !f.fcsOk || len < 64 then s.modEth p pos (fun e => { e with rxBad := satInc e.rxBad })
  else if s.ethTakes p pos x.dst && s.ethTag p pos x.tagged x.vid then s.ethAccepted p pos f x (rxRoom f)
  else s.ethOther p pos

/-! ### Routes (R521) -/

/-- One flit of a route's push: die, queue, words and LAST. -/
structure RoutePush where
  die : Nat
  q : Nat
  flit : List Word
  last : Bool
deriving DecidableEq, Repr

/-- What the next push of a waiting message is (R109, R521). -/
def State.routePlan (s : State) (p : Nat) (m : RouteMsg) : List RoutePush :=
  let r := (s.live (pd p) 0x40 (0x300 + 4 * m.a)).toNat
  let n := m.flits.length
  let f0 := m.flits.getD 0 []
  if bits r 1 0 = 2 then
    let w := (s.live 0 0x06 (0x100 * bits r 2 2 + 4 + bits r 4 3)).toNat
    if m.first then
      ⟨0, bits w 7 0, f0, n == 1⟩ :: (if 2 ≤ n then [⟨0, bits w 15 8, m.flits.getD 1 [], n == 2⟩] else [])
    else [⟨0, bits w 15 8, f0, n == 1⟩]
  else
    (List.range 3).filterMap (fun k =>
      let d := (s.live (pd p) 0x40 (0x301 + 4 * m.a + k)).toNat
      if bit d 12 then some ⟨bits d 11 9, bits d 8 0, f0, n == 1⟩ else none)

/-- Changing the first waiting message of an assignment: to what a function gives, or removing it. -/
def setWaiting (a : Nat) (f : RouteMsg → Option RouteMsg) : List RouteMsg → List RouteMsg
  | [] => []
  | m :: ms => if m.a = a then (f m).toList ++ ms else m :: setWaiting a f ms

/-- The flits of one push of a message, made: the message without them, its room freed after the last; the route's next
push waits for the next CK4 edge (R521). -/
def State.routeDone (s : State) (p : Nat) (m : RouteMsg) (taken : Nat) : State :=
  let left := m.flits.drop taken
  s.modPdie p (fun d =>
    { d with
      room := if left.isEmpty then d.room - m.room else d.room
      waiting := (setWaiting m.a (fun x => if left.isEmpty then none else some { x with flits := left, first := false })
        d.waiting).map (fun x => if x.a = m.a then { x with readyAt := max x.readyAt (edgeUp s ck4 s.now + ck4) } else x) })

/-- The next flit of a route's oldest message, when every destination still served holds credit (R521). -/
def State.routePush (s : State) (p a : Nat) : State :=
  match (s.pdie p).waiting.find? (fun m => m.a == a) with
  | none => s
  | some m =>
    let plan := s.routePlan p m
    let me := Agent.port (pd p) a
    let short := plan.any (fun x => !s.consFenced x.die x.q && s.credit x.die x.q me == 0)
    if edgeUp s ck4 s.now < m.readyAt || !s.pdOn p || short then s
    else
      let t := edgeUp s ck4 s.now
      let s := plan.foldl (fun (s : State) x => (s.blockPush x.die x.q me [x.flit] x.last t).1) s
      s.routeDone p m (if m.first && s.fldL (pd p) 0x40 (0x300 + 4 * a) 1 0 == 2 then 2 else 1)

/-! ### Frames out (R387, R520, R524) -/

/-- The bytes of a frame: addresses, tag, EtherType and payload. -/
def ethBytes (dst src : BitVec 48) (tag : Option Word) (etype : Word) (ws : List Word) : List Byte :=
  macBytes dst ++ macBytes src ++ (match tag with | none => [] | some t => bytesOf [0x8100, t]) ++
    bytesOf (etype :: ws)

/-- A request taken under the boot settings that a response answers: its CMD without bit 15, and its SEQ (R92). -/
def BootAsk.answers (x : BootAsk) (ws : List Word) : Bool :=
  x.cmd ||| 0x8000 == wordAt ws 6 && x.seq == wordAt ws 7

/-- The address that a response under the boot settings goes to: the source of the frame that carried its command
(R395); of a message that answers no request, the source of the last one (assumption 128). -/
def PortDieSt.bootPeer (d : PortDieSt) (ws : List Word) : BitVec 48 :=
  match d.asked.find? (fun x => x.answers ws) with
  | some x => x.src
  | none => d.peer

/-- A request that a response under the boot settings has answered is closed. -/
def State.bootAnswered (s : State) (p : Nat) (ws : List Word) : State :=
  if s.committed then s else s.modPdie p (fun d => { d with asked := d.asked.eraseP (fun x => x.answers ws) })

/-- The bytes of a protected message's frame (R387, R395, R539). -/
def State.txBytes (s : State) (p a pos : Nat) (ws : List Word) : List Byte :=
  if !s.committed then ethBytes ((s.pdie p).bootPeer ws) bootMac none 0x88B5 ws
  else
    let tag := s.live (pd p) 0x40 (0x403 + 4 * a)
    ethBytes (BitVec.ofNat 48 (s.liveN (pd p) 0x40 (0x400 + 4 * a) 3)) (s.ethMac p pos)
      (if tag.getLsbD 15 then some (tag &&& 0x7FFF) else none) 0x88B5 ws

/-- The transmit association that ETH_SATX selects may send a further frame (R524). -/
def State.saSends (s : State) (p : Nat) : Bool :=
  match s.saOf p true (s.fld (pd p) 0x40 0x211 1 0) with
  | none => false
  | some x => decide (x.pn < 0xFFFFFFFF)

/-- A frame handed to the MAC: lost where the link is down, the frame is too long or no association may send
(R520, R524). -/
def State.macHand (s : State) (p pos : Nat) (bs : List Byte) (secured entry : Bool) (a at_ : Nat) : State :=
  let clear := max 64 (bs.length + 4)
  if !(s.ethRuns p pos && (s.ethOf p pos).link) || ethMax pos < clear || (secured && !s.saSends p) then
    s.ethLost p pos
  else
    s.modEth p pos (fun e =>
      { e with txq := e.txq ++ [⟨packBytes bs, clear + (if secured then 32 else 0), at_, entry, a, secured⟩] })

/-- The hand-over of a message to the MAC: its counter is spent, an armed injection is taken, and a MAC that cannot send
it loses it (R387, R398, R520). A die that has been fenced before then hands nothing over (R396). -/
def State.handOver (s : State) (p : Nat) (h : TxHand) : State :=
  if !s.pdOn p && decide ((s.die (pd p)).fencedAt ≤ h.at_) then s
  else
    let x := s.cvuHanded p h
    let bs := x.1.txBytes p h.a h.pos x.2
    let s := (x.1.modTx p h.a (fun u => { u with ctr := u.ctr + 1, sent := u.sent + 1 })).bootAnswered p x.2
    s.macHand p h.pos bs (s.macsec p h.pos) false h.a h.at_

/-- The hand-overs of a port die that have come by now, in their order (R387). -/
def State.handed (s : State) (p : Nat) : State :=
  let hs := (s.pdie p).hands
  (hs.filter (fun h => decide (h.at_ ≤ s.now))).foldl (fun (s : State) h => s.handOver p h)
    (s.modPdie p (fun d => { d with hands := hs.filter (fun h => decide (s.now < h.at_)) }))

/-- A message put among those that wait for their hand-over, in the order of the hand-overs. -/
def handIn (h : TxHand) : List TxHand → List TxHand
  | [] => [h]
  | g :: gs => if g.at_ ≤ h.at_ then g :: handIn h gs else h :: g :: gs

/-- A message is formed; it goes to the MAC at a later edge (R387). -/
def State.cvuSend (s : State) (p a : Nat) (payload : List Word) (at_ : Nat) : State :=
  let x := s.txAssign p a
  let h : TxHand := ⟨a, s.cvuMessage p a payload, x.poly, x.port, at_⟩
  s.modPdie p (fun d => { d with hands := handIn h d.hands })

/-- A mailbox entry that waits for the end of assignment a's queue message starts at the next edge (R523). -/
def State.mbxArm (s : State) (p a : Nat) : State :=
  match (s.pdie p).send with
  | none => s
  | some m =>
    if m.assign = a && m.startAt.isNone then
      s.modPdie p (fun d => { d with send := some { m with startAt := some (edgeUp s ck4 s.now + ck4) } })
    else s

/-- Assignment a is within a queue message. -/
def TxAssign.within (u : TxAssign) : Bool := !u.flits.isEmpty || u.bad

/-- A mailbox entry holds assignment a back: it may start or has started and is not handed over (R523). -/
def State.mbxHolds (s : State) (p a : Nat) : Bool :=
  match (s.pdie p).send with
  | none => false
  | some m => m.assign == a && m.startAt.isSome && (match m.doneAt with | none => true | some d => decide (s.now < d))

/-- A popped flit of a transmit message (R387, R388). -/
def State.txFlit (s : State) (p a : Nat) (f : Flit) : State :=
  let u := s.txOf p a
  let s :=
    if u.bad then s.modTx p a (fun u => { u with bad := !f.last })
    else if f.poison || (!f.last && u.flits.length + 1 == 576) then
      (s.modTx p a (fun u => { u with flits := [], bad := !f.last, drop := satInc u.drop })).raise (pd p) 0x46 6
    else if f.last then
      (s.modTx p a (fun u => { u with flits := [] })).cvuSend p a (u.flits ++ [f.words]).flatten
        (edgeUp s ck4 s.now + 14 * ck4)
    else s.modTx p a (fun u => { u with flits := u.flits ++ [f.words] })
  if f.last then s.mbxArm p a else s

/-- A transmit assignment pops a pop-visible flit of its queue, one for each CK4 edge (R387). -/
def State.txPop (s : State) (p a : Nat) : State :=
  let x := s.txAssign p a
  let e := edgeUp s ck4 s.now
  if !s.committed || !x.en || !s.pdOn p || e < (s.txOf p a).popFrom ||
      (!(s.txOf p a).within && s.mbxHolds p a) then s
  else
    match s.head (pd p) x.q with
    | none => s
    | some f => ((s.popHead (pd p) x.q).modTx p a (fun u => { u with popFrom := e + ck4 })).txFlit p a f

/-! ### The transmit mailbox (R523) -/

/-- ETH_MBXSTAT.TXBUSY (R523). -/
def State.mbxBusy (s : State) (p : Nat) : Bool :=
  match (s.pdie p).send with
  | none => false
  | some m => match m.doneAt with | none => true | some d => decide (s.now < d)

/-- A word written to ETH_MBXTX; one beyond the mailbox is lost. -/
def State.mbxTx (s : State) (p : Nat) (w : Word) : State :=
  s.modPdie p (fun d => if d.mbxTx.length < mbxLen then { d with mbxTx := d.mbxTx ++ [w] } else d)

/-- ETH_MBXGO.GO: the written entry is sent; ignored while TXBUSY (R523, R538). -/
def State.mbxGo (s : State) (p : Nat) : State :=
  if s.mbxBusy p then s
  else
    let e := (s.pdie p).mbxTx
    let port := (wordAt e 1).toNat
    let n := (wordAt e 2).toNat
    let a := bits port 11 8
    let s := s.modPdie p (fun d => { d with mbxTx := [], send := none })
    if wordAt e 0 = 1 then
      if !(s.txAssign p a).en then s.mbxDropped p
      else
        let k := max 1 ((n + 15) / 16)
        let data := fitW (8 * k) ((e.drop 8).take ((n + 1) / 2))
        let start := if (s.txOf p a).within then none else some (edgeUp s ck4 s.now)
        s.modPdie p (fun d => { d with send := some ⟨a, toFlits k data, start, none⟩ })
    else if wordAt e 0 = 2 then
      s.macHand p (bits port 2 0) ((bytesOf (fitW ((n + 1) / 2) (e.drop 8))).take n) false true 0 (edgeUp s ck4 s.now)
    else s.mbxDropped p

/-- The CVU starts on a mailbox entry, reads it one flit per edge and hands the frame over 14 CK4 after the
last (R523). -/
def State.mbxStart (s : State) (p : Nat) : State :=
  match (s.pdie p).send with
  | none => s
  | some m =>
    match m.startAt, m.doneAt with
    | some t0, none =>
      if s.now < t0 || !s.pdOn p then s
      else
        let done := edgeUp s ck4 s.now + (m.flits.length - 1 + 14) * ck4
        (s.modPdie p (fun d => { d with send := some { m with doneAt := some done } })).cvuSend p m.assign
          m.flits.flatten done
    | _, _ => s

/-! ### The line -/

/-- A protected frame takes the next PN of its association; ETH_PN when it passes 0xC000_0000 (R524). -/
def State.saNext (s : State) (p : Nat) : State :=
  let an := s.fld (pd p) 0x40 0x211 1 0
  match s.saOf p true an with
  | none => s
  | some x =>
    let hit := decide (0xC0000000 < x.pn + 1) && !x.reported
    let s := s.setSa p true an { x with pn := x.pn + 1, reported := x.reported || hit }
    if hit then s.raise (pd p) 0x40 9 else s

/-- A frame goes out at the MAC–PHY boundary: counted, its PN taken, and the egress timestamp of a FRAME entry
stored (R520, R524, R525, R543). -/
def State.macSend (s : State) (p pos : Nat) (f : TxFrame) : State :=
  if f.secured && !s.saSends p then s.ethLost p pos
  else
    let s := if f.secured then s.saNext p else s
    let s := s.modEth p pos (fun e => { e with txFrm := e.txFrm + 1 })
    if f.entry then
      let ts := stamp80 (s.nsAt (edgeUp s ck4 (edgeUp s ck4 s.now + bitCk1 pos 64)) + txLatency pos)
      (s.modEth p pos (fun e => { e with txTs := ts })).orReg (pd p) 0x47 (0x10 + 8 * pos + 5) 0x8000
    else s

/-- The MAC starts its next handed-over frame (R520); on 10BASE-T1S frames wait for PLCA instead. -/
def State.macStart (s : State) (p pos : Nat) : State :=
  let e := s.ethOf p pos
  match e.txq with
  | [] => s
  | f :: fs =>
    if pos = 5 || s.now < f.handedAt + 6 * ck4 || s.now < e.freeAt || !s.ethRuns p pos then s
    else
      let busy := edgeUp s ck4 (edgeUp s ck4 s.now + bitCk1 pos (8 * (8 + f.bytes) + 96))
      (s.modEth p pos (fun e => { e with txq := fs, freeAt := busy })).macSend p pos f

/-- The link of a position comes up. -/
def State.ethUp (s : State) (p pos : Nat) : State :=
  if s.ethRuns p pos then s.modEth p pos (fun e => { e with link := true }) else s

/-- The link of a position goes down: a partial frame is discarded, frames handed over are lost (R520, R538). -/
def State.ethDown (s : State) (p pos : Nat) (inFrame : Bool) : State :=
  let e := s.ethOf p pos
  if !e.link then s
  else
    (s.modEth p pos (fun e =>
      { e with
        link := false, txq := [], txLost := satAdd e.txLost e.txq.length
        rxBad := if inFrame then satInc e.rxBad else e.rxBad })).raise (pd p) 0x40 (1 + pos)

/-! ### PLCA (R527, R528) -/

/-- Changing the 10BASE-T1S part of a port die. -/
def State.modT1s (s : State) (p : Nat) (f : T1sSt → T1sSt) : State := s.modPdie p (fun d => { d with t1s := f d.t1s })

/-- 10BASE-T1S runs: from the commit, and the link is up (R527). -/
def State.t1sRuns (s : State) (p : Nat) : Bool := s.committed && s.ethRuns p 5

/-- This device is the coordinator (R527). -/
def State.t1sCoord (s : State) (p : Nat) : Bool := s.flagL (pd p) 0x41 1 8

/-- Sending the ready frames at the head, at most n of them. -/
def State.t1sSend (s : State) (p : Nat) : Nat → State
  | 0 => s
  | n + 1 =>
    match (s.ethOf p 5).txq with
    | [] => s
    | f :: fs =>
      if s.now < f.handedAt + 6 * ck4 then s
      else ((s.modEth p 5 (fun e => { e with txq := fs })).macSend p 5 f).t1sSend p n

/-- The device's transmit opportunity: up to MAXBC + 1 frames; none for a follower that has seen no BEACON for 1 ms (R520,
R527, R528). -/
def State.plcaTx (s : State) (p : Nat) : State :=
  let x := (s.pdie p).t1s
  let lost := x.noBeacon || (!s.t1sCoord p && decide (x.beaconAt + msCk1 ≤ s.now))
  if !s.t1sRuns p || !(s.ethOf p 5).link || lost then s
  else (s.t1sSend p (s.fldL (pd p) 0x41 2 11 8 + 1)).modT1s p (fun x => { x with run := 0 })

/-- A follower has seen no BEACON for 1 ms (R528). -/
def State.t1sLoss (s : State) (p : Nat) : State :=
  let x := (s.pdie p).t1s
  if !s.t1sRuns p || s.t1sCoord p || x.noBeacon || s.now < x.beaconAt + msCk1 then s
  else (s.modT1s p (fun x => { x with noBeacon := true, noBcnCnt := satInc x.noBcnCnt })).raise (pd p) 0x41 0x10

/-- A BEACON is received: a follower sends again; a coordinator did not send it (R528). -/
def State.t1sBeacon (s : State) (p : Nat) : State :=
  if !s.t1sRuns p then s
  else if s.t1sCoord p then
    (s.modT1s p (fun x => { x with dupCnt := satInc x.dupCnt })).raise (pd p) 0x41 0x11
  else s.modT1s p (fun x => { x with noBeacon := false, beaconAt := s.now })

/-- A collision in the device's own transmit opportunity (R528). -/
def State.t1sCollide (s : State) (p : Nat) : State :=
  let x := (s.pdie p).t1s
  if !s.t1sRuns p || (s.ethOf p 5).txq.isEmpty then s
  else
    let first := x.run == 0
    let s := if first then s.raise (pd p) 0x41 0x11 else s
    if x.run < 15 then s.modT1s p (fun x => { x with run := x.run + 1, dupCnt := satInc x.dupCnt })
    else
      (s.modT1s p (fun x => { x with run := 0, dupCnt := satInc x.dupCnt, txDrop := satInc x.txDrop })).modEth p 5
        (fun e => { e with txq := e.txq.drop 1 })

/-! ### MACsec keys (R524) -/

/-- ETH_SACTL with INSTALL: the key of ETH_SAKEY to an association, PN 1 (R524). -/
def State.saInstall (s : State) (p : Nat) (v : Nat) : State :=
  let key := (List.range 16).map (fun i => (s.pdie p).saKey.get (dflt 0) i)
  s.setSa p (bit v 2) (bits v 1 0) ⟨key, 1, false⟩

/-! ### The commands -/

/-- ETH_FRAME_RECEIVE (R519, R389). -/
def execEthFrameReceive (t : Nat) (p1 : Bool) (pos : BitVec 3) (f : EthRx) (s : State) :
    Host.Outcome State Fault Refusal := .next ((s.to t).ethReceive (portNo p1) pos.toNat f)

/-- ROUTE_FLIT_PUSH (R521). -/
def execRouteFlitPush (t : Nat) (p1 : Bool) (a : BitVec 4) (s : State) : Host.Outcome State Fault Refusal :=
  .next ((s.to t).routePush (portNo p1) a.toNat)

/-- CVU_TX_FLIT_POP (R387). -/
def execCvuTxFlitPop (t : Nat) (p1 : Bool) (a : BitVec 4) (s : State) : Host.Outcome State Fault Refusal :=
  .next (((s.to t).handed (portNo p1)).txPop (portNo p1) a.toNat)

/-- CVU_MBX_START (R523). -/
def execCvuMbxStart (t : Nat) (p1 : Bool) (s : State) : Host.Outcome State Fault Refusal :=
  .next (((s.to t).handed (portNo p1)).mbxStart (portNo p1))

/-- MAC_TX_START (R520). -/
def execMacTxStart (t : Nat) (p1 : Bool) (pos : BitVec 3) (s : State) : Host.Outcome State Fault Refusal :=
  .next (((s.to t).handed (portNo p1)).macStart (portNo p1) pos.toNat)

/-- ETH_LINK_UP (R539). -/
def execEthLinkUp (t : Nat) (p1 : Bool) (pos : BitVec 3) (s : State) : Host.Outcome State Fault Refusal :=
  .next (((s.to t).handed (portNo p1)).ethUp (portNo p1) pos.toNat)

/-- ETH_LINK_DOWN (R538, R544). -/
def execEthLinkDown (t : Nat) (p1 : Bool) (pos : BitVec 3) (inFrame : Bool) (s : State) :
    Host.Outcome State Fault Refusal := .next (((s.to t).handed (portNo p1)).ethDown (portNo p1) pos.toNat inFrame)

/-- PLCA_TX_OPPORTUNITY (R527). -/
def execPlcaTxOpportunity (t : Nat) (p1 : Bool) (s : State) : Host.Outcome State Fault Refusal :=
  .next (((s.to t).handed (portNo p1)).plcaTx (portNo p1))

/-- T1S_NOBCN (R528). -/
def execT1sNobcn (t : Nat) (p1 : Bool) (s : State) : Host.Outcome State Fault Refusal :=
  .next ((s.to t).t1sLoss (portNo p1))

/-- T1S_COLLISION (R528). -/
def execT1sCollision (t : Nat) (p1 : Bool) (s : State) : Host.Outcome State Fault Refusal :=
  .next (((s.to t).handed (portNo p1)).t1sCollide (portNo p1))

/-- BEACON_RECEIVE (R528). -/
def execBeaconReceive (t : Nat) (p1 : Bool) (s : State) : Host.Outcome State Fault Refusal :=
  .next ((s.to t).t1sBeacon (portNo p1))

end Sys2Proof.Machine
end

