-- ==== Sys2Proof/Machine/Can.lean ====
section
/-!
DEFINITION. The CAN controllers: messages, filters, the receive FIFO, transmit and bus-off (R529, R530,
R541, R544).
-/

namespace Sys2Proof.Machine

/-- The controller runs: enabled by the committed image, its die standing (R538, R541). -/
def State.canRuns (s : State) (p k : Nat) : Bool :=
  s.pdOn p && s.committed && s.flagL (pd p) 0x42 (0x100 + 0x100 * k) 0

/-- The controller is in restricted operation, CANX_CFGk.LOM (R530, R541): it takes part in the bus and sends no frame of
its own (PRESUMED from ISO 11898-1, assumption 135). -/
def State.canQuiet (s : State) (p k : Nat) : Bool := s.flagL (pd p) 0x42 (0x100 + 0x100 * k) 3

/-- The most data bytes of a format (R530). -/
def canMax (fmt : Nat) : Nat := if fmt = 0 then 8 else if fmt = 1 then 64 else 2048

/-- The words of a CAN message, padded to whole flits (R530). -/
def canWords (f : CanFrame) : List Word :=
  let fmt := f.fmt.toNat + 4 * b2n f.ide + 8 * b2n f.rtr + 16 * b2n f.brs + 32 * b2n f.esi
  let ws := [0x4341, BitVec.ofNat 16 fmt] ++ lowHigh (f.id.setWidth 32) ++ [BitVec.ofNat 16 f.data.length, f.xlt] ++
    lowHigh f.af ++ packBytes f.data
  fitW ((ws.length + 7) / 8 * 8) ws

/-- A filter in use matches a frame: identifier under the mask, and format (R530, R541). -/
def State.canMatch (s : State) (p k : Nat) (f : CanFrame) (i : Nat) : Bool :=
  let b := 0x400 + 0x100 * k + 8 * i
  let ctl := (s.live (pd p) 0x42 (b + 4)).toNat
  let id := s.liveN (pd p) 0x42 b 2
  let mask := s.liveN (pd p) 0x42 (b + 2) 2
  bit ctl 0 && (Nat.xor id f.id.toNat &&& mask) == 0 && (bits ctl 2 1 == 0 || bits ctl 2 1 == f.fmt.toNat + 1)

/-- Where ISO 11898-1 leaves the controller; entering bus-off is reported (R541, R544). -/
def State.canErr (s : State) (p k : Nat) (e : CanErr) : State :=
  let was := (s.canOf p k).state
  let s := s.modCan p k (fun c => { c with state := e.state, tec := e.tec, recv := e.recv })
  if e.state = 2 && was != 2 then s.raise (pd p) 0x42 (1 + k) else s

/-- A frame ends on the wire: filtered, and into the receive FIFO for its queue (R530). -/
def State.canReceive (s : State) (p k : Nat) (f : CanFrame) : State :=
  if !s.canRuns p k || (s.canOf p k).state == 2 then s
  else
    let s := s.canErr p k f.err
    match (List.range 16).find? (s.canMatch p k f) with
    | none => s.modCan p k (fun c => { c with rxMiss := satInc c.rxMiss })
    | some i =>
      if 64 ≤ (s.canOf p k).fifo.length then
        (s.modCan p k (fun c => { c with rxOvf := satInc c.rxOvf })).raise (pd p) 0x42 3
      else
        let d := (s.live (pd p) 0x42 (0x400 + 0x100 * k + 8 * i + 5)).toNat
        let ws := canWords f
        let m : CanRx := ⟨bits d 11 9, bits d 8 0, toFlits (ws.length / 8) ws, edgeUp s ck4 s.now + 6 * ck4⟩
        s.modCan p k (fun c => { c with fifo := c.fifo ++ [m] })

/-- The next flit of the frame at the head of the FIFO, when its queue holds credit (R530, R538). -/
def State.canPush (s : State) (p k : Nat) : State :=
  match (s.canOf p k).fifo with
  | [] => s
  | m :: ms =>
    let me := Agent.port (pd p) (16 + k)
    if s.now < m.readyAt || !s.pdOn p || (!s.consFenced m.die m.q && s.credit m.die m.q me == 0) then s
    else
      let s := (s.blockPush m.die m.q me [m.flits.getD 0 []] (m.flits.length == 1) (edgeUp s ck4 s.now)).1
      s.modCan p k (fun c =>
        { c with fifo := if m.flits.length ≤ 1 then ms else { m with flits := m.flits.drop 1 } :: ms })

/-- A message is in its format: KIND, format and LEN, with its data there (R530). -/
def canMsgOk (ws : List Word) : Bool :=
  let fmt := bits (wordAt ws 1).toNat 1 0
  let len := (wordAt ws 4).toNat
  wordAt ws 0 == 0x4341 && fmt != 3 && decide (len ≤ canMax fmt) && (fmt != 2 || decide (1 ≤ len)) &&
    decide (8 + (len + 1) / 2 ≤ ws.length)

/-- Popping a whole message of a queue, at most n flits: its words, and whether a flit was poisoned; none while
its LAST flit is not pop-visible. -/
def takeMessage : Nat → List Flit → Option (List Word × Bool × Nat)
  | 0, _ => none
  | _ + 1, [] => none
  | n + 1, f :: fs =>
    if f.last then some (f.words, f.poison, 1)
    else (takeMessage n fs).map (fun r => (f.words ++ r.1, f.poison || r.2.1, r.2.2 + 1))

/-- The controller takes the next message of its queue: sent where it is in its format, else discarded and
counted; in bus-off discarded (R530). A poisoned flit at the head is discarded as it gets there, and spoils its message
(R294). -/
def State.canPop (s : State) (p k : Nat) : State :=
  let q := s.fldL (pd p) 0x42 (0x10B + 0x100 * k) 4 0
  let bad : State → State := fun s => s.modCan p k (fun c => { c with txBad := satInc c.txBad, txPoison := false })
  let poisoned := match s.head (pd p) q with | some f => f.poison | none => false
  let x := s.dropPoison (pd p) q (s.queueOf (pd p) q).flits.length
  let s := if poisoned then x.1.modCan p k (fun c => { c with txPoison := true }) else x.1
  if x.2 then bad s
  else
    let vis := (s.queueOf (pd p) q).visible s.now
    match takeMessage vis.length vis with
    | none => s
    | some r =>
      let s := Nat.repeat (fun (s : State) => s.popHead (pd p) q) r.2.2 s
      if r.2.1 || (s.canOf p k).txPoison || !canMsgOk r.1 then bad s
      else if (s.canOf p k).state = 2 then s.modCan p k (fun c => { c with txDrop := satInc c.txDrop })
      else s.modCan p k (fun c => { c with sending := some r.1 })

/-- One attempt to send: the next message is popped where none waits; it stays after lost arbitration (R530). In
restricted operation there is no attempt, and the messages wait. -/
def State.canTransmit (s : State) (p k : Nat) (o : CanOutcome) : State :=
  if !s.canRuns p k || s.canQuiet p k then s
  else
    let s := if (s.canOf p k).sending.isNone then s.canPop p k else s
    if (s.canOf p k).sending.isNone || (s.canOf p k).state == 2 then s
    else
      let s := s.canErr p k o.err
      if o.sent then s.modCan p k (fun c => { c with sending := none })
      else if (s.canOf p k).state = 2 then
        s.modCan p k (fun c => { c with sending := none, txDrop := satInc c.txDrop })
      else s

/-- 128 occurrences of 11 recessive bits: error active, both counters 0 (R530). -/
def State.canRecover (s : State) (p k : Nat) : State :=
  if (s.canOf p k).state = 2 && s.canRuns p k then s.modCan p k (fun c => { c with state := 0, tec := 0, recv := 0 })
  else s

/-- CAN_FRAME_RECEIVE (R530). -/
def execCanFrameReceive (t : Nat) (p1 : Bool) (k : BitVec 1) (f : CanFrame) (s : State) :
    Host.Outcome State Fault Refusal := .next ((s.to t).canReceive (portNo p1) k.toNat f)

/-- CAN_FIFO_PUSH (R530). -/
def execCanFifoPush (t : Nat) (p1 : Bool) (k : BitVec 1) (s : State) : Host.Outcome State Fault Refusal :=
  .next ((s.to t).canPush (portNo p1) k.toNat)

/-- CAN_FRAME_TRANSMIT (R530). -/
def execCanFrameTransmit (t : Nat) (p1 : Bool) (k : BitVec 1) (out : CanOutcome) (s : State) :
    Host.Outcome State Fault Refusal := .next ((s.to t).canTransmit (portNo p1) k.toNat out)

/-- BUSOFF_RECOVERY (R530). -/
def execBusoffRecovery (t : Nat) (p1 : Bool) (k : BitVec 1) (s : State) : Host.Outcome State Fault Refusal :=
  .next ((s.to t).canRecover (portNo p1) k.toNat)

end Sys2Proof.Machine
end

