-- ==== Sys2Proof/Machine/BootRec.lean ====
section
/-!
DEFINITION. The boot record and the choice of slots (R460 to R463, R470). Kinds: 0 firmware, 1 image, 2 pack.
-/

namespace Sys2Proof.Machine

/-- STATE codes of an entry: 0 EMPTY, 1 TRIAL, 2 CONFIRMED, 3 REJECTED (R460). -/
abbrev slotTrial : BitVec 2 := 1
/-- CONFIRMED. -/
abbrev slotConfirmed : BitVec 2 := 2
/-- REJECTED. -/
abbrev slotRejected : BitVec 2 := 3

/-- First word of a copy of the boot record in the key-store region (R460, R478; its place there is the model's, DESIGN
CHOICE, assumption 130). -/
def bootRecBase (b : Bool) : Nat := 0x00F100008000 + (if b then 0x100 else 0)

/-- The words of an entry: GEN, then the status word (R460). -/
def SlotRec.words (r : SlotRec) : List Word :=
  lowHigh r.gen ++ [BitVec.ofNat 16 (r.state.toNat + 4 * r.attempts.toNat)]

/-- The words of a copy: its entries by kind and slot, then the CRC-32C of them (R460). -/
def BootCopy.words (c : BootCopy) : List Word :=
  let ws := (List.range 6).flatMap (fun i => (c.slot.get (dflt {}) i).words)
  ws ++ lowHigh (crc32c (bytesOf ws))

/-- A copy of the record. -/
def BootSt.copy (x : BootSt) (b : Bool) : BootCopy := if b then x.copyB else x.copyA

/-- A copy holds: its CRC, and no uncorrectable word in it (R316, R460). -/
def State.recordHolds (s : State) (b : Bool) : Bool :=
  (s.boot.copy b).crcOk && (codewords (bootRecBase b) 20).all (fun cw => !(s.classAt cw).uncorrectable)

/-- The entry of a slot: copy A's, or copy B's where A's CRC does not hold, or blank (R460). -/
def State.slotRec (s : State) (k : Nat) (slot : Bool) : SlotRec :=
  let i := 2 * k + b2n slot
  if s.recordHolds false then s.boot.copyA.slot.get (dflt {}) i
  else if s.recordHolds true then s.boot.copyB.slot.get (dflt {}) i else {}

/-- Writing a copy of the record. -/
def State.putRecord (s : State) (b : Bool) (c : BootCopy) : State :=
  let s := s.store (bootRecBase b) c.words
  { s with boot := if b then { s.boot with copyB := c } else { s.boot with copyA := c } }

/-- Writing an entry to both copies, copy A first (R460); nothing is written without the NV die. -/
def State.setSlotRec (s : State) (k : Nat) (slot : Bool) (r : SlotRec) : State :=
  if s.nvGone then s
  else
    let put : BootCopy → BootCopy := fun c => { crcOk := true, slot := c.slot.set (dflt {}) (2 * k + b2n slot) r }
    (s.putRecord false (put s.boot.copyA)).putRecord true (put s.boot.copyB)

/-- A SLOT entry of the biscuit tin (R504). -/
def State.slotEntry (s : State) (k : Nat) (slot : Bool) (fail : Nat) (action : Word) : State :=
  s.bbxReq 0x0A ([BitVec.ofNat 16 k, BitVec.ofNat 16 (b2n slot), BitVec.ofNat 16 fail, action] ++
    lowHigh (s.slotRec k slot).gen)

/-- FAILA or FAILB of CFG_BOOTk (R469, R470). -/
def State.setFail (s : State) (k : Nat) (slot : Bool) (code : Nat) : State :=
  s.modBootKind k (fun b =>
    if slot then { b with failB := BitVec.ofNat 3 code } else { b with failA := BitVec.ofNat 3 code })

/-- The boot ROM reads both copies: what the G-code finds is counted (R316, R454). -/
def State.readRecord (s : State) : State :=
  ((s.readCheck (bootRecBase false) 20 0x106 false).1.readCheck (bootRecBase true) 20 0x106 false).1

/-- A copy with a bad CRC is repaired from the other; two bad copies leave a blank record (R460). -/
def State.repairRecord (s : State) : State :=
  let a := s.recordHolds false
  let b := s.recordHolds true
  let s := s.readRecord
  if a && b then s
  else if a then (s.putRecord true s.boot.copyA).bbxReq 0x0A [0, 1, 0, 3]
  else if b then (s.putRecord false s.boot.copyB).bbxReq 0x0A [0, 0, 0, 3]
  else ((s.putRecord false {}).putRecord true {}).bbxReq 0x0A [0, 0, 0, 4]

/-- R462 at the start of a boot, for one slot. -/
def State.rejectSlot (s : State) (k : Nat) (slot : Bool) : State :=
  let r := s.slotRec k slot
  if r.state = slotTrial && r.attempts != 0 && (s.boot.rstKind != .powerOn || decide (4 ≤ r.attempts.toNat)) then
    let s := s.setSlotRec k slot { r with state := slotRejected }
    ((s.modBootKind k (fun b => { b with rejected := true })).setFail k slot 7).slotEntry k slot 7 1
  else s

/-- The slot is valid: its validity word reads 0x5A3C (R459). -/
def State.slotValid (s : State) (k : Nat) (slot : Bool) : Bool := s.rd (validAt k slot) == 0x5A3C

/-- The candidates of a kind: valid slots that are TRIAL or CONFIRMED, or every valid slot of a blank
record; the higher GEN first, slot A on equal GEN (R461). -/
def State.candidates (s : State) (k : Nat) : List Bool :=
  let a := s.slotRec k false
  let b := s.slotRec k true
  let blank := a.state == 0 && b.state == 0
  let ok : Bool → SlotRec → Bool := fun slot r =>
    s.slotValid k slot && (blank || r.state == slotTrial || r.state == slotConfirmed)
  let la := if ok false a then [false] else []
  let lb := if ok true b then [true] else []
  if blank || decide (b.gen.toNat ≤ a.gen.toNat) then la ++ lb else lb ++ la

/-- The FAIL code of a slot that is no candidate (R470): NOVALID, or REJECTED. -/
def State.passFail (s : State) (k : Nat) (slot : Bool) : State :=
  if (s.slotRec k slot).state = slotRejected then s.setFail k slot 7
  else if s.slotValid k slot then s else s.setFail k slot 1

/-- The choice of a kind begins: its candidates in order (R461). -/
def State.bootChoose (s : State) (k : Nat) : State :=
  let c := s.candidates k
  ((s.passFail k false).passFail k true).modBootKind k (fun b => { b with cand := c, first := c.headD false })

/-- The slot is the one that boot tries next (R461). -/
def State.bootTries (s : State) (k : Nat) (slot : Bool) : Bool := (s.bootKind k).cand.head? == some slot

/-- A try of a slot begins: ATTEMPTS of a slot on TRIAL is raised before it (R461). -/
def State.bootTry (s : State) (k : Nat) (slot : Bool) : State :=
  let r := s.slotRec k slot
  if s.bootTries k slot && r.state == slotTrial then s.setSlotRec k slot { r with attempts := satInc r.attempts } else s

/-- A try of a slot has failed: a slot on TRIAL becomes REJECTED, a CONFIRMED one is passed over (R461). -/
def State.bootFailed (s : State) (k : Nat) (slot : Bool) (code : Nat) : State :=
  if !s.bootTries k slot then s
  else
    let r := s.slotRec k slot
    let s := (s.setFail k slot code).modBootKind k (fun b => { b with cand := b.cand.drop 1 })
    if r.state = slotTrial then (s.setSlotRec k slot { r with state := slotRejected }).slotEntry k slot code 1
    else s.slotEntry k slot code 2

/-- The slot stands behind the first candidate, or a slot of the kind was rejected under R462 (R463). -/
def State.fellBack (s : State) (k : Nat) (slot : Bool) : Bool :=
  (s.bootKind k).rejected || slot != (s.bootKind k).first

/-- The slot is in use: CFG_BOOTk, and FALLBACK where boot chose it (R463, R469). -/
def State.bootUse (s : State) (k : Nat) (slot : Bool) : State :=
  let fell := s.bootTries k slot && s.fellBack k slot
  let s := s.modBootKind k (fun b => { b with slot := slot, trial := (s.slotRec k slot).state == slotTrial })
  { s with boot := { s.boot with fallback := s.boot.fallback || fell } }

/-- A slot on TRIAL becomes CONFIRMED, ATTEMPTS 0 (R462). -/
def State.confirmSlot (s : State) (k : Nat) (slot : Bool) : State :=
  let r := s.slotRec k slot
  if r.state = slotTrial then
    let s := s.setSlotRec k slot { r with state := slotConfirmed, attempts := 0 }
    if (s.bootKind k).slot == slot then s.modBootKind k (fun b => { b with trial := false }) else s
  else s

end Sys2Proof.Machine
end

