-- ==== Sys2Proof/Machine/Pack.lean ====
section
/-!
DEFINITION. The words of OTP that keys and epochs stand in (R471 to R474), and the policy-pack expansion
engine (R133 to R137).
-/

namespace Sys2Proof.Machine

/-! ### OTP (R473, R474) -/

/-- A word of OTP by its offset. -/
def State.otp (s : State) (w : Nat) : Word := s.rd (otpBase + w)

/-- Authority root i where it is valid: PRESENT is nonzero and REVOKED is zero (R473, R474). -/
def State.authRoot (s : State) (i : Nat) : Option PubKey :=
  let b := 0x10 + 0x40 * i
  if s.otp (b + 32) != 0 && s.otp (b + 33) == 0 && decide (i < 4) then
    let ws := s.rds (otpBase + b) 32
    some (wordsW256 ws, wordsW256 (ws.drop 16))
  else none

/-- Bits set in a run of OTP words. -/
def State.otpCount (s : State) (w n : Nat) : Nat :=
  (s.rds (otpBase + w) n).foldl (fun a v => a + ((List.range 16).filter (fun i => v.getLsbD i)).length) 0

/-- The seal epoch (R473). -/
def State.sealEpoch (s : State) : Nat := s.otpCount 0x800 0x800
/-- The firmware counter (R455, R473). -/
def State.fwCounter (s : State) : Nat := s.otpCount 0x1000 0x800

/-! ### The pack in flash (R133, R134) -/

/-- First word of a pack slot (R133). -/
def packBase (slot : Bool) : Nat := if slot then 0x00F004000000 else 0x00F001000000
/-- Words of a pack slot (R133). -/
abbrev packWords : Nat := 0x3000000

/-- Causes of a failed expansion (R135). -/
inductive PackFail where
  | noValid | format | root | epoch | sig | bounds | region | ecc
deriving DecidableEq, Repr

/-- The FAIL code of a cause (R135). -/
def PackFail.code : PackFail → BitVec 4
  | .noValid => 1 | .format => 2 | .root => 3 | .epoch => 4 | .sig => 5 | .bounds => 6 | .region => 7 | .ecc => 8

/-- LAT_PBASE (R141). -/
def State.pBase (s : State) : Nat := s.regN 0 0x07 5 3
/-- LAT_PLEN (R141). -/
def State.pLen (s : State) : Nat := s.regN 0 0x07 8 2

/-- A 32-bit field of a list of words, low word first. -/
def w32 (ws : List Word) (i : Nat) : BitVec 32 := wordAt ws (i + 1) ++ wordAt ws i

/-- Words of flash read by the expansion engine: an uncorrectable error is FAIL 8 (R135, R316). -/
def State.flashRead (s : State) (a n : Nat) : State × Option (List Word) :=
  let x := s.readCheck a n 0x103 false
  (x.1, if x.2.isSome then none else some (s.rds a n))

/-- A signature of a key that may be absent. -/
def verifyOpt (q : Option PubKey) (h : W256) (sig : List Word) : Bool :=
  match q with | none => false | some k => verifyBlock k h sig

/-- The authority root that AUTH_ROOT names, where it is valid (R134). -/
def State.packRoot (s : State) (h : List Word) : Option PubKey :=
  if decide (4 ≤ (wordAt h 12).toNat) then none else s.authRoot (wordAt h 12).toNat

/-- What step 2 finds: the validity word, the header, AUTH_ROOT and EPOCH (R135; assumption 9). -/
def State.packCheck (s : State) (slot : Bool) (h : List Word) : Option PackFail :=
  let len := (w32 h 19).toNat
  if s.rd (packBase slot + packWords - 1) != 0x5A3C then some .noValid
  else if wordAt h 0 != 0x5050 || wordAt h 1 != 1 || (h.drop 25).any (fun w => w != 0) ||
      decide (packWords - 1 < len + 32) || decide (len < 32) then some .format
  else
    match s.packRoot h with
    | none => some .root
    | some _ => if (w32 h 13).toNat < s.sealEpoch then some .epoch else none

/-- What step 3 finds, and the length against LAT_PLEN before anything is cleared (R135). -/
def State.packVerify (s : State) (slot : Bool) (h : List Word) : Option PackFail :=
  let len := (w32 h 19).toNat
  let exp := (w32 h 15).toNat
  if !verifyOpt (s.packRoot h) (sha (s.rds (packBase slot) len)) (s.rds (packBase slot + len) 32) then some .sig
  else if s.pLen < exp || decide (exp < 256) then some .bounds
  else none

/-- Applying chunks in order from flash word a, which lies before e: each writes within words 256 to EXP_LEN −
1 of the region, or the expansion fails (R134, R135). A chunk that runs past PACK_LEN fails as FORMAT
(assumption 9). -/
def State.chunks (s : State) (base exp : Nat) : Nat → Nat → Nat → State × Option PackFail
  | 0, _, _ => (s, none)
  | n + 1, a, e =>
    let kind := s.rd a
    let dest := (s.rd32 (a + 1)).toNat
    let len := (s.rd32 (a + 3)).toNat
    let body := if kind = 1 then len else 1
    if (kind != 1 && kind != 2) || decide (e < a + 5 + body) then (s, some .format)
    else if decide (0 < len) && (decide (dest < 256) || decide (exp < dest + len)) then (s, some .bounds)
    else
      let ws := if kind = 1 then s.rds (a + 5) len else List.replicate len (s.rd (a + 5))
      (s.store (base + dest) ws).chunks base exp n (a + 5 + body) e

/-- The directory without its word 0 (R136). -/
def dirWords (h : List Word) (digest : W256) : List Word :=
  [1] ++ (h.drop 2).take 10 ++ (h.drop 21).take 4 ++ w256Words digest ++ List.replicate 224 0

/-- The chunks of a pack that passed its checks, into the region cleared for it (R135, R141). -/
def State.expandChunks (s : State) (slot : Bool) (h : List Word) (len : Nat) : State × Option PackFail :=
  (s.store s.pBase (List.replicate (w32 h 15).toNat 0)).chunks s.pBase (w32 h 15).toNat (w32 h 17).toNat
    (packBase slot + 32) (packBase slot + len)

/-- The last writes of an expansion: the directory's hash words, then its word 0; the version and ID are held (R135,
R141). -/
def State.expandEnd (s : State) (h ws : List Word) (len : Nat) : State :=
  let s := (s.store (s.pBase + 1) (dirWords h (sha (ws.take len)))).store s.pBase [0x5044]
  { s with lat := { s.lat with pack := { s.lat.pack with ver := w32 h 4, id := w32 h 2 } } }

/-- Steps 4 to 6 of an expansion whose pack was verified (R135). -/
def State.expandBody (s : State) (slot : Bool) (h ws : List Word) : State × Option PackFail :=
  match s.expandChunks slot h (w32 h 19).toNat with
  | (s, some f) => (s, some f)
  | (s, none) => (s.expandEnd h ws (w32 h 19).toNat, none)

/-- The expansion of a slot whose header was read: the checks of step 2, and then the words of the pack as step 3 reads
and verifies them (R135). -/
def State.expandSlot (s : State) (slot : Bool) (h : List Word) : State × Option PackFail :=
  match s.packCheck slot h with
  | some f => (s, some f)
  | none =>
    match s.flashRead (packBase slot) ((w32 h 19).toNat + 32) with
    | (s, none) => (s, some .ecc)
    | (s, some ws) =>
      match s.packVerify slot h with
      | some f => (s, some f)
      | none => s.expandBody slot h ws

/-- The header of a slot and the validity word at its end, as an expansion reads them: the last first (R135). -/
def State.expandHead (s : State) (slot : Bool) : State × Option (List Word) :=
  let v := s.flashRead (packBase slot + packWords - 1) 1
  let x := v.1.flashRead (packBase slot) 32
  (x.1, v.2.bind (fun _ => x.2))

/-- An expansion goes on with a header that could be read. -/
def expandWith (slot : Bool) (x : State × Option (List Word)) : State × Option PackFail :=
  match x with
  | (s, some h) => s.expandSlot slot h
  | (s, none) => (s, some .ecc)

/-- The steps of an expansion after the first: READY, or the cause at which it stops (R135). -/
def State.expand (s : State) (slot : Bool) : State × Option PackFail :=
  if s.pLen = 0 then (s, some .region) else expandWith slot (s.expandHead slot)

/-- LAT_PCTRL.GO: an expansion of the slot starts, unless one runs; directory word 0 is written 0 first
(R135, R141); with no pack READY, the fix has no plane (R173). -/
def State.packGo (s : State) (slot : Bool) : State :=
  if s.lat.pack.state = .running then s
  else
    let s := (if (hbmStackOf s.pBase).isNone then s else s.store s.pBase [0]).bootTry 2 slot
    { s with
      lat := { s.lat with pack := { s.lat.pack with state := .running, fail := 0, slot := slot, startedAt := s.now } }
      pos := { s.pos with plane := false, east := 0x80000000, north := 0x80000000 } }

/-- The FAIL code of a pack slot whose expansion failed (R470). -/
def PackFail.boot : PackFail → Nat
  | .noValid => 1 | .ecc => 5 | .format => 6 | .root => 6 | .epoch => 6 | .sig => 6 | .bounds => 6 | .region => 6

/-- An expansion ends, READY with a CONFIG record, or FAILED with PACK_FAIL (R135, R187); READY confirms a slot
on TRIAL (R462), and at boot the outcome settles the slot that is tried (R461). -/
def State.packEnd (s : State) : State :=
  if s.lat.pack.state ≠ .running then s
  else
    let slot := s.lat.pack.slot
    let x := s.expand slot
    let s := x.1
    match x.2 with
    | none =>
      let s := { s with lat := { s.lat with pack := { s.lat.pack with state := .ready } } }
      (((s.bootUse 2 slot).modBootKind 2 (fun b => { b with cand := [] })).confirmSlot 2 slot).configRecord 3 slot
    | some f =>
      let s := { s with lat := { s.lat with pack := { s.lat.pack with state := .failed, fail := f.code } } }
      (s.bootFailed 2 slot f.boot).raise 0 0x07 2

/-- EXPANSION_COMPLETE (R135, R136). -/
def execExpansionComplete (t : Nat) (s : State) : Host.Outcome State Fault Refusal := .next (s.to t).packEnd

end Sys2Proof.Machine
end

