-- ==== Sys2Proof/Machine/Pos.lean ====
section
/-!
DEFINITION. The Position Attestor: fixes, attested speed, charges and operator activity (R171 to R177).
-/

namespace Sys2Proof.Machine

/-- The motion sensor's pairing, or its agreement with the serial channel, succeeds or fails (R171). -/
def State.msPairing (s : State) (ok : Bool) : State :=
  if !s.flagL 0 0x0A 0 2 then s
  else if ok then { s with pos := { s.pos with msPair := true } }
  else ({ s with pos := { s.pos with msPair := false } }).raise 0 0x0A 2

/-- The motion sensor at a commit: with MS 0 it is not used and MSPAIR stays 0 (R171). -/
def State.msCommit (s : State) : State :=
  { s with pos := { s.pos with msPair := s.pos.msPair && s.flagL 0 0x0A 0 2 } }

/-- POS_STATUS without its sticky bit (R195). -/
def State.posStatus (s : State) : Word :=
  BitVec.ofNat 16 (b2n s.pos.msPair + 2 * b2n s.pos.spAgree + 4 * b2n s.pos.spoof + 8 * b2n s.pos.drDead +
    16 * b2n s.pos.auth + 32 * b2n s.pos.spValid + 64 * b2n s.pos.plane)

/-! ### The fix (R173, R174) -/

/-- The distance of the last 1,000 steps in mm (R174). -/
def State.dist1000 (s : State) : Nat := s.integ.dist.foldl (· + ·) 0

/-- The attested speed of a fix: floor(0.8 × distance); a value above 16 bits is free (R174). -/
def State.fixSpeed (s : State) : State :=
  let v := s.dist1000 * 4 / 5
  if v < 65536 then { s with pos := { s.pos with speed := BitVec.ofNat 16 v } }
  else
    let x := s.draw
    { x.2 with pos := { x.2.pos with speed := Config.freeWord x.1 } }

/-- The position of a fix: dead-reckoned, or the authenticated solution that lies within HPL of it (R173). -/
def State.fixPlace (s : State) (f : FixInput) : State :=
  let near := match f.sol with | some g => g.auth && decide (g.dist ≤ f.hpl.toNat) | none => false
  let plane := s.lat.pack.state == .ready
  let g := f.sol.getD ⟨false, 0, 0, 0, 0, 0, 0⟩
  { s with pos := { s.pos with
    plane := plane
    east := if !plane then 0x80000000 else if near then g.east else f.east
    north := if !plane then 0x80000000 else if near then g.north else f.north
    lat := if near then g.lat else f.lat
    lon := if near then g.lon else f.lon
    hdg := f.hdg, hpl := f.hpl
    auth := match f.sol with | some g => g.auth | none => s.pos.auth } }

/-- SPOOF: an authenticated solution farther than 2 × HPL at 10 fixes in a row (R173). -/
def State.fixSpoof (s : State) (f : FixInput) : State :=
  let far := match f.sol with | some g => g.auth && decide (2 * f.hpl.toNat < g.dist) | none => false
  let run := if far then s.pos.spoofRun + 1 else 0
  let s' := { s with pos := { s.pos with spoofRun := run, spoof := s.pos.spoof || decide (10 ≤ run) } }
  if decide (10 ≤ run) && !s.pos.spoof then s'.raise 0 0x0A 5 else s'

/-- SPAGREE against the authenticated Doppler speed: cleared, or set again, after 5 fixes in a row (R174). -/
def State.fixAgree (s : State) (f : FixInput) : State :=
  match f.sol with
  | none => { s with pos := { s.pos with disagreeRun := 0, agreeRun := 0 } }
  | some g =>
    if !g.auth then { s with pos := { s.pos with disagreeRun := 0, agreeRun := 0 } }
    else
      let v := s.pos.speed.toNat
      let d := g.doppler.toNat
      let off := decide (max 50 (v / 16) < (if d ≤ v then v - d else d - v))
      if off then
        let run := s.pos.disagreeRun + 1
        let fall := decide (5 ≤ run) && s.pos.spAgree
        let s' := { s with pos := { s.pos with
          disagreeRun := run, agreeRun := 0, spAgree := s.pos.spAgree && decide (run < 5) } }
        if fall then s'.raise 0 0x0A 1 else s'
      else
        let run := s.pos.agreeRun + 1
        { s with pos := { s.pos with
          agreeRun := run, disagreeRun := 0, spAgree := s.pos.spAgree || decide (5 ≤ run) } }

/-- SPVALID: paired, not spoofed, in agreement (R174). -/
def State.fixValid (s : State) : State :=
  { s with pos := { s.pos with spValid := s.pos.msPair && !s.pos.spoof && s.pos.spAgree } }

/-- The POSITION record of the last fix (R179). -/
def State.positionRecord (s : State) : State :=
  s.ledgerPut 0x01 0 (lowHigh s.pos.east ++ lowHigh s.pos.north ++ lowHigh s.pos.lat ++ lowHigh s.pos.lon ++
    [s.pos.hdg, s.pos.speed] ++ lowHigh s.pos.hpl ++ wordsLow 3 s.pos.odo.toNat ++ [s.posStatus ||| (s.reg 0 0x0A 1 &&& 0x8000)] ++
    lowHigh s.lat.pack.ver)

/-! ### Tariffs (R137, R175) -/

/-- A point of the pack's plane, in cm. -/
structure Pt where
  x : Int
  y : Int
deriving DecidableEq, Repr

/-- A table of the expanded pack: record length, first word and number of records, and COLS (R137). -/
structure PackTable where
  recLen : Nat
  base : Nat
  count : Nat
  cols : Nat
deriving DecidableEq, Repr

/-- The table of a type, where the pack has one (R137). -/
def State.packTable (s : State) (type : Nat) : Option PackTable :=
  let b := s.pBase
  ((List.range (min (s.rd (b + 256)).toNat 32)).map (fun i => b + 264 + 8 * i)).findSome? (fun a =>
    if (s.rd a).toNat = type then
      some ⟨(s.rd (a + 1)).toNat, b + (s.rd32 (a + 2)).toNat, (s.rd32 (a + 4)).toNat, (s.rd (a + 6)).toNat⟩
    else none)

/-- First word of record i of a table of a type. -/
def State.packRec (s : State) (type i : Nat) : Option Nat :=
  match s.packTable type with
  | none => none
  | some t => if i < t.count then some (t.base + t.recLen * i) else none

/-- A point at a word: east then north, signed 32-bit (R137). -/
def State.rdPt (s : State) (a : Nat) : Pt := ⟨(s.rd32 a).toInt, (s.rd32 (a + 2)).toInt⟩

/-- The cross product (b − a) × (p − a). -/
def cross (a b p : Pt) : Int := (b.x - a.x) * (p.y - a.y) - (b.y - a.y) * (p.x - a.x)

/-- The point lies on segment ab. -/
def onSegment (a b p : Pt) : Bool :=
  cross a b p == 0 && decide (min a.x b.x ≤ p.x) && decide (p.x ≤ max a.x b.x) &&
    decide (min a.y b.y ≤ p.y) && decide (p.y ≤ max a.y b.y)

/-- The ray from p toward +x crosses edge ab. -/
def rayCrosses (a b p : Pt) : Bool :=
  if decide (p.y < a.y) == decide (p.y < b.y) then false
  else if a.y < b.y then decide (0 < cross a b p) else decide (cross a b p < 0)

/-- Containment by the even-odd rule, a point on the boundary inside (R175). -/
def inPolygon (vs : List Pt) (p : Pt) : Bool :=
  match vs with
  | [] => false
  | v :: rest =>
    let edges := vs.zip (rest ++ [v])
    edges.any (fun e => onSegment e.1 e.2 p) || (edges.filter (fun e => rayCrosses e.1 e.2 p)).length % 2 == 1

/-- The distance from p to segment ab, with rounded ends, is at most w (R175). -/
def withinSegment (a b p : Pt) (w : Int) : Bool :=
  let d2 := fun (u v : Pt) => (u.x - v.x) * (u.x - v.x) + (u.y - v.y) * (u.y - v.y)
  let l2 := d2 a b
  let t := (b.x - a.x) * (p.x - a.x) + (b.y - a.y) * (p.y - a.y)
  if t ≤ 0 ∨ l2 = 0 then decide (d2 a p ≤ w * w)
  else if l2 ≤ t then decide (d2 b p ≤ w * w)
  else decide (cross a b p * cross a b p ≤ w * w * l2)

/-- The REF words of the cell that holds a position (R137, R175). -/
def State.cellRefs (s : State) (p : Pt) : List (BitVec 32) :=
  match s.packTable 1 with
  | none => []
  | some t =>
    let cx := p.x / 25600
    let cy := p.y / 25600
    if cx < 0 ∨ cy < 0 ∨ (t.cols : Int) ≤ cx then []
    else
      match s.packRec 1 (cy.toNat * t.cols + cx.toNat) with
      | none => []
      | some a =>
        (List.range (s.rd (a + 2)).toNat).filterMap (fun i =>
          (s.packRec 2 ((s.rd32 a).toNat + i)).map (fun r => s.rd32 r))

/-- A ZONE of kind CHARGE that contains the position (R175). -/
def State.zoneHit (s : State) (i : Nat) (p : Pt) : Bool :=
  match s.packRec 4 i with
  | none => false
  | some a =>
    s.rd (a + 3) == 3 &&
      inPolygon ((List.range (s.rd (a + 2)).toNat).filterMap (fun k =>
        (s.packRec 5 ((s.rd32 a).toNat + k)).map (fun v => s.rdPt v))) p

/-- A SEGMENT whose half-width contains the position (R175). -/
def State.segmentHit (s : State) (i : Nat) (p : Pt) : Bool :=
  match s.packRec 3 i with
  | none => false
  | some a => withinSegment (s.rdPt a) (s.rdPt (a + 4)) p (s.rd (a + 8)).toNat

/-- The lowest index of the list that holds, as found by a test. -/
def lowestHit (f : Nat → Bool) (is : List Nat) : Option Nat :=
  is.foldl (fun (a : Option Nat) i =>
    if f i then (match a with | none => some i | some b => some (min b i)) else a) none

/-- Record indices of one kind among REF words: 1 SEGMENT, 2 ZONE (R137). -/
def refsOf (kind : Nat) (rs : List (BitVec 32)) : List Nat :=
  (rs.filter (fun r => r.toNat / 2 ^ 30 == kind)).map (fun r => r.toNat % 2 ^ 30)

/-- The tariff index and the REF of a position before class and band are asked (R175). -/
def State.tariffAt (s : State) (p : Pt) : Word × BitVec 32 :=
  let rs := s.cellRefs p
  match lowestHit (fun i => s.zoneHit i p) (refsOf 2 rs) with
  | some i => (match s.packRec 4 i with | some a => s.rd (a + 5) | none => 0xFFFF, BitVec.ofNat 32 (2 * 2 ^ 30 + i))
  | none =>
    match lowestHit (fun i => s.segmentHit i p) (refsOf 1 rs) with
    | some i => (match s.packRec 3 i with | some a => s.rd (a + 11) | none => 0xFFFF, BitVec.ofNat 32 (2 ^ 30 + i))
    | none => (0xFFFF, 0)

/-- UTC minute of day (R175). -/
def State.utcMinute (s : State) : Nat := (s.timeSec.toNat - s.time.leap.toNat) / 60 % 1440

/-- A tariff applies to the vehicle class and minute (R175). -/
def State.tariffOk (s : State) (i : Nat) : Bool :=
  match s.packRec 8 i with
  | none => false
  | some a =>
    let m := s.utcMinute
    let lo := (s.rd (a + 2)).toNat
    let hi := (s.rd (a + 3)).toNat
    (s.rd a).getLsbD (s.fldL 0 0x0A 4 3 0) &&
      (if lo ≤ hi then decide (lo ≤ m) && decide (m < hi) else decide (lo ≤ m) || decide (m < hi))

/-- The tariff of the last fix and its REF: NONE is 0xFFFF (R175). -/
def State.tariff (s : State) : Word × BitVec 32 :=
  if !s.pos.plane then (0xFFFF, 0)
  else
    let x := s.tariffAt ⟨s.pos.east.toInt, s.pos.north.toInt⟩
    if x.1 != 0xFFFF && s.tariffOk x.1.toNat then x else (0xFFFF, 0)

/-! ### Charges (R176) -/

/-- The Trifle opens the accumulator as it starts (R176). -/
def State.openCharge (s : State) : State :=
  { s with pos := { s.pos with charge := { s.pos.charge with start := s.timeSec, closedAt := s.now } } }

/-- The accumulator is closed into a CHARGE record, and its distance, amount and carry cleared (R176, R179). -/
def State.closeCharge (s : State) : State :=
  let c := s.pos.charge
  let s := s.ledgerPut 0x03 0 ([c.tariff, c.ref.extractLsb' 0 16, c.ref.extractLsb' 16 16] ++ wordsLow 2 c.distance ++
    wordsLow 3 c.amount ++ [c.currency, BitVec.ofNat 16 (s.fldL 0 0x0A 4 3 0)] ++ wordsLow 3 c.start.toNat)
  { s with pos := { s.pos with
    charge := { c with distance := 0, amount := 0, carry := 0, start := s.timeSec, closedAt := s.now } } }

/-- Adding the distance of a fix to the accumulator of the current tariff (R176). -/
def State.addCharge (s : State) (d : Nat) : State :=
  let c := s.pos.charge
  let rate := if c.tariff = 0xFFFF then 0
    else match s.packRec 8 c.tariff.toNat with | some a => (s.rd32 (a + 4)).toNat | none => 0
  let v := d * rate + c.carry
  { s with pos := { s.pos with charge := { c with
    distance := c.distance + d, amount := c.amount + v / 1000000, carry := v % 1000000 } } }

/-- The charge of a fix (R175, R176). -/
def State.fixCharge (s : State) : State :=
  let d := (s.pos.odo - s.pos.odoPrev).toNat
  let x := s.tariff
  let s := { s with pos := { s.pos with odoPrev := s.pos.odo } }
  let s :=
    if x.1 = s.pos.charge.tariff then s
    else
      let s := s.closeCharge
      let cur := match s.packRec 8 x.1.toNat with | some a => s.rd (a + 1) | none => 0
      { s with pos := { s.pos with charge := { s.pos.charge with
        tariff := x.1, ref := x.2, currency := if x.1 = 0xFFFF then 0 else cur } } }
  let s : State := s.addCharge d
  if decide (s.pos.charge.closedAt + 60 * secCk1 ≤ s.now) && decide (0 < s.pos.charge.distance) then s.closeCharge
  else s

/-! ### Operator activity (R177) -/

/-- The attested speed is nonzero or not valid (R177). -/
def State.moving (s : State) : Bool := s.pos.speed != 0 || !s.pos.spValid

/-- An ACTIVITY record: slot, event, activity and the card's number, zero for events 5 and 6 (R177, R179). -/
def State.activityRecord (s : State) (slot event : Nat) (a : ActivitySt) : State :=
  s.ledgerPut 0x05 0 ([BitVec.ofNat 16 slot, BitVec.ofNat 16 event, a.activity.setWidth 16] ++
    (if 5 ≤ event then List.replicate 8 0 else fitW 8 a.number))

/-- Unsupervised motion begins or ends as the vehicle moves and slot 0 holds a card (R177). -/
def State.unsupervised (s : State) : State :=
  let on := s.moving && !s.pos.slot0.card
  if on == s.pos.unsup then s
  else ({ s with pos := { s.pos with unsup := on } }).activityRecord 0 (if on then 5 else 6) {}

/-- What motion makes of the declared activities: slot 0 with a card is SUPERVISING, slot 1 is not; what a
slot 1 that was SUPERVISING becomes is free (R177). -/
def State.fixActivity (s : State) : State :=
  let s :=
    if s.moving && s.pos.slot0.card && s.pos.slot0.activity != 4 then
      let a := { s.pos.slot0 with activity := 4 }
      ({ s with pos := { s.pos with slot0 := a } }).activityRecord 0 3 a
    else s
  let s :=
    if s.moving && s.pos.slot1.activity == 4 then
      let x := s.draw
      let a := { s.pos.slot1 with activity := BitVec.ofNat 3 ((Config.freeWord x.1).toNat % 4) }
      ({ x.2 with pos := { x.2.pos with slot1 := a } }).activityRecord 1 3 a
    else s
  s.unsupervised

/-- What the Attestor takes of the GNSS receiver: nothing where POS_CTRL.GNSS is 0 (R195). -/
def State.gnssIn (s : State) (f : FixInput) : FixInput :=
  if s.flagL 0 0x0A 0 0 then f else { f with sol := none, pageFail := false }

/-- A position fix: position, spoofing, speed, agreement and validity, the POSITION record, the charge and
the activity (R173 to R177). -/
def State.positionFix (s : State) (f : FixInput) : State :=
  let f := s.gnssIn f
  let s := if f.pageFail then s.raise 0 0x0A 4 else s
  ((((((((s.fixPlace f).fixSpoof f).fixSpeed).fixAgree f).fixValid).positionRecord).fixCharge).fixActivity)

/-! ### The commands -/

/-- MS_PAIRING (R171). -/
def execMsPairing (t : Nat) (ok : Bool) (s : State) : Host.Outcome State Fault Refusal :=
  .next ((s.to t).msPairing ok)

/-- POSITION_FIX (R173 to R177). -/
def execPositionFix (t : Nat) (fix : FixInput) (s : State) : Host.Outcome State Fault Refusal :=
  .next ((s.to t).positionFix fix)

end Sys2Proof.Machine
end

