-- ==== Sys2Proof/Machine/Lines.lean ====
section
/-!
DEFINITION. The motion sensor, card slots, SPI, UART and PPS (R531 to R537, R542).
-/

namespace Sys2Proof.Machine

/-! ### Motion sensor (R531) -/

/-- Changing the motion sensor interface. -/
def State.modMsi (s : State) (f : MsiSt → MsiSt) : State := { s with port := { s.port with msi := f s.port.msi } }

/-- A valid rising edge of MS_SPEED; one less than 250 µs after the last is above 4 kHz (R531). -/
def State.msPulse (s : State) : State :=
  if !s.pdOn 0 then s
  else
    let fast := match s.port.msi.edgeAt with
      | none => false
      | some e => decide (s.now < e + 250 * usCk1)
    let s := s.modMsi (fun m =>
      { m with
        pulses := m.pulses + 1, edgeAt := some s.now
        rateErr := if fast then satInc m.rateErr else m.rateErr })
    if fast then s.raise 5 0x43 1 else s

/-- A byte arrives on MS_DATA (R531). -/
def State.msByte (s : State) (b : Byte) : State :=
  if s.pdOn 0 then s.modMsi (fun m => { m with drx := m.drx ++ [b] }) else s

/-- A byte sent on MS_DATA (R531). -/
def State.msSend (s : State) (b : Byte) : State := s.modMsi (fun m => { m with dtx := some b })

/-- The oldest received byte is removed (R542). -/
def State.msDrop (s : State) : State := s.modMsi (fun m => { m with drx := m.drx.drop 1 })

/-! ### Cards (R532, R177) -/

/-- CARD_CTRL.ACT: a present card is activated. -/
def State.cardOn (s : State) (n : Nat) : State := s.modCard n (fun c => if c.present then { c with active := true } else c)

/-- CARD_CTRL.DEACT: deactivated. -/
def State.cardOff (s : State) (n : Nat) : State := s.modCard n (fun c => { c with active := false })

/-- A character sent to an activated card. -/
def State.cardSend (s : State) (n : Nat) (b : Byte) : State :=
  s.modCard n (fun c => if c.active then { c with tx := b :: c.tx } else c)

/-- The oldest received character is removed. -/
def State.cardDrop (s : State) (n : Nat) : State := s.modCard n (fun c => { c with rx := c.rx.drop 1 })

/-- A character received from an activated card. -/
def State.cardChar (s : State) (n : Nat) (b : Byte) (perr : Bool) : State :=
  if s.pdOn n then s.modCard n (fun c => if c.active then { c with rx := c.rx ++ [(b, perr)] } else c) else s

/-- DET shows a card. -/
def State.cardIn (s : State) (n : Nat) : State := if s.pdOn n then s.modCard n (fun c => { c with present := true }) else s

/-- The Attestor's slot loses its card: an ACTIVITY record of an authenticated one, and what motion makes of
it (R177). -/
def State.slotGone (s : State) (n : Nat) : State :=
  let a := if n = 0 then s.pos.slot0 else s.pos.slot1
  if !a.card then s
  else
    let s := s.activityRecord n 2 { a with activity := 0 }
    let s := if n = 0 then { s with pos := { s.pos with slot0 := {} } } else { s with pos := { s.pos with slot1 := {} } }
    s.unsupervised

/-- DET shows removal: deactivated, counted (R532, R538). -/
def State.cardGone (s : State) (n : Nat) : State :=
  if !s.pdOn n || !(s.cardOf n).present then s
  else
    (s.modCard n (fun c =>
      { c with present := false, active := false, rx := [], removals := satInc c.removals })).slotGone n

/-! ### SPI (R533, R542) -/

/-- Words of an SPI FIFO. -/
abbrev spiDepth : Nat := 64

/-- SPI units by port die and number: 0 P0's, 1 and 2 P1's (R517). -/
def spiNo (p u : Nat) : Nat := p + u

/-- A word written to SPIU_TXu: sent in turn; one that finds the FIFO full is lost. -/
def State.spiPut (s : State) (n : Nat) (w : Word) : State :=
  s.modSpi n (fun x => if x.tx.length < spiDepth then { x with tx := x.tx ++ [w], busy := true } else x)

/-- The oldest received word is removed. -/
def State.spiDrop (s : State) (n : Nat) : State := s.modSpi n (fun x => { x with rx := x.rx.drop 1 })

/-- The yaw increment among the 12 bytes of an automatic transfer: the axis and sign of POS_IMUAX (R172, R195,
R533). -/
def State.imuYaw (s : State) (ws : List Word) : Int :=
  let a := s.fldL 0 0x0A 3 1 0
  let v := (wordAt ws (2 * a) ++ wordAt ws (2 * a + 1) : BitVec 32).toInt
  if s.flagL 0 0x0A 3 2 then -v else v

/-- A transfer ends: an automatic one gives the step its IMU increments; else the word sent is answered by the
word received (R533). -/
def State.spiDone (s : State) (p u : Nat) (ws : List Word) : State :=
  let n := spiNo p u
  let x := s.spiOf n
  if !s.pdOn p then s
  else if x.autoAt.isSome then
    let s := s.modSpi n (fun x => { x with autoAt := none, busy := !x.tx.isEmpty })
    { s with integ := { s.integ with dpsi := some (s.imuYaw ws) } }
  else if x.tx.isEmpty then s
  else
    let w := if s.flagL (pd p) 0x45 (0x100 + 0x40 * u) 2 then wordAt ws 0 else wordAt ws 0 &&& 0xFF
    s.modSpi n (fun x =>
      { x with
        tx := x.tx.drop 1, busy := decide (2 ≤ x.tx.length)
        rx := if x.rx.length < spiDepth then x.rx ++ [w] else x.rx })

/-- SPIM1's automatic transfer starts at the instant of a 125 µs step (R533). -/
def State.spiAuto (s : State) : State :=
  if s.pdOn 1 && s.committed && s.flagL 6 0x45 0x180 0 && (s.spiOf 1).autoAt.isNone then
    s.modSpi 1 (fun x => { x with autoAt := some s.now, busy := true })
  else s

/-- The transfer has not ended 20,000 CK8 after its instant: no sample for that step (R533). -/
def State.spiLate (s : State) : State :=
  match (s.spiOf 1).autoAt with
  | none => s
  | some a =>
    if s.now < a + 20000 * ck8 then s
    else s.modSpi 1 (fun x => { x with autoAt := none, busy := !x.tx.isEmpty, autoLate := satInc x.autoLate })

/-! ### UART (R535) -/

/-- Bytes of a UART FIFO. -/
abbrev uartDepth : Nat := 64

/-- Changing the UART and GPIO part of a port die. -/
def State.modUart (s : State) (p : Nat) (f : UartSt → UartSt) : State := s.modPdie p (fun d => { d with uart := f d.uart })

/-- A byte written to SPIU_UTX; one that finds the FIFO full is lost. -/
def State.uartPut (s : State) (p : Nat) (b : Byte) : State :=
  s.modUart p (fun u => if u.tx.length < uartDepth then { u with tx := u.tx ++ [b] } else u)

/-- The oldest received byte is removed. -/
def State.uartDrop (s : State) (p : Nat) : State := s.modUart p (fun u => { u with rx := u.rx.drop 1 })

/-- A byte received, with its framing or parity error; one that finds the FIFO full is lost. -/
def State.uartIn (s : State) (p : Nat) (b : Byte) (err : Bool) : State :=
  if s.pdOn p then
    s.modUart p (fun u => if u.rx.length < uartDepth then { u with rx := u.rx ++ [(b, err)] } else u)
  else s

/-! ### PPS_OUT (R537) -/

/-- This CK8 edge is the first at or after a whole second of device time. -/
def State.onSecond (s : State) : Bool :=
  let sec : Nat := 1000000000 * 2 ^ 32
  decide (s.time32 / sec ≠ (s.time32 - s.time.step) / sec)

/-- PPS_OUT rises, unless TQ is UNSET (R537). -/
def State.ppsRise (s : State) : State :=
  if s.time.tq = .unset || !s.onSecond then s
  else { s with port := { s.port with ppsOut := true, ppsAt := s.now } }

/-- PPS_OUT falls after 37,500,000 CK8 (R537). -/
def State.ppsFall (s : State) : State :=
  if s.port.ppsOut && decide (s.port.ppsAt + 37500000 * ck8 ≤ s.now) then
    { s with port := { s.port with ppsOut := false } }
  else s

/-! ### The commands -/

/-- MS_SPEED_PULSE (R531). -/
def execMsSpeedPulse (t : Nat) (s : State) : Host.Outcome State Fault Refusal := .next (s.to t).msPulse

/-- MSI_BYTE_RECEIVE (R531). -/
def execMsiByteReceive (t : Nat) (b : Byte) (s : State) : Host.Outcome State Fault Refusal := .next ((s.to t).msByte b)

/-- CARD_CHAR_RECEIVE (R532). -/
def execCardCharReceive (t : Nat) (p1 : Bool) (b : Byte) (perr : Bool) (s : State) :
    Host.Outcome State Fault Refusal := .next ((s.to t).cardChar (portNo p1) b perr)

/-- CARD_REMOVAL (R532). -/
def execCardRemoval (t : Nat) (p1 : Bool) (s : State) : Host.Outcome State Fault Refusal :=
  .next ((s.to t).cardGone (portNo p1))

/-- CARD_INSERTION (R532). -/
def execCardInsertion (t : Nat) (p1 : Bool) (s : State) : Host.Outcome State Fault Refusal :=
  .next ((s.to t).cardIn (portNo p1))

/-- SPI_TRANSFER_DONE (R533). -/
def execSpiTransferDone (t : Nat) (p1 : Bool) (u : BitVec 1) (rx : List Word) (s : State) :
    Host.Outcome State Fault Refusal :=
  .next ((s.to t).spiDone (portNo p1) (if p1 then u.toNat else 0) rx)

/-- SPI_AUTO_TRANSFER (R533). -/
def execSpiAutoTransfer (t : Nat) (s : State) : Host.Outcome State Fault Refusal := .next (s.to t).spiAuto

/-- SPI_AUTO_LATE (R533). -/
def execSpiAutoLate (t : Nat) (s : State) : Host.Outcome State Fault Refusal := .next (s.to t).spiLate

/-- UART_RX_BYTE (R535). -/
def execUartRxByte (t : Nat) (p1 : Bool) (b : Byte) (err : Bool) (s : State) : Host.Outcome State Fault Refusal :=
  .next ((s.to t).uartIn (portNo p1) b err)

/-- PPS_OUT_RISE (R537). -/
def execPpsOutRise (t : Nat) (s : State) : Host.Outcome State Fault Refusal := .next (s.to t).ppsRise

/-- PPS_OUT_FALL (R537). -/
def execPpsOutFall (t : Nat) (s : State) : Host.Outcome State Fault Refusal := .next (s.to t).ppsFall

end Sys2Proof.Machine
end

