-- ==== Sys2Proof/Machine/CfgRegs.lean ====
section
/-!
DEFINITION. The structure-image registers as a list in CSR address order, the section each belongs to
(R71), their values under R567 and the digest of R83, the encodings judged over them (R8, R568), and the
fault sources that are raised (R404 and the source rule of each chapter).
-/

namespace Sys2Proof.Machine

/-! ### The structure-image registers -/

/-- One word of a structure-image register: its CSR key, its RW-L bits and their reset value (R567). -/
structure RwlWord where
  key : Nat
  mask : Word
  reset : Word
deriving DecidableEq, Repr

/-- Die, block and offset of a CSR key (R43). -/
def keyDie (k : Nat) : Nat := k / 0x1000000
/-- Block of a CSR key. -/
def keyBlk (k : Nat) : Nat := k / 0x10000 % 0x100
/-- Offset of a CSR key. -/
def keyOff (k : Nat) : Nat := k % 0x10000

/-- Word i of a field mask. -/
def maskWord (m i : Nat) : Word := BitVec.ofNat 16 (m / 2 ^ (16 * i))

/-- The RW-L words of a run of registers. -/
def rowRwl (die blk : Nat) (r : Row) : List RwlWord :=
  if r.rwl = 0 then []
  else
    (List.range r.cnt).flatMap (fun i =>
      (List.range r.words).filterMap (fun w =>
        let m := maskWord r.rwl w
        if m = 0 then none else some ⟨csrKey die blk (r.lo + r.stride * i + w), m, maskWord r.reset w &&& m⟩))

/-- The RW-L words of a block in ascending offset. -/
def blockRwl (die blk : Nat) : List RwlWord :=
  match blockRows die blk with
  | none => []
  | some rs => (rs.flatMap (rowRwl die blk)).mergeSort (fun a b => decide (a.key ≤ b.key))

/-- Every word of every structure-image register, in CSR address order (R83). -/
def rwlWords : List RwlWord := (List.range 8).flatMap (fun d => (List.range 0x48).flatMap (fun b => blockRwl d b))

/-- The words of ascending keys in a sparse map, the reset value where a key is not listed. -/
def readSorted : List RwlWord → SMap Word → List Word
  | [], _ => []
  | w :: ws, m =>
    let m := m.dropWhile (fun c => decide (c.1 < w.key))
    match m with
    | (j, v) :: _ => (if j = w.key then v &&& w.mask else w.reset) :: readSorted ws m
    | [] => w.reset :: readSorted ws m

/-- The section that lays out a register (R71; assumption 14). -/
def sectionOf (key : Nat) : Nat :=
  let d := keyDie key
  let b := keyBlk key
  if decide (0x10 ≤ b) && decide (b ≤ 0x2F) then (if keyOff key % 0x100 < 0x40 then 3 else 6)
  else if b = 0x01 then 1 else if b = 0x32 then 3 else if b = 0x30 then 4 else if b = 0x05 then 5
  else if b = 0x31 then 6 else if b = 0x03 then 7 else if b = 0x46 then 8 else if b = 0x04 then 9
  else if b = 0x08 then 10 else if b = 0x09 || b = 0x0A || (b = 0x47 && d = 0) then 11
  else if decide (0x40 ≤ b) && decide (b ≤ 0x45) then 12 else if b = 0x06 || b = 0x07 then 13
  else if b = 0x0B then 14 else if b = 0x0C then 15 else 0

/-- SHA-256 of the register values of one section, in CSR address order (R77, R567). -/
def sectionHash (store : SMap Word) (sec : Nat) : W256 :=
  sha (readSorted (rwlWords.filter (fun w => sectionOf w.key == sec)) store)

/-- SHA-256 of all structure-image register values, in CSR address order (R83, R567). -/
def digestOf (store : SMap Word) : W256 := sha (readSorted rwlWords store)

/-- The RW-L bits of a CSR word. -/
def rwlMask (key : Nat) : Word :=
  match regAt (keyDie key) (keyBlk key) (keyOff key) with
  | none => 0
  | some r => maskWord r.rwl (r.word (keyOff key))

/-- The store with every RW-L bit at its reset value. -/
def clearRwl (store : SMap Word) : SMap Word :=
  store.foldl (fun (m : SMap Word) c =>
    let k := rwlMask c.1
    m.set csrReset c.1 ((c.2 &&& ~~~k) ||| (csrReset c.1 &&& k))) store

/-! ### Encodings over the registers as they stand (R8, R568) -/

/-- The value of a field in a store, by its base offset and words. -/
def fieldIn (store : SMap Word) (die blk base words : Nat) : Nat :=
  ofWordsLow ((List.range words).map (fun i => store.get csrReset (csrKey die blk (base + i))))

/-- A stored word that makes its field a reserved encoding. -/
def badEnc (store : SMap Word) (key : Nat) : Bool :=
  let d := keyDie key
  let b := keyBlk key
  match regAt d b (keyOff key) with
  | none => true
  | some r =>
    let base := r.base (keyOff key)
    reservedEnc d b base (fieldIn store d b base r.words)

/-! ### The fault sources (R404) -/

/-- The fault sources of the compute dies' blocks: DIE, CLK, WDT, engine control, QUE, MPU and LKS (R65, R239,
R298, R325, R348, R381, R446). -/
def raisedCompute (b i : Nat) : Bool :=
  if b = 0x00 then decide (0x30 ≤ i) && decide (i ≤ 0x34)
  else if b = 0x01 then i == 1
  else if b = 0x04 then decide (0x20 ≤ i) && decide (i < 0x60)
  else if decide (0x10 ≤ b) && decide (b ≤ 0x2F) then decide (1 ≤ i) && decide (i ≤ 3)
  else if b = 0x30 then decide (1 ≤ i) && decide (i ≤ 3)
  else if b = 0x31 then decide (1 ≤ i) && decide (i ≤ 4)
  else if b = 0x32 then i == 1 || decide (0x20 ≤ i)
  else false

/-- The fault sources of the hub's blocks below 0x40 (R40, R65, R91, R142, R164, R196, R198, R298, R324, R348,
R428, R446, R497, R500, R516). -/
def raisedHub (b i : Nat) : Bool :=
  let upTo : Nat → Bool := fun n => decide (1 ≤ i) && decide (i ≤ n)
  if b = 0x00 then upTo 7 || (decide (0x11 ≤ i) && decide (i ≤ 0x17)) || i == 0x20
  else if b = 0x01 then i == 1 || i == 2 || i == 5
  else if b = 0x02 then upTo 2
  else if b = 0x03 then upTo 3 || i == 5 || (decide (0x10 ≤ i) && decide (i ≤ 0x17)) ||
    (decide (0x71 ≤ i) && decide (i ≤ 0x77))
  else if b = 0x04 then upTo 3
  else if b = 0x05 then upTo 9
  else if b = 0x06 then upTo 4
  else if b = 0x07 then upTo 3
  else if b = 0x08 then upTo 3
  else if b = 0x09 then upTo 4
  else if b = 0x0A then upTo 5
  else if b = 0x0B then upTo 3
  else if b = 0x0C then upTo 3
  else if b = 0x0D then upTo 2
  else if b = 0x30 then upTo 3
  else if b = 0x31 then upTo 2
  else false

/-- The fault sources of the port dies' blocks below 0x40: CLK, QUE and MPU (R65, R298, R348). -/
def raisedPort (b i : Nat) : Bool :=
  if b = 0x01 then i == 1 || i == 3 || i == 4
  else if b = 0x30 then decide (1 ≤ i) && decide (i ≤ 3)
  else if b = 0x31 then i == 1 || i == 2
  else false

/-- The fault sources of the blocks 0x40 to 0x47 of a port die, 0 P0 (R400, R544). -/
def raisedLines (p b i : Nat) : Bool :=
  if b = 0x40 then [1, 2, 5, 6, 8, 9].contains i
  else if b = 0x41 then i == 0x10 || i == 0x11
  else if b = 0x42 then decide (1 ≤ i) && decide (i ≤ 3)
  else if b = 0x43 then p == 0 && i == 1
  else if b = 0x46 then decide (1 ≤ i) && decide (i ≤ 6)
  else false

/-- A fault ID that some source of the package raises (R404, R406). -/
def raised (f : Word) : Bool :=
  let d := fidDie f
  let b := fidBlk f
  let i := fidSrc f
  if d = 0 then raisedHub b i
  else if isCompute d then raisedCompute b i || (d == 1 && b == 7 && (i == 1 || i == 2))
  else if d = 5 then raisedPort b i
  else if d = 6 then raisedPort b i || raisedLines 0 (0x40 + b) i
  else (b == 0 && decide (0x30 ≤ i) && decide (i ≤ 0x33)) || (b == 1 && i == 1) || raisedLines 1 (0x40 + b) i

end Sys2Proof.Machine
end

