-- ==== Sys2Proof/Machine/CheckMap.lean ====
section
/-!
DEFINITION. What the consistency check reads of the structure: requirement marks of the dies, gated quads
(R51), the bindings of the queues (R276, R277, R521, R522, R530) and the protection units' regions (R326).
The functions read the registers in force; the check runs them on the registers as they stand (R79).
-/

namespace Sys2Proof.Machine

/-- A refusal by the check: reason code and CFG_DETAIL (R81). -/
abbrev Refusing := Option (Nat × BitVec 32)

/-- The registers as they stand, taken as in force. -/
def State.asStored (s : State) : State := { s with csr := { s.csr with live := s.csr.store } }

/-- Refusing at the first item of a list that a test finds: its code and detail. -/
def firstBad {α : Type} (code : Nat) (is : List α) (bad : α → Bool) (det : α → BitVec 32) : Refusing :=
  (is.find? bad).map (fun i => (code, det i))

/-- The first refusal of a list of checks (R80). -/
def firstRefusal (cs : List Refusing) : Refusing := cs.findSome? id

/-! ### Dies and engines -/

/-- The die is present and not fenced; the hub always is (R24, R30). -/
def State.dieUp (s : State) (d : Nat) : Bool := d == 0 || ((s.die d).present && !(s.die d).fenced)

/-- The quad of an engine is gated (R51): the CLK_EN bit of its main cores' group. -/
def State.gatedEng (s : State) (e : Nat) : Bool := !s.flagL (engDie e) 0x01 1 (engSlot e / 4)

/-- LKS_MODEs of an engine: MODE and SWITCH (R366). -/
def State.lksMode (s : State) (e : Nat) : Nat := s.fldL (engDie e) 0x32 (0x100 + 0x10 * engSlot e) 1 0

/-- The engine is there for the image: its dies up, itself neither fenced nor failed nor gated (R365). -/
def State.engHere (s : State) (e : Nat) : Bool :=
  s.dieUp (engDie e) && s.dieUp (partner (engDie e)) && (s.engOf e).state != .fenced &&
    (s.engOf e).state != .testfail && !s.gatedEng e

/-- En.K of the engine may exist: split at commit or switchable (R366). -/
def State.engK (s : State) (e : Nat) : Bool := s.lksMode e != 0

/-- All engines. -/
def engines : List Nat := List.range 128

/-! ### Bindings (R276) -/

/-- One binding: the queue, the agent, whether it consumes, and whether as a producer it may wait (R85). -/
structure Binding where
  die : Nat
  q : Nat
  agent : Agent
  cons : Bool
  wait : Bool
deriving DecidableEq, Repr

/-- The bindings of the cores: QUE_PORT with EN (R281). -/
def State.coreBindings (s : State) : List Binding :=
  s.csr.live.filterMap (fun c =>
    let d := keyDie c.1
    let o := keyOff c.1
    let v := c.2.toNat
    if isCompute d && keyBlk c.1 == 0x30 && decide (0x1000 ≤ o) && decide (o < 0x2000) && bit v 14 then
      let e := engAt d ((o - 0x1000) % 0x800 / 0x40)
      some ⟨bits v 11 9, bits v 8 0, .core (2 * e + (o - 0x1000) / 0x800), !(bit v 13), !(bit v 12)⟩
    else none)

/-- The stream inputs that are enabled: Sifter and input (R139). -/
def State.streams (s : State) : List (Nat × Nat) :=
  [0, 1].flatMap (fun n => (List.range 4).filterMap (fun m =>
    if s.flagL 0 0x06 (0x100 * n) 0 && s.flagL 0 0x06 (0x100 * n) (1 + m) then some (n, m) else none))

/-- The bindings of the hub's blocks (R276). -/
def State.hubBindings (s : State) : List Binding :=
  s.streams.flatMap (fun x =>
    let w := s.live 0 0x06 (0x100 * x.1 + 4 + x.2) |>.toNat
    [⟨0, bits w 7 0, .sifter x.1, true, true⟩, ⟨0, bits w 15 8, .sifter x.1, true, true⟩]) ++
  (List.range 3).filterMap (fun p =>
    let w := (s.live 0 0x07 (0xA + p)).toNat
    if bit w 0 then some ⟨bits w 3 1, bits w 12 4, .lat, false, true⟩ else none) ++
  (List.range s.nProd).map (fun n => ⟨0, s.fldL 0 0x08 (4 + n) 15 8, .vdg, true, true⟩) ++
  (List.range 2).filterMap (fun m =>
    let w := (s.live 0 0x08 (8 + m)).toNat
    if bit w 0 then some ⟨5 + bits w 1 1, bits w 6 2, .vdg, false, true⟩ else none) ++
  (if s.flagL 0 0x09 0 0 then
    let w := (s.live 0 0x09 9).toNat
    [⟨5 + bits w 0 0, bits w 5 1, .ldg, false, true⟩]
  else [])

/-- The bindings of the routes of port die p (R521, R522). -/
def State.routeBindings (s : State) (p : Nat) : List Binding :=
  (List.range 16).flatMap (fun a =>
    let r := (s.live (pd p) 0x40 (0x300 + 4 * a)).toNat
    let me := Agent.port (pd p) a
    if !s.flagL (pd p) 0x46 (0x100 + 0x10 * a) 0 then []
    else if bits r 1 0 = 1 then
      (List.range 3).filterMap (fun k =>
        let w := (s.live (pd p) 0x40 (0x301 + 4 * a + k)).toNat
        if bit w 12 then some ⟨bits w 11 9, bits w 8 0, me, false, true⟩ else none)
    else if bits r 1 0 = 2 then
      let w := (s.live 0 0x06 (0x100 * bits r 2 2 + 4 + bits r 4 3)).toNat
      [⟨0, bits w 7 0, me, false, true⟩, ⟨0, bits w 15 8, me, false, true⟩]
    else [])

/-- The bindings of the transmit assignments and CAN controllers of port die p (R387, R530). -/
def State.lineBindings (s : State) (p : Nat) : List Binding :=
  (List.range 16).filterMap (fun a =>
    let w := (s.live (pd p) 0x46 (0x300 + 8 * a)).toNat
    if bit w 0 then some ⟨pd p, bits w 10 6, .port (pd p) (32 + a), true, true⟩ else none) ++
  [0, 1].flatMap (fun k =>
    if !s.flagL (pd p) 0x42 (0x100 + 0x100 * k) 0 then []
    else
      ⟨pd p, s.fldL (pd p) 0x42 (0x10B + 0x100 * k) 4 0, .port (pd p) (16 + k), true, true⟩ ::
        (List.range 16).filterMap (fun f =>
          let b := 0x400 + 0x100 * k + 8 * f
          let w := (s.live (pd p) 0x42 (b + 5)).toNat
          if s.flagL (pd p) 0x42 (b + 4) 0 then
            some ⟨bits w 11 9, bits w 8 0, .port (pd p) (16 + k), false, true⟩
          else none))

/-- Every binding in the package (R276). -/
def State.bindings (s : State) : List Binding :=
  s.coreBindings ++ s.hubBindings ++ [0, 1].flatMap (fun p => s.routeBindings p ++ s.lineBindings p)

/-- The rank of an agent among a queue's producers (R277). -/
def agentRank : Agent → Nat
  | .core n => if n % 2 = 0 then n / 2 else 128 + n / 2
  | .sifter n => 256 + n
  | .lat => 258
  | .vdg => 259
  | .ldg => 260
  | .port d u => 300 + 100 * (d - 5) + u

/-- The producers of a queue, each once, in the order of R277. -/
def producersOf (bs : List Binding) : List Agent :=
  ((bs.filter (fun b => !b.cons)).map (fun b => b.agent)).eraseDups.mergeSort
    (fun a b => decide (agentRank a ≤ agentRank b))

/-- The bindings of one queue. -/
def ofQueue (bs : List Binding) (d q : Nat) : List Binding := bs.filter (fun b => b.die == d && b.q == q)

/-- QUE_DEPTHq of a queue (R273, R282). -/
def State.depthOf (s : State) (d q : Nat) : Nat := s.fldL d 0x30 (0x400 + q) 10 0

/-- The dies that have queues. -/
def queueDies : List Nat := [0, 1, 2, 3, 4, 5, 6]

/-- Every queue of the package, die first, index second. -/
def allQueues : List (Nat × Nat) := queueDies.flatMap (fun d => (List.range (queueCount d)).map (fun q => (d, q)))

/-! ### Protection units (R326, R346, R347) -/

/-- An enabled region of a unit: the unit's die, its number (an engine's core, or 256 + the unit of its die), set,
region number and the region. -/
structure RegionAt where
  die : Nat
  unit : Nat
  set : Nat
  no : Nat
  reg : Region
deriving DecidableEq, Repr

/-- First word and words of a region. -/
def RegionAt.base (r : RegionAt) : Nat := r.reg.base
/-- Words of a region. -/
def RegionAt.size (r : RegionAt) : Nat := 256 * r.reg.len

/-- The enabled regions: found by the ATTR words that have EN (R329). -/
def State.regionsAll (s : State) : List RegionAt :=
  s.csr.live.filterMap (fun c =>
    let d := keyDie c.1
    let b := keyBlk c.1
    let o := keyOff c.1
    let rel := o % 0x100 - 0x40
    let eng := isCompute d && decide (0x10 ≤ b) && decide (b ≤ 0x2F)
    if (eng || (b == 0x31 && decide (0x100 ≤ o))) && decide (0x40 ≤ o % 0x100) && rel % 6 == 5 && bit c.2.toNat 11 then
      let unit := if eng then 2 * engAt d (b - 0x10) + o / 0x100 else 256 + (o / 0x100 - 1)
      some ⟨d, unit, rel / 0x60, rel % 0x60 / 6, s.region d b (o - 5)⟩
    else none)

/-- Two ranges of words share a word. -/
def overlaps (a n b m : Nat) : Bool := decide (0 < n) && decide (0 < m) && decide (a < b + m) && decide (b < a + n)

/-- A range of words lies wholly in one range of R41, the two stacks taken together. -/
def inMap (a n : Nat) : Bool :=
  let within : Nat → Nat → Bool := fun b m => decide (b ≤ a) && decide (a + n ≤ b + m)
  n == 0 || within 0 spadLen || [1, 2, 3, 4].any (fun d => within (poolBase d) poolLen) ||
    within flashBase flashLen || within mramBase mramLen || within otpBase otpLen || within csrBase 0x8000000 ||
    within hbmBase hbmLen

/-- Units of a die's MPU block (R347). -/
def unitsOf (d : Nat) : Nat := if isCompute d then 4 else if d = 7 then 0 else 2

end Sys2Proof.Machine
end

