-- ==== Sys2Proof/Machine/Check.lean ====
section
/-!
DEFINITION. The consistency check (R80, R86): the areas in ascending order, within an area the codes, within
a code the items. Every function reads the registers in force; the check runs on State.asStored.
-/

namespace Sys2Proof.Machine

/-! ### 0x02xx: clocks (R51) -/

/-- The reaction map entries in use, in ascending order: their numbers (R405, R406). -/
def State.mapUsed (s : State) : List Nat :=
  (List.range 2048).filter (fun e => bits (s.mapWord e 1).toNat 2 0 != 7)

/-- The sections that name an engine (0x0205): those of the check's items in which a register of the engine
departs from its reset value; the lowest, where one does (assumption 15). -/
def State.namedIn (s : State) (e : Nat) : Option Nat :=
  let d := engDie e
  let sl := engSlot e
  let inEngines := s.lksMode e != 0 || [0, 1].any (fun c =>
    s.liveN d (0x10 + sl) (0x100 * c + 1) 3 != 0 ||
      (List.range 32).any (fun n => s.live d (0x10 + sl) (0x100 * c + 0x10 + n) != 0))
  let inQueues := s.coreBindings.any (fun b => b.agent == .core (2 * e) || b.agent == .core (2 * e + 1))
  let inSlots := s.csr.live.any (fun c =>
    keyDie c.1 == 0 && keyBlk c.1 == 0x05 && decide (0x4000 ≤ keyOff c.1) && bits c.2.toNat 11 10 == 1 &&
      decide (bits c.2.toNat 8 0 < 0x100) && bits c.2.toNat 6 0 == e)
  let inMaps := s.regionsAll.any (fun r => decide (r.unit < 256) && r.unit / 2 == e)
  let inReactions := s.mapUsed.any (fun i => [0, 3].any (fun k => sourceEngine (s.mapWord i k) == some e))
  let inWdt := [0x200, 0x400].any (fun b => s.fldL d 0x04 (b + 0x10 * sl) 1 0 != 0)
  let inVerdict := (List.range s.nProd).any (fun n => s.prodEngine n == e)
  let inLocks := (List.range 8).any (fun n =>
    let w := (s.live 0 0x0B (0x35 + 6 * n)).toNat
    bit w 0 && bits w 2 1 == 2 && bits w 9 3 == e)
  if inEngines then some 3 else if inQueues then some 4 else if inSlots then some 5 else if inMaps then some 6
  else if inReactions then some 7 else if inWdt then some 9 else if inVerdict then some 10 else if inLocks then some 14 else none

/-- Area 0x02xx. -/
def State.checkClocks (s : State) : Refusing :=
  let quads := [1, 2, 3, 4].flatMap (fun d => (List.range 8).map (fun g => (d, g)))
  let on : Nat → Nat → Bool := fun d i => s.flagL d 0x01 1 i
  firstRefusal
    [firstBad 0x0202 quads (fun x => on x.1 x.2 != on (partner x.1) (8 + x.2))
        (fun x => cfgDetail 1 x.1 (8 * (x.1 - 1) + x.2)),
     if !on 0 5 && s.flagL 0 0x06 0x100 0 then some (0x0203, cfgDetail 1 0 1) else none,
     firstBad 0x0204 ([5, 6].flatMap (fun d => [0, 1, 4, 5].map (fun p => (d, p))))
        (fun x => !on x.1 1 && s.flagL x.1 0x40 (ethOff x.2) 0) (fun x => cfgDetail 1 x.1 x.2),
     firstBad 0x0205 engines (fun e => s.gatedEng e && (s.namedIn e).isSome)
        (fun e => cfgDetail ((s.namedIn e).getD 0) (engDie e) e),
     if quads.all (fun x => !on x.1 x.2) then some (0x0206, noItem 1) else none]

/-! ### 0x03xx: dies (R29, R30, R32) -/

/-- LEVEL, and the level that R406 and R29 take an entry for: L2 with ESC 3 counts as a fence. -/
def State.mapLevel (s : State) (e : Nat) : Nat := bits (s.mapWord e 1).toNat 2 0

/-- The entry fences: L3, or L2 with ESC 3 (R405). -/
def State.mapFences (s : State) (e : Nat) : Bool :=
  s.mapLevel e == 3 || (s.mapLevel e == 2 && bits (s.mapWord e 1).toNat 5 3 == 3)

/-- CFG_DETAIL of a reaction: section, no die, the fault ID (R81). -/
def reactDetail (f : Word) : BitVec 32 := cfgDetail 7 0xFF f.toNat

/-- DIE_LOST and LINK_FAIL (R40). -/
def lossSources : List Word := ((List.range 7).map (fun i => i + 1) ++ (List.range 7).map (fun i => i + 0x11)).map (fun i => BitVec.ofNat 16 i)

/-- Area 0x03xx. -/
def State.checkDies (s : State) : Refusing :=
  let mark : Nat → Bool := fun d => s.cfg.marks.getLsbD d
  let used := s.mapUsed
  let fid : Nat → Word := fun e => s.mapWord e 0
  let onNv : Word → Bool := fun f => sourceDie f == 7 && raised f
  let has : Word → Bool := fun f => used.any (fun e => fid e == f)
  firstRefusal
    [firstBad 0x0302 (List.range 8) (fun d => mark d && !s.dieUp d) (fun d => cfgDetail 2 d d),
     firstBad 0x0303 [1, 3] (fun d => mark d != mark (d + 1)) (fun d => cfgDetail 2 d d),
     firstBad 0x0304 [0, 7] (fun d => !mark d) (fun d => cfgDetail 2 d d),
     firstBad 0x0305 used (fun e => s.mapFences e && onNv (fid e)) (fun e => reactDetail (fid e)),
     firstBad 0x0306 used (fun e => decide (s.mapLevel e < 3) && lossSources.contains (fid e)) (fun e => reactDetail (fid e)),
     if s.fldL 0 0x03 0 2 0 < 3 then firstBad 0x0306 lossSources (fun f => !has f) reactDetail else none,
     if (!(s.dieUp 1 && s.dieUp 2) && !(s.dieUp 3 && s.dieUp 4)) || (!s.dieUp 5 && !s.dieUp 6) then
       some (0x0307, noItem 2) else none]

/-! ### 0x04xx: queues (R85, R276, R278) -/

/-- Flits of a die's queue store (R278). -/
def queueStore (d : Nat) : Nat := if d = 0 then 16384 else if isCompute d then 32768 else 2048

/-- An agent is there for the image (R276): not absent, not gated, and En.K only of a split or switchable
engine. -/
def State.agentHere (s : State) : Agent → Bool
  | .core n => s.engHere (n / 2) && (n % 2 == 0 || s.engK (n / 2))
  | .port d _ => s.dieUp d
  | .sifter n => n == 0 || s.flagL 0 0x01 1 5
  | _ => true

/-- The successors of a queue in the graph of R85. -/
def successors (bs : List Binding) (x : Nat × Nat) : List (Nat × Nat) :=
  let cons := ((ofQueue bs x.1 x.2).filter (fun b => b.cons)).map (fun b => b.agent)
  (bs.filter (fun b => !b.cons && b.wait && cons.contains b.agent)).map (fun b => (b.die, b.q))

/-- The queues that some queues reach in at most n steps. -/
def reach (bs : List Binding) : Nat → List (Nat × Nat) → List (Nat × Nat)
  | 0, xs => xs
  | n + 1, xs =>
    let more := (xs.flatMap (successors bs)).eraseDups.filter (fun x => !xs.contains x)
    if more.isEmpty then xs else reach bs n (xs ++ more)

/-- A queue lies on a cycle of the graph (R85). -/
def onCycle (bs : List Binding) (n : Nat) (x : Nat × Nat) : Bool := (reach bs n (successors bs x)).contains x

/-- The lowest die and queue among the bindings that a test finds. -/
def lowestBinding (code : Nat) (bs : List Binding) (bad : Binding → Bool) : Refusing :=
  (bs.filter bad).foldl (fun (r : Refusing) b =>
    match r with
    | none => some (code, cfgDetail 4 b.die b.q)
    | some (_, x) => if decide ((cfgDetail 4 b.die b.q).toNat < x.toNat) then some (code, cfgDetail 4 b.die b.q) else r) none

/-- Area 0x04xx. -/
def State.checkQueues (s : State) : Refusing :=
  let bs := s.bindings
  let det : Nat × Nat → BitVec 32 := fun x => cfgDetail 4 x.1 x.2
  let inRange : Binding → Bool := fun b => decide (b.q < queueCount b.die)
  let named := allQueues.filter (fun x => bs.any (fun b => b.die == x.1 && b.q == x.2))
  let depth : Nat × Nat → Nat := fun x => s.depthOf x.1 x.2
  let counts : Nat × Nat → Bool := fun x =>
    let qs := ofQueue bs x.1 x.2
    let n := (producersOf qs).length
    (qs.filter (fun b => b.cons)).length != 1 || n == 0 || decide (4 < n)
  let routes := [0, 1].flatMap (fun p => (List.range 16).map (fun a => (p, a)))
  firstRefusal
    [firstBad 0x0402 named (fun x => decide (depth x < 4) || decide (1024 < depth x)) det,
     firstBad 0x0403 queueDies (fun d =>
        decide (queueStore d < ((List.range (queueCount d)).map (fun q => s.depthOf d q)).sum)) (fun d => cfgDetail 4 d 0),
     firstBad 0x0404 (allQueues.filter (fun x => depth x != 0)) counts det,
     firstBad 0x0404 routes (fun x =>
        s.flagL (pd x.1) 0x46 (0x100 + 0x10 * x.2) 0 && s.fldL (pd x.1) 0x40 (0x300 + 4 * x.2) 1 0 == 1 &&
          (List.range 3).all (fun k => !s.flagL (pd x.1) 0x40 (0x301 + 4 * x.2 + k) 12))
        (fun x => cfgDetail 12 (pd x.1) x.2),
     lowestBinding 0x0405 bs (fun b => !s.agentHere b.agent),
     lowestBinding 0x0406 bs (fun b => !inRange b),
     firstBad 0x0407 named (onCycle bs named.length) det]

/-! ### 0x05xx: HBM slot tables (R302 to R306) -/

/-- The words of ascending offsets of a block, densely. -/
def denseWords : Nat → Nat → SMap Word → List Word
  | 0, _, _ => []
  | n + 1, k, m =>
    match m with
    | [] => 0 :: denseWords n (k + 1) []
    | (j, v) :: r => if j = k then v :: denseWords n (k + 1) r else 0 :: denseWords n (k + 1) m

/-- One slot entry: its index 8192 × stack + 16 × position + lane, and its value (R301, R323). -/
abbrev SlotEntry := Nat × Nat

/-- The slot tables as they stand. -/
def State.slotEntries (s : State) : List SlotEntry :=
  let k0 := csrKey 0 0x05 0x4000
  (List.range 16384).zip
    ((denseWords 16384 k0 (s.csr.live.filter (fun c => decide (k0 ≤ c.1) && decide (c.1 < k0 + 16384)))).map (fun w => w.toNat % 4096))

/-- Position within its group of 32 (R303). -/
def groupPos (i : Nat) : Nat := i / 16 % 32

/-- The stack that holds LAT_BASE. -/
def State.latStack (s : State) : Option Nat := hbmStackOf (s.liveN 0 0x07 2 3)

/-- What a fixed position of the Lattice stack holds, where it is fixed (R303). -/
def fixedSlot (r : Nat) : Option Nat :=
  if r < 8 then some 0x500 else if r = 17 then some (0x600 + 0x102) else if decide (18 ≤ r) && decide (r < 26) then some (0x600 + 0x101)
  else none

/-- The requester of a DATA entry is there at its place (R302, R303, 0x0503). -/
def State.reqHere (s : State) (x : SlotEntry) : Bool :=
  let r := bits x.2 8 0
  let g := groupPos x.1
  let lat := s.latStack == some (x.1 / 8192)
  if r < 0x80 then s.engHere r
  else if r < 0x100 then s.engHere (r - 0x80) && s.engK (r - 0x80)
  else if r = 0x100 then lat && decide (g < 8)
  else if r = 0x101 then lat && decide (18 ≤ g) && decide (g < 26)
  else if r = 0x102 then lat && g == 17
  else if decide (0x110 ≤ r) && decide (r < 0x120) then s.dieUp (1 + (r - 0x110) / 4)
  else if decide (0x120 ≤ r) && decide (r < 0x124) then s.dieUp (5 + (r - 0x120) / 2)
  else true

/-- The least-privileged ring that matters for a unit's reach into HBM: 0 for a core, RING for another (R328). -/
def reachRing (ring : Nat) (f : Nat) : Bool := ringOk ring f

/-- A unit's regions and its die's default map let a ring read (or fetch), or write, words of a stack. -/
def State.unitReaches (s : State) (rs : List RegionAt) (die unit ring n : Nat) (wr : Bool) : Bool :=
  let lo := hbmBase + 0x200000000 * n
  let d := (s.live die 0x31 (14 + n)).toNat
  let ok : RegionAt → Bool := fun r =>
    r.die == die && r.unit == unit && overlaps r.base r.size lo 0x200000000 &&
      (if wr then reachRing ring (bits r.reg.ctl 5 3) else reachRing ring (bits r.reg.ctl 2 0) || reachRing ring (bits r.reg.ctl 8 6))
  rs.any ok || (if wr then defaultOk ring (bits d 3 2) else defaultOk ring (bits d 1 0) || defaultOk ring (bits d 5 4))

/-- The requesters that have HBM access and so need slots: REQ, stack and whether they write (R306, R366). -/
def State.slotNeeds (s : State) : List (Nat × Nat × Bool) :=
  let rs := s.regionsAll
  let access : Nat → Nat → Nat → Nat → List (Nat × Bool) := fun die unit ring n =>
    (if s.unitReaches rs die unit ring n false then [(n, false)] else []) ++
      (if s.unitReaches rs die unit ring n true then [(n, true)] else [])
  let tag : Nat → List (Nat × Bool) → List (Nat × Nat × Bool) := fun r l => l.map (fun x => (r, x.1, x.2))
  let core : Nat → Nat → List (Nat × Bool) := fun e c =>
    [0, 1].flatMap (fun n => access (engDie e) (2 * e + c) 0 n)
  let cores := engines.flatMap (fun e =>
    if !s.engHere e then []
    else
      let m := s.lksMode e
      let a := core e 0
      let b := if m = 0 then [] else core e 1
      if 2 ≤ m then tag e (a ++ b) ++ tag (0x80 + e) (a ++ b) else tag e a ++ tag (0x80 + e) b)
  let dmas := [1, 2, 3, 4, 5, 6].flatMap (fun d =>
    if !s.dieUp d then []
    else
      (List.range (unitsOf d)).flatMap (fun u =>
        tag (if d ≤ 4 then 0x110 + 4 * (d - 1) + u else 0x120 + 2 * (d - 5) + u)
          ([0, 1].flatMap (fun n => access d (256 + u) (s.fldL d 0x31 (0x100 + 0x100 * u) 1 0) n))))
  let scrub := [0, 1].flatMap (fun n => if s.flagL 0 0x05 0 n then [(0x104, n, false), (0x104, n, true)] else [])
  let pexp := match hbmStackOf (s.liveN 0 0x07 5 3) with
    | some n => if s.liveN 0 0x07 8 2 = 0 then [] else [(0x103, n, false), (0x103, n, true)]
    | none => []
  pexp ++ scrub ++ cores ++ dmas

/-- The requester holds a slot of the direction on every lane of the stack. -/
def hasSlots (ts : List SlotEntry) (req n : Nat) (wr : Bool) : Bool :=
  (List.range 16).all (fun lane =>
    ts.any (fun x => x.1 / 8192 == n && x.1 % 16 == lane && x.2 == 0x400 + 0x200 * b2n wr + req))

/-- Area 0x05xx. -/
def State.checkHbm (s : State) : Refusing :=
  let ts := s.slotEntries
  let det : SlotEntry → BitVec 32 := fun x => cfgDetail 5 0 x.1
  let next := (ts.take 8192).drop 16 ++ (ts.take 16) ++ (ts.drop 8208) ++ (ts.drop 8192).take 16
  let lat := match s.latStack with
    | none => []
    | some n => (ts.drop (8192 * n)).take 8192
  let needs := (s.slotNeeds).mergeSort (fun a b => decide (a.1 ≤ b.1))
  firstRefusal
    [firstBad 0x0502 ts (fun x => decide (26 ≤ groupPos x.1) && x.2 != 0x505) det,
     firstBad 0x0503 ts (fun x => bits x.2 11 10 == 1 && !s.reqHere x) det,
     firstBad 0x0504 lat (fun x => match fixedSlot (groupPos x.1) with | none => false | some v => x.2 != v) det,
     firstBad 0x0504 needs (fun x => !(hasSlots ts x.1 x.2.1 false) || (x.2.2 && !(hasSlots ts x.1 x.2.1 true)))
        (fun x => cfgDetail 5 0 x.1),
     firstBad 0x0505 (ts.zip next) (fun x =>
        bits x.1.2 11 9 == 3 && bits x.2.2 11 9 == 2 && bits x.2.2 8 0 != 0x105) (fun x => det x.1)]

/-! ### 0x06xx: maps (R330, R331, R347) -/

/-- A region shares a word with a class in which nothing is executed: flash, MRAM, OTP or CSR space. -/
def inNoExec (r : RegionAt) : Bool :=
  overlaps r.base r.size flashBase flashLen || overlaps r.base r.size mramBase mramLen ||
    overlaps r.base r.size otpBase otpLen || overlaps r.base r.size csrBase 0x8000000

/-- CFG_DETAIL of a region. -/
def regionDetail (r : RegionAt) : BitVec 32 := cfgDetail 6 r.die r.no

/-- A reserved value of MAPS (0x0601): a region of a unit that never executes grants execution (R328). -/
def State.comboMaps (s : State) : Refusing :=
  firstBad 0x0601 s.regionsAll (fun r => decide (256 ≤ r.unit) && bits r.reg.ctl 8 6 != 7) regionDetail

/-- Area 0x06xx. -/
def State.checkMaps (s : State) : Refusing :=
  let rs := s.regionsAll
  let det := regionDetail
  let defs := queueDies.flatMap (fun d => [2, 3, 4, 5].map (fun k => (d, k)))
  firstRefusal
    [s.comboMaps,
     firstBad 0x0602 rs (fun r => r.base % 256 != 0) det,
     firstBad 0x0603 rs (fun r => !(inMap r.base r.size)) det,
     firstBad 0x0604 rs (fun r => rs.any (fun x =>
        x.die == r.die && x.unit == r.unit && x.set == r.set && decide (r.no < x.no) && overlaps r.base r.size x.base x.size)) det,
     firstBad 0x0605 rs (fun r => bits r.reg.ctl 8 6 != 7 && inNoExec r) det,
     firstBad 0x0605 defs (fun x => s.fldL x.1 0x31 (8 + x.2) 5 4 != 0) (fun x => cfgDetail 6 x.1 x.2),
     firstBad 0x0606 rs (fun r => bits r.reg.ctl 10 9 != 0 && overlaps r.base r.size csrBase 0x8000000) det,
     firstBad 0x0606 queueDies (fun d => s.fldL d 0x31 13 7 6 != 0) (fun d => cfgDetail 6 d 5)]

/-! ### 0x07xx: reactions (R406) -/

/-- The Verdict Gate's sources (R164). -/
def vdgSources : List Word := [0x0401, 0x0402, 0x0403]

/-- The target of an entry that fences is the hub (0x0707). -/
def targetsHub (f : Word) (tgt : Bool) : Bool :=
  if tgt then sourceDie f == 0 else (sourceEngine f).isNone && sourceDie f == 0

/-- Area 0x07xx. -/
def State.checkReactions (s : State) : Refusing :=
  let used := s.mapUsed
  let fid : Nat → Word := fun e => s.mapWord e 0
  let root : Nat → Word := fun e => s.mapWord e 3
  let rootOf : Word → Word := fun f => match used.find? (fun e => fid e == f) with | none => 0 | some e => root e
  let win := (s.live 0 0x03 1).toNat
  let det : Nat → BitVec 32 := fun e => reactDetail (fid e)
  let grace : Nat → Nat := fun e => (s.mapWord e 2).toNat
  firstRefusal
    [firstBad 0x0702 used (fun e => !(raised (fid e)) || (root e != 0 && !(raised (root e)))) det,
     firstBad 0x0703 used (fun e => root e != 0 && rootOf (root e) != 0) det,
     if decide (4096 < win) || (win == 0 && used.any (fun e => root e != 0)) then some (0x0704, noItem 7) else none,
     firstBad 0x0705 used (fun e => if s.mapLevel e = 2 then grace e == 0 else grace e != 0) det,
     firstBad 0x0706 used (fun e => vdgSources.contains (fid e) && decide (s.mapLevel e < 4)) det,
     if s.fldL 0 0x03 0 2 0 < 4 then firstBad 0x0706 vdgSources (fun f => !used.any (fun e => fid e == f)) reactDetail
     else none,
     firstBad 0x0707 used (fun e => s.mapFences e && targetsHub (fid e) (bit (s.mapWord e 1).toNat 6)) det]

/-! ### 0x08xx: ports and check-value units -/

/-- CK4 per bit of a phase of a CAN controller (R529). -/
def State.canBit (s : State) (p k h : Nat) : Nat :=
  let b := 0x101 + 0x100 * k + 3 * h
  s.fldL (pd p) 0x42 b 9 0 * (1 + s.fldL (pd p) 0x42 (b + 1) 7 0 + s.fldL (pd p) 0x42 (b + 1) 14 8)

/-- A bit of CANX_CFGk. -/
def State.canCfg (s : State) (p k i : Nat) : Bool := s.flagL (pd p) 0x42 (0x100 + 0x100 * k) i

/-- The assignments of a direction: offset and distance of CFG (R399). -/
def cvuAt (send : Bool) (a : Nat) : Nat := if send then 0x300 + 8 * a else 0x100 + 0x10 * a

/-- Both port dies with a number below n. -/
def portItems (n : Nat) : List (Nat × Nat) := [0, 1].flatMap (fun p => (List.range n).map (fun a => (p, a)))

/-- The first enabled assignment with DATA_ID 0 (R399, R568). -/
def State.checkIds (s : State) (send : Bool) : Refusing :=
  firstBad 0x0801 (portItems 16) (fun x =>
    s.flagL (pd x.1) 0x46 (cvuAt send x.2) 0 && s.live (pd x.1) 0x46 (cvuAt send x.2 + 1) == 0)
    (fun x => cfgDetail 8 (pd x.1) x.2)

/-- Two enabled assignments of a direction of one port with one DATA_ID (0x0804). -/
def State.checkShared (s : State) (p : Nat) (send : Bool) : Refusing :=
  let on := (List.range 16).filter (fun a => s.flagL (pd p) 0x46 (cvuAt send a) 0)
  let key : Nat → Nat × Word := fun a => (s.fldL (pd p) 0x46 (cvuAt send a) 3 1, s.live (pd p) 0x46 (cvuAt send a + 1))
  firstBad 0x0804 on (fun a => on.any (fun b => decide (a < b) && key a == key b)) (fun a => cfgDetail 8 (pd p) a)

/-- A port-die queue is consumed by an enabled transmit assignment, whose port runs where `port` asks so. -/
def State.txServes (s : State) (die q : Nat) (port : Bool) : Bool :=
  (List.range 16).any (fun a =>
    let c := (s.live die 0x46 (0x300 + 8 * a)).toNat
    bit c 0 && bits c 10 6 == q && (!port || s.flagL die 0x40 (ethOff (bits c 3 1)) 0))

/-- A VLAN ID that is never assigned (0x0807). -/
def badVid (v : Nat) : Bool := v == 0 || v == 0xFFF

/-- A reserved value of CVU (0x0801). -/
def State.comboCvu (s : State) : Refusing := firstRefusal [s.checkIds false, s.checkIds true]

/-- A receive assignment is enabled. -/
def State.rxOn (s : State) (p a : Nat) : Bool := s.flagL (pd p) 0x46 (cvuAt false a) 0

/-- KIND of the route of a receive assignment (R521). -/
def State.routeKind (s : State) (p a : Nat) : Nat := s.fldL (pd p) 0x40 (0x300 + 4 * a) 1 0

/-- An enabled receive assignment routes to an input of a Sifter (R109, R521). -/
def State.pointsChecked (s : State) (x : Nat × Nat) : Bool :=
  (portItems 16).any (fun y =>
    s.rxOn y.1 y.2 && s.routeKind y.1 y.2 == 2 && s.fldL (pd y.1) 0x40 (0x300 + 4 * y.2) 4 2 == x.1 + 2 * x.2)

/-- A stream without an end-to-end check (0x0805). The spec does not say how the check finds the streams: the model
takes an enabled Sifter input that no enabled receive assignment routes to, a QUEUE route with a destination whose
assignment is not enabled, management frames received on a die that has no enabled transmit assignment for their
answers, and a verdict queue that no enabled transmit assignment consumes (DESIGN CHOICE, assumption 121). -/
def State.checkStreams (s : State) : Refusing :=
  firstRefusal
    [firstBad 0x0805 s.streams (fun x => !s.pointsChecked x) (fun x => cfgDetail 8 0 (4 * x.1 + x.2)),
     firstBad 0x0805 [0, 1] (fun m =>
        let w := (s.live 0 0x08 (8 + m)).toNat
        bit w 0 && !s.txServes (5 + bits w 1 1) (bits w 6 2) false)
        (fun m => cfgDetail 8 (5 + s.fldL 0 0x08 (8 + m) 1 1) (s.fldL 0 0x08 (8 + m) 6 2)),
     firstBad 0x0805 (portItems 16) (fun x =>
        (!s.rxOn x.1 x.2 && s.routeKind x.1 x.2 == 1 &&
          (List.range 3).any (fun k => s.flagL (pd x.1) 0x40 (0x301 + 4 * x.2 + k) 12)) ||
        (s.rxOn x.1 x.2 && s.routeKind x.1 x.2 == 0 &&
          (List.range 16).all (fun a => !s.flagL (pd x.1) 0x46 (cvuAt true a) 0)))
        (fun x => cfgDetail 8 (pd x.1) x.2)]

/-- A reserved value of PORTS (0x0801): a bit time of an enabled CAN controller (R541). R529 makes rates above its
limits reserved without naming EN or FD: the model judges the nominal rate of a controller with EN 1 alone, and the
FD data rate where FD is 1 as well (DESIGN CHOICE, assumption 120). -/
def State.comboPorts (s : State) : Refusing :=
  firstBad 0x0801 (portItems 2) (fun x =>
    s.canCfg x.1 x.2 0 && (decide (s.canBit x.1 x.2 0 < 750) || (s.canCfg x.1 x.2 1 && decide (s.canBit x.1 x.2 1 < 75))))
    (fun x => cfgDetail 12 (pd x.1) x.2)

/-- Area 0x08xx. -/
def State.checkPorts (s : State) : Refusing :=
  let cans := portItems 2
  let poss := [0, 1].flatMap (fun p => [0, 1, 4, 5].map (fun x => (p, x)))
  firstRefusal
    [s.comboCvu, s.comboPorts,
     firstBad 0x0802 poss (fun x => x.2 != 4 && s.flagL (pd x.1) 0x40 (ethOff x.2) 3) (fun x => cfgDetail 12 (pd x.1) x.2),
     firstBad 0x0803 [0, 1] (fun p =>
        let id := s.fldL (pd p) 0x41 1 7 0
        (s.flagL (pd p) 0x41 1 8 && id != 0) || decide (s.fldL (pd p) 0x41 2 7 0 ≤ id)) (fun p => cfgDetail 12 (pd p) 5),
     s.checkShared 0 false, s.checkShared 0 true, s.checkShared 1 false, s.checkShared 1 true,
     s.checkStreams,
     firstBad 0x0806 cans (fun x => s.canCfg x.1 x.2 0 && s.canCfg x.1 x.2 2 && decide (2 * s.canBit x.1 x.2 2 < 75))
        (fun x => cfgDetail 12 (pd x.1) x.2),
     firstBad 0x0807 poss (fun x => (List.range 4).any (fun v =>
        let w := (s.live (pd x.1) 0x40 (ethOff x.2 + 7 + v)).toNat
        bit w 12 && badVid (bits w 11 0))) (fun x => cfgDetail 12 (pd x.1) x.2),
     firstBad 0x0807 (portItems 16) (fun x =>
        let w := (s.live (pd x.1) 0x40 (0x403 + 4 * x.2)).toNat
        bit w 15 && badVid (bits w 11 0)) (fun x => cfgDetail 12 (pd x.1) x.2)]

/-! ### 0x09xx: watchdogs (R442) -/

/-- Every watchdog by its key: the Trifle's, then the engines' in order. -/
def allWdts : List Nat := [0, 1] ++ (List.range 256).map (fun c => 256 + c)

/-- CFG_DETAIL of a watchdog: its die and its Trifle number or engine (R81). -/
def wdtDetail (k : Nat) : BitVec 32 := cfgDetail 9 (wdtDie k) (if k < 256 then k else (k - 256) / 2)

/-- A reserved value of WATCHDOG (0x0901, R442). -/
def State.comboWdts (s : State) : Refusing :=
  let mode := s.wdtMode
  let w := s.wdtWord
  firstRefusal
    [firstBad 0x0901 allWdts (fun k => (mode k != 0 && w k 1 == 0) || (decide (k < 256) && bit (w k 0) 2)) wdtDetail,
     if s.fldL 0 0x04 1 1 0 = 0 then some (0x0901, cfgDetail 9 0 0) else none]

/-- Area 0x09xx. -/
def State.checkWdts (s : State) : Refusing :=
  let mode := s.wdtMode
  let w := s.wdtWord
  firstRefusal
    [s.comboWdts,
     firstBad 0x0902 allWdts (fun k =>
        (mode k == 1 && (decide (w k 3 ≤ w k 2) || decide (w k 1 < w k 3))) || (mode k == 2 && decide (w k 1 ≤ w k 2))) wdtDetail,
     firstBad 0x0903 allWdts (fun k => mode k == 2 && w k 5 == 0) wdtDetail,
     firstBad 0x0904 [0, 1] (fun k => mode k == 0) wdtDetail]

/-! ### 0x0Axx: verdict (R146, R163) -/

/-- Area 0x0Axx. -/
def State.checkVerdict (s : State) : Refusing :=
  let n := s.nProd
  let ps := (List.range n).map (fun i => (s.prodEngine i, s.fldL 0 0x08 (4 + i) 15 8))
  let det : Nat × Nat → BitVec 32 := fun x => cfgDetail 10 (engDie x.1) x.1
  let us := (s.live 0 0x08 2).toNat
  let bs := s.bindings
  firstRefusal
    [if n = 0 || (s.flagL 0 0x08 0 0 && n != 3) then some (0x0A02, noItem 10) else none,
     firstBad 0x0A03 ps (fun x => s.lksMode x.1 != 0) det,
     firstBad 0x0A04 ps (fun x => decide (1 < (ps.filter (fun y => y.1 == x.1)).length)) det,
     if us = 0 || decide (s.fldL 0 0x07 0 9 0 * 100 ≤ us) then some (0x0A05, noItem 10) else none,
     firstBad 0x0A06 ps (fun x => ((ofQueue bs 0 x.2).filter (fun b => b.cons)).any (fun b => b.agent != .vdg)) det]

/-! ### 0x0Bxx: ledger and time -/

/-- The die and position that TIME_CTRL.PORT names, where it names one (R193, R517). -/
def timePort (p : Nat) : Option (Nat × Nat) :=
  if p < 2 then some (5, p) else if p = 4 || p = 5 then some (6, p - 4) else if p = 8 || p = 9 then some (p - 3, 4) else none

/-- A reserved value of LEDGER (0x0B01): POS_K 0 while MS is 1 (R195, R568). -/
def State.comboLedger (s : State) : Refusing :=
  if s.flagL 0 0x0A 0 2 && s.live 0 0x0A 2 == 0 then some (0x0B01, cfgDetail 11 0 2) else none

/-- Area 0x0Bxx. -/
def State.checkLedger (s : State) : Refusing :=
  let ex := (s.live 0 0x09 9).toNat
  let src := s.fldL 0 0x47 0 1 0
  let port := s.fldL 0 0x47 0 5 2
  let on := match timePort port with | none => false | some x => s.flagL x.1 0x40 (ethOff x.2) 0
  let base := s.liveN 0 0x09 0xA 3
  let len := s.liveN 0 0x09 0xD 2
  firstRefusal
    [s.comboLedger,
     if s.flagL 0 0x09 0 0 && !s.txServes (5 + bits ex 0 0) (bits ex 5 1) true then
       some (0x0B02, cfgDetail 11 (5 + bits ex 0 0) (bits ex 5 1)) else none,
     if ((src = 1 || src = 3) && !s.flagL 0 0x0A 0 0) || (decide (2 ≤ src) && !on) || (timePort port).isNone then
       some (0x0B03, cfgDetail 11 0 port) else none,
     if overlaps base len (slotWord 1 false) (2 * slotSize 1) || overlaps base len (slotWord 2 false) (2 * slotSize 2) then
       some (0x0B04, noItem 11) else none]

/-! ### 0x0Cxx: Sifters and Lattice -/

/-- Words of the ring of 64 frames (R127). -/
abbrev ringLen : Nat := 0x10000000

/-- The locked image regions in use: number, first word and words (R496). -/
def State.lockRegions (s : State) : List (Nat × Nat × Nat) :=
  (List.range 8).filterMap (fun n =>
    let b := 0x30 + 6 * n
    if s.flagL 0 0x0B (b + 5) 0 then some (n, s.liveN 0 0x0B b 3, 256 * s.liveN 0 0x0B (b + 3) 2) else none)

/-- Area 0x0Cxx. -/
def State.checkLattice (s : State) : Refusing :=
  let per := s.fldL 0 0x07 0 9 0
  let bad : Nat → Bool := fun i => [0, 1].any (fun n => (List.range 4).any (fun m =>
    s.flagL 0 0x06 (0x100 * n) (1 + m) && s.flagL 0 0x06 (0x100 * n + 8 + m) i && !s.flagL 0 0x06 (0x100 * n + 2) i))
  let base := s.liveN 0 0x07 2 3
  let plen := s.liveN 0 0x07 8 2
  let one := match hbmStackOf base with
    | none => false
    | some n => decide (base + ringLen ≤ hbmBase + 0x200000000 * (n + 1))
  firstRefusal
    [if per < 50 || 500 < per || per % 5 ≠ 0 then some (0x0C02, noItem 13) else none,
     firstBad 0x0C03 (List.range 16) bad (fun i => cfgDetail 13 0 i),
     if !one || s.lockRegions.any (fun x => overlaps base ringLen x.2.1 x.2.2) then some (0x0C04, noItem 13) else none,
     if decide (0x80000000 < plen) || overlaps (s.liveN 0 0x07 5 3) plen base ringLen then some (0x0C05, noItem 13) else none]

/-! ### 0x0Dxx: locks (R478) -/

/-- A unit grants write to words of the ledger state: by a region, or by the default entry of class 3 where the
acting ring takes it (0x0D04). -/
def State.grantsLedger (s : State) (rs : List RegionAt) (die unit ring : Nat) : Bool :=
  let mine := rs.filter (fun r => r.die == die && r.unit == unit && overlaps r.base r.size 0x00F100100000 0x200000)
  let covered : Nat → Nat := fun st =>
    ((mine.filter (fun r => r.set == st)).map (fun r =>
      min (r.base + r.size) 0x00F100300000 - max r.base 0x00F100100000)).sum
  mine.any (fun r => ringOk ring (bits r.reg.ctl 5 3)) ||
    (defaultOk ring (s.fldL die 0x31 11 3 2) && [0, 1].any (fun st => decide (covered st < 0x200000)))

/-- Area 0x0Dxx. -/
def State.checkLocks (s : State) : Refusing :=
  let rs := s.regionsAll
  let cores := engines.flatMap (fun e =>
    if !s.engHere e then [] else if s.engK e then [2 * e, 2 * e + 1] else [2 * e])
  let units := queueDies.flatMap (fun d => if s.dieUp d then (List.range (unitsOf d)).map (fun u => (d, u)) else [])
  firstRefusal
    [firstBad 0x0D02 s.lockRegions (fun x => x.2.1 % 256 != 0 || !(inMap x.2.1 x.2.2)) (fun x => cfgDetail 14 0xFF x.1),
     if s.fldL 0 0x0B 0x20 2 0 ≠ 7 then some (0x0D03, noItem 14) else none,
     firstBad 0x0D04 cores (fun c => s.grantsLedger rs (coreDie c) c 0) (fun c => cfgDetail 14 (coreDie c) (c / 2)),
     firstBad 0x0D04 units (fun x => s.grantsLedger rs x.1 (256 + x.2) (s.fldL x.1 0x31 (0x100 + 0x100 * x.2) 1 0))
        (fun x => cfgDetail 14 x.1 x.2)]

/-! ### The check (R80) -/

/-- The sealed registers against the hashes recorded at load (0x0E0A, R77, R79). -/
def State.checkSealed (s : State) : Refusing :=
  firstBad 0x0E0A s.cfg.sealHash (fun x => sectionHash s.csr.live x.1 != x.2) (fun x => noItem x.1)

/-- The areas in ascending order (R80). -/
def State.checkAreas (s : State) : Refusing :=
  firstRefusal
    [s.checkSealed, s.checkClocks, s.checkDies, s.checkQueues, s.checkHbm, s.checkMaps, s.checkReactions, s.checkPorts,
     s.checkWdts, s.checkVerdict, s.checkLedger, s.checkLattice, s.checkLocks]

/-- The presence map differs from that of the load (0x0F09): the lowest die that changed is the item. -/
def State.checkPresence (s : State) : Refusing :=
  firstBad 0x0F09 (List.range 8) (fun d => s.present.getLsbD d != s.cfg.presentAtLoad.getLsbD d) (fun d => cfgDetail 2 d d)

end Sys2Proof.Machine
end

