-- ==== Sys2Proof/Machine/Bundle.lean ====
section
/-!
DEFINITION. The firmware bundle in a slot: its form, its signatures and the rules for its modules (R455,
R456, R457).
-/

namespace Sys2Proof.Machine

/-- One module of a bundle: KIND, FLAGS, DEST, LEN, the reserved word, and the flash word of its header
(R455). -/
structure BundleMod where
  kind : Nat
  flags : Word
  dest : Nat
  len : Nat
  rsv : Word
  at_ : Nat
deriving DecidableEq, Repr

/-- Words of a module in the bundle: header, data and, for kinds 1 and 3, its signature block. -/
def BundleMod.size (m : BundleMod) : Nat := 8 + m.len + (if m.kind = 1 || m.kind = 3 then 32 else 0)

/-- First word of a module's data. -/
def BundleMod.data (m : BundleMod) : Nat := m.at_ + 8

/-- The n modules that follow from flash word a. -/
def State.bundleMods (s : State) : Nat → Nat → List BundleMod
  | 0, _ => []
  | n + 1, a =>
    let m : BundleMod :=
      { kind := (s.rd a).toNat, flags := s.rd (a + 1), dest := ofWordsLow (s.rds (a + 2) 3), len := (s.rd32 (a + 5)).toNat,
        rsv := s.rd (a + 7), at_ := a }
    m :: s.bundleMods n (a + m.size)

/-- The modules of the bundle in a firmware slot; at most 16 are read. -/
def State.bundle (s : State) (slot : Bool) : List BundleMod :=
  let b := slotWord 0 slot
  s.bundleMods (min 16 (s.rd (b + 3)).toNat) (b + 32)

/-- The owner's key: the vendor root in MANUFACTURE, the owner key otherwise (R75, R96, R455). -/
def State.ownerKey (s : State) : Option PubKey :=
  if s.life = 0 then some Config.vendorRoot
  else s.cus.owner.map (fun ws => (wordsW256 ws, wordsW256 (ws.drop 16)))

/-- The signature of a module, over its header and data (R455). -/
def State.moduleSig (s : State) (q : Option PubKey) (m : BundleMod) : Bool :=
  verifyOpt q (sha (s.rds m.at_ (8 + m.len))) (s.rds (m.data + m.len) 32)

/-- The words of a bundle from the header through the trailer word. -/
def bundleBody (ms : List BundleMod) : Nat := 32 + (ms.map BundleMod.size).sum + 1

/-- Step 2 of R455: the header, the module headers and the trailer word. -/
def State.bundleForm (s : State) (slot : Bool) : Bool :=
  let b := slotWord 0 slot
  let h := s.rds b 32
  let ms := s.bundle slot
  let len := (w32 h 4).toNat
  wordAt h 0 == 0x4657 && wordAt h 1 == 1 && wordAt h 2 == 0x20 && decide (1 ≤ (wordAt h 3).toNat) &&
  decide ((wordAt h 3).toNat ≤ 16) && decide (len ≤ 0x1FFFFF) && decide (len = bundleBody ms + 32) &&
  decide ((wordAt h 10).toNat ≤ 3) && (h.drop 13).all (fun w => w == 0) &&
  ms.all (fun m => (m.kind == 1 || m.kind == 2 || m.kind == 3) && m.flags == 0 && m.rsv == 0) &&
  s.rd (b + bundleBody ms - 1) == 0x5746

/-- Module 0 is the one TRIFLE module, within Trifle memory (R456). -/
def trifleModule (ms : List BundleMod) : Bool :=
  match ms with
  | [] => false
  | m :: rest => m.kind == 1 && decide (m.dest + m.len ≤ 0x80000) && rest.all (fun x => x.kind != 1)

/-- The SVN of the bundle in a slot (R455). -/
def State.bundleSvn (s : State) (slot : Bool) : Nat := (s.rd32 (slotWord 0 slot + 6)).toNat

/-- An uncorrectable codeword lies in a range of words (R316). -/
def State.rangeBad (s : State) (a n : Nat) : Bool :=
  s.mem.errs.any (fun c => decide (a / 8 ≤ c.1) && decide (8 * c.1 < a + n) && c.2.uncorrectable)

/-- The ROM's reads of a firmware slot are noted by the G-code decoder of the flash (R315, R316). -/
def State.bundleReads (s : State) (slot : Bool) : State :=
  (s.mem.errs.filter (fun c => decide (slotWord 0 slot / 8 ≤ c.1) && decide (8 * c.1 < slotWord 0 slot + slotSize 0))).foldl
    (fun (s : State) c => s.readNote c.1 0x106 false) s

/-- The first check of R455 that a bundle fails, as the FAIL code of R470; `none` where it passes. -/
def State.bundleCheck (s : State) (slot : Bool) : Option Nat :=
  let b := slotWord 0 slot
  let ms := s.bundle slot
  let n := bundleBody ms
  if s.rangeBad (validAt 0 slot) 1 then some 5
  else if !s.slotValid 0 slot then some 1
  else if s.rangeBad b 32 then some 5
  else if !s.bundleForm slot then some 2
  else if s.rangeBad b (n + 32) then some 5
  else if !verifyOpt s.ownerKey (sha (s.rds b n)) (s.rds (b + n) 32) then some 3
  else if !trifleModule ms || !(ms.take 1).all (s.moduleSig (some Config.vendorRoot)) then some 3
  else if s.bundleSvn slot < s.fwCounter || 32768 < s.bundleSvn slot then some 4
  else none

/-- A range of words lies wholly in one die pool, or in HBM (R456). -/
def placeable (a n : Nat) : Bool :=
  (decide (hbmBase ≤ a) && decide (a + n ≤ hbmBase + hbmLen)) ||
    [1, 2, 3, 4].any (fun d => decide (poolBase d ≤ a) && decide (a + n ≤ poolBase d + poolLen))

/-- Every module but the first meets R456 under the LOCKS section as staged. -/
def State.modulesOk (s : State) (slot : Bool) : Bool :=
  let b := slotWord 0 slot
  let q := s.authRoot (s.rd (b + 10)).toNat
  let fresh := decide (s.sealEpoch ≤ (s.rd32 (b + 11)).toNat)
  let locked := s.asStored.lockRegions
  ((s.bundle slot).drop 1).all (fun m =>
    placeable m.dest m.len && (m.kind != 3 || (s.moduleSig q m && fresh)) &&
      (m.kind == 3 || !(locked.any (fun x => overlaps m.dest m.len x.2.1 x.2.2))))

end Sys2Proof.Machine
end

