-- ==== Sys2Proof/Machine/Loader.lean ====
section
/-!
DEFINITION. The image loader (R68 to R78): the container, the signatures and the encodings, in the order of
their codes. The layout of a section body is left open by the manual (Config.sectionRegs, assumption 16).
-/

namespace Sys2Proof.Machine

/-- One section of an image: its header words and its body (R71). -/
structure Section where
  type : Nat
  flags : Word
  len : Nat
  crc : BitVec 32
  bind : Nat
  epoch : BitVec 32
  /-- flash word of the section header -/
  at_ : Nat
deriving DecidableEq, Repr

/-- SEALED of a section. -/
def Section.isSealed (x : Section) : Bool := x.flags.getLsbD 0
/-- Words of a section in the image: header, body and, where sealed, the authority's signature block. -/
def Section.size (x : Section) : Nat := 12 + x.len + (if x.isSealed then 32 else 0)

/-- The section whose header stands at a flash word. -/
def State.sectionAt (s : State) (a : Nat) : Section :=
  let h := s.rds a 12
  { type := (wordAt h 0).toNat, flags := wordAt h 1, len := (w32 h 2).toNat, crc := w32 h 4,
    bind := ofWordsLow ((h.drop 6).take 4), epoch := w32 h 10, at_ := a }

/-- The n sections that follow from a flash word (R72). -/
def State.sectionsFrom (s : State) : Nat → Nat → List Section
  | 0, _ => []
  | n + 1, a => let x := s.sectionAt a; x :: s.sectionsFrom n (a + x.size)

/-- The sections of the image in a slot. -/
def State.sections (s : State) (slot : Bool) : List Section := s.sectionsFrom 15 (slotWord 1 slot + 32)

/-- The body of a section. -/
def State.sectionBody (s : State) (x : Section) : List Word := s.rds (x.at_ + 12) x.len

/-- The refusal of a section, with item 0 and no die (R81). -/
def atSection (code : Nat) (x : Section) : Refusing := some (code, noItem x.type)

/-- The first section that a test finds. -/
def firstSection (code : Nat) (xs : List Section) (bad : Section → Bool) : Refusing :=
  firstBad code xs bad (fun x => noItem x.type)

/-- The container, in the order of the codes 0x0101 to 0x010B (R70 to R73, R86). -/
def State.loadContainer (s : State) (slot : Bool) : Refusing :=
  let b := slotWord 1 slot
  let h := s.rds b 32
  let xs := s.sections slot
  let len := (w32 h 4).toNat
  let body := 32 + (xs.map Section.size).sum
  let hdr : Bool → Nat → Refusing := fun bad code => if bad then some (code, noItem 0) else none
  let types := xs.map (fun x => x.type)
  match firstRefusal
    [hdr (wordAt h 0 != 0x4C4B) 0x0101,
     hdr (wordAt h 1 != 1 || wordAt h 2 != 0x20 || wordAt h 3 != 0xF) 0x0102,
     hdr (wordAt h 8 != 8 || decide (1 < (wordAt h 9).toNat)) 0x0103,
     hdr (decide (0x1FFFFF < len) || len != body + 33) 0x0104,
     hdr ((h.drop 12).any (fun w => w != 0) || (wordAt h 10).getLsbD 0 || decide (3 < (wordAt h 11).toNat)) 0x0105,
     firstBad 0x0106 (List.range 15) (fun i => types.getD i 0 != i + 1) (fun i => noItem (i + 1)),
     firstSection 0x0107 xs (fun x => x.type == 0 || decide (0xF < x.type)),
     firstSection 0x0108 xs (fun x => x.len == 0 || decide (b + len < x.at_ + x.size))] with
  | some r => some r
  | none => firstRefusal
    [firstSection 0x0109 xs (fun x => crc32c (bytesOf (s.sectionBody x)) != x.crc),
     firstSection 0x010A xs (fun x =>
        x.flags &&& 0xFFFE != 0 || x.isSealed != (wordAt h 10).getLsbD x.type || (!x.isSealed && x.epoch != 0)),
     hdr (s.rd (b + body) != 0x4B4C) 0x010B]

/-- The sections that lifecycle SEALED requires sealed: REACTIONS, WATCHDOG, VERDICT, LEDGER, LOCKS (R76). -/
def mustSeal (t : Nat) : Bool := [7, 9, 10, 11, 14].contains t

/-- The signatures, in the order of the codes 0x0E01 to 0x0E08 (R74 to R77). A lifecycle that needs an owner
key and holds none is refused with 0x0E02, since nothing is then verified. -/
def State.loadSigned (s : State) (slot : Bool) : Refusing :=
  let b := slotWord 1 slot
  let xs := s.sections slot
  let root := (s.rd (b + 11)).toNat
  let ss := xs.filter Section.isSealed
  let n := 32 + (xs.map Section.size).sum + 1
  let first := (ss.head?.map (fun x => x.epoch)).getD 0
  firstRefusal
    [if s.ownerKey.isSome && !verifyOpt s.ownerKey (sha (s.rds b n)) (s.rds (b + n) 32) then some (0x0E01, noItem 0) else none,
     if s.ownerKey.isNone then some (0x0E02, noItem 0) else none,
     if s.life = 2 then firstSection 0x0E03 xs (fun x => mustSeal x.type && !x.isSealed) else none,
     if !ss.isEmpty && (s.authRoot root).isNone then some (0x0E04, noItem 0) else none,
     firstSection 0x0E05 ss (fun x =>
        !verifyOpt (s.authRoot root) (sha (s.rds x.at_ (12 + x.len))) (s.rds (x.at_ + 12 + x.len) 32)),
     firstSection 0x0E06 ss (fun x => decide (x.epoch.toNat < s.sealEpoch)),
     firstSection 0x0E07 ss (fun x => x.bind != 0 && x.bind != (Config.dieUid 0).toNat),
     firstSection 0x0E08 ss (fun x => x.epoch != first)]

/-! ### Registers and encodings -/

/-- The code for a reserved value in a section (R86). -/
def areaCode (t : Nat) : Nat :=
  let a := if t = 1 then 2 else if t = 2 || t = 3 then 3 else if t = 4 then 4 else if t = 5 then 5 else if t = 6 then 6
    else if t = 7 then 7 else if t = 8 || t = 12 then 8 else if t = 9 then 9 else if t = 10 then 10
    else if t = 11 || t = 15 then 11 else if t = 13 then 12 else 13
  256 * a + 1

/-- The number of the item that a PORTS register belongs to: port position, route, CAN controller, SPI controller. -/
def portItem (b o : Nat) : Nat :=
  if b = 0x40 then (if decide (o < 0x200) then (o - 0x100) / 0x20 else (o - 0x300) / 4 % 64)
  else if b = 0x41 then 5
  else if b = 0x42 then (if decide (o < 0x400) then (o - 0x100) / 0x100 else (o - 0x400) / 0x100)
  else if b = 0x45 then (if decide (o < 0x180) then (o - 0x100) / 0x40 else 0)
  else 0

/-- The index of the item that a register belongs to, in its section's own numbering (R81): engine, queue,
slot position, region, fault ID, assignment, watchdog, producer, port, sensor, lock or offset. -/
def itemOf (store : SMap Word) (key : Nat) : Nat :=
  let d := keyDie key
  let b := keyBlk key
  let o := keyOff key
  let t := sectionOf key
  if t = 3 then engAt d (if b = 0x32 then (o - 0x100) / 0x10 else b - 0x10)
  else if t = 4 then (store.get csrReset key).toNat % 512
  else if t = 5 then o - 0x4000
  else if t = 6 then
    if b = 0x31 && decide (o < 0x100) then o - 8 else (o % 0x100 - 0x40) % 0x60 / 6
  else if t = 7 then (if decide (0x4000 ≤ o) then (store.get csrReset (key - key % 4)).toNat else 0)
  else if t = 8 then (if decide (0x300 ≤ o) then (o - 0x300) / 8 else (o - 0x100) / 0x10)
  else if t = 9 then
    if decide (o < 0x200) then 0
    else if d = 0 then wdtAt d o else (wdtAt d o - 256) / 2
  else if t = 10 then o - 4
  else if t = 12 then portItem b o
  else if t = 13 then (if b = 0x07 && decide (0xA ≤ o) && decide (o < 0xD) then o - 0xA else 0)
  else if t = 14 then (o - 0x30) / 6
  else o

/-- The registers that a section gives, of those that belong to it (R71). -/
def sectionWrites (t : Nat) (body : List Word) : List (Nat × Word) :=
  (Config.sectionRegs t body).filter (fun c => sectionOf c.1 == t && rwlMask c.1 != 0)

/-- The bits of a register word that an image gives: its RW-L bits, but LAT_PCTRL.GO, which reads 0 (R141). -/
def imageMask (key : Nat) : Word := if key = csrKey 0 0x07 0x18 then rwlMask key &&& 2 else rwlMask key

/-- The register file that an image gives: every structure-image register at its reset value but for those
that a section lays out; bits that are not RW-L stay as they are (R67, R77, R567). -/
def State.loadedStore (s : State) (xs : List Section) : SMap Word :=
  xs.foldl (fun (m : SMap Word) x =>
    (sectionWrites x.type (s.sectionBody x)).foldl (fun (m : SMap Word) c =>
      let k := imageMask c.1
      m.set csrReset c.1 ((m.get csrReset c.1 &&& ~~~k) ||| (c.2 &&& k))) m) (clearRwl s.csr.store)

/-- A reserved combination of fields in different words of a section (R568). -/
def State.comboOf (s : State) (t : Nat) : Refusing :=
  if t = 6 then s.comboMaps else if t = 8 then s.comboCvu else if t = 9 then s.comboWdts
  else if t = 11 then s.comboLedger else if t = 12 then s.comboPorts else none

/-- Every field of one section against its encoding (R77, R568); `s` holds the loaded registers. -/
def State.loadEncoding (s : State) (body : List Word) (t : Nat) : Refusing :=
  if t = 2 then (if (Config.diesMarks body).isNone then some (areaCode 2, noItem 2) else none)
  else
    firstRefusal
      [firstBad (areaCode t) ((sectionWrites t body).mergeSort (fun a b => decide (a.1 ≤ b.1)))
        (fun c => badEnc s.csr.live c.1) (fun c => cfgDetail t (keyDie c.1) (itemOf s.csr.live c.1)),
       s.comboOf t]

/-- A register file in force, for the judging of its encodings. -/
def State.withLive (s : State) (m : SMap Word) : State := { s with csr := { s.csr with live := m } }

/-- What stops a load, if anything does (R77): validity word, flash reads, container, signatures, encodings. -/
def State.loadCheck (s : State) (slot : Bool) : Refusing :=
  if !s.slotValid 1 slot then some (0x010C, noItem 0)
  else if s.rangeBad (slotWord 1 slot) (slotSize 1) then some (0x010D, noItem 0)
  else
    match s.loadContainer slot with
    | some r => some r
    | none =>
      match s.loadSigned slot with
      | some r => some r
      | none =>
        let xs := s.sections slot
        let t := s.withLive (s.loadedStore xs)
        firstRefusal (xs.map (fun x => t.loadEncoding (s.sectionBody x) x.type))

/-- The loader's reads of flash are noted by the G-code decoder (R315, R316): correctable codewords are
corrected and counted, uncorrectable ones counted. -/
def State.loadReads (s : State) (slot : Bool) : State :=
  let b := slotWord 1 slot
  (s.mem.errs.filter (fun c => decide (b / 8 ≤ c.1) && decide (8 * c.1 < b + slotSize 1))).foldl
    (fun (s : State) c => s.readNote c.1 0x100 false) s

end Sys2Proof.Machine
end

