-- ==== Sys2Proof/Machine/Sifter.lean ====
section
/-!
DEFINITION. The Sifters: batches, the arithmetic of a point, its merge into a column, and the commands
(R107 to R122).
-/

namespace Sys2Proof.Machine

/-! ### Streams and batches (R107 to R111) -/

/-- Base offset of a Sifter's registers (R139). -/
def sftOff (n : Nat) : Nat := 0x100 * n

/-- The Sifter is enabled, Sifter 1's clock is not gated off, and no power loss holds it in reset (R130, R139, R550). -/
def State.sftOn (s : State) (n : Nat) : Bool :=
  s.flagL 0 0x06 (sftOff n) 0 && (n == 0 || s.flagL 0 0x01 1 5) && !s.shed

/-- Header queue of stream input m (R139). -/
def State.hdrQ (s : State) (n m : Nat) : Nat := s.fldL 0 0x06 (sftOff n + 4 + m) 7 0
/-- Point queue of stream input m (R139). -/
def State.ptQ (s : State) (n m : Nat) : Nat := s.fldL 0 0x06 (sftOff n + 4 + m) 15 8

/-- The next enabled stream input after the one served last, in cyclic order, with a header pop-visible
(R110). -/
def State.nextInput (s : State) (n : Nat) : Option Nat :=
  ((List.range 4).map (fun i => ((s.sft n).lastInput.toNat + 1 + i) % 4)).find? (fun m =>
    s.flagL 0 0x06 (sftOff n) (1 + m) && (s.head 0 (s.hdrQ n m)).isSome)

/-- Whole batches are popped and discarded with no counter: in BOOT and LOADED, and before the intake cutoff
of frame 0 (R111). -/
def State.quietIntake (s : State) : Bool := !s.cfg.state.supervising || (s.lat.fn == 0 && !s.lat.cutoff)

/-- The header words are those of a point message (R107, R111). -/
def headerOk (ws : List Word) : Bool :=
  wordAt ws 0 == 0x5035 && decide (1 ≤ (wordAt ws 1).toNat) && decide ((wordAt ws 1).toNat ≤ 800) &&
    wordAt ws 6 == 0 && wordAt ws 7 == 0

/-- SFT_DBATCH advances (R111). -/
def State.dBatch (s : State) (n : Nat) : State := s.modSft n (fun k => { k with dBatch := satInc k.dBatch })

/-- A batch of an input as its header opens it. -/
def openBatch (m : Nat) (ws : List Word) (discard : Bool) : BatchSt :=
  { input := BitVec.ofNat 2 m, count := (wordAt ws 1).toNat,
    ptime := BitVec.ofNat 48 (ofWordsLow [wordAt ws 2, wordAt ws 3, wordAt ws 4]), taken := 0, off := 0,
    discard := discard }

/-- The next batch of an input waits for its point 0: its header opens a batch that is taken, and no point flit is
pop-visible yet (R110). -/
def State.batchWaits (s : State) (n m : Nat) (f : Flit) : Bool :=
  !s.quietIntake && headerOk f.words && !f.poison && !f.last && (s.head 0 (s.ptQ n m)).isNone

/-- A Sifter turns to its next batch: the header is popped and judged (R111), in the CK2 that takes point 0 where it is
taken (R110). A poisoned header is discarded (R294) and counts as a malformed one (assumption 8). -/
def State.batchStart (s : State) (n : Nat) : State :=
  if (s.sft n).batch.isSome || !s.sftOn n then s
  else
    match s.nextInput n with
    | none => s
    | some m =>
      match s.head 0 (s.hdrQ n m) with
      | none => s
      | some f =>
        if s.batchWaits n m f then s
        else
        let s := (s.popHead 0 (s.hdrQ n m)).modSft n (fun k => { k with lastInput := BitVec.ofNat 2 m })
        let quiet := s.quietIntake
        let good := headerOk f.words && !f.poison
        let s := if !quiet && (!good || f.last) then s.dBatch n else s
        if f.last then s
        else s.modSft n (fun k => { k with batch := some (openBatch m f.words (quiet || !good)) })

/-- The batch ends. -/
def State.batchEnd (s : State) (n : Nat) : State := s.modSft n (fun k => { k with batch := none })

/-- What the visible point flits give the next point: its five words, how many flits they use up, where the
next point begins, and whether the last flit touched is marked LAST; or the end of the message before five
words; or too few visible flits. A poisoned flit gives no words (R294). -/
inductive Gather where
  | point (ws : List Word) (pops : Nat) (off : Nat) (last : Bool)
  | short (pops : Nat)
  | wait
deriving DecidableEq, Repr

/-- Gathering the five words of a point from the visible flits (R108, R110). -/
def gather : List Flit → Nat → List Word → Nat → Gather
  | [], _, _, _ => .wait
  | f :: fs, off, acc, pops =>
    let ws := if f.poison then [] else f.words.drop off
    let need := 5 - acc.length
    if need ≤ ws.length then .point (acc ++ ws.take need) pops (8 - ws.length + need) f.last
    else if f.last then .short (pops + 1)
    else gather fs 0 (acc ++ ws) (pops + 1)

/-- Popping flits from a hub queue. -/
def State.popN (s : State) (q : Nat) : Nat → State
  | 0 => s
  | k + 1 => (s.popHead 0 q).popN q k

/-! ### The arithmetic of a point (R108, R112 to R119) -/

/-- A P5 record (R108). -/
structure Point where
  x : Int
  y : Int
  z : Int
  t : Nat
  w4 : Word
deriving DecidableEq, Repr

/-- The record of five words. -/
def pointOf (ws : List Word) : Point :=
  { x := (wordAt ws 0).toInt, y := (wordAt ws 1).toInt, z := (wordAt ws 2).toInt, t := (wordAt ws 3).toNat,
    w4 := wordAt ws 4 }

/-- SENS (R108). -/
def Point.sens (p : Point) : Nat := bits p.w4.toNat 11 8
/-- The intensity class INT >> 4 (R116). -/
def Point.cls (p : Point) : Nat := bits p.w4.toNat 7 4

/-- A word of a sensor's transform (R140). -/
def State.xform (s : State) (n sens k : Nat) : Int := (s.live 0 0x06 (sftOff n + 0x40 + 12 * sens + k)).toInt

/-- One coordinate of the sensor transform, row k (R113). -/
def State.xfRow (s : State) (n sens k : Nat) (p : Point) : Int :=
  rnd14 (10 * (s.xform n sens (3 * k) * p.x + s.xform n sens (3 * k + 1) * p.y + s.xform n sens (3 * k + 2) * p.z)) +
    10 * s.xform n sens (9 + k)

/-- The reasons for which a point is dropped, in order (R119). -/
inductive Drop where
  | mism | badSens | badFmt | noise | future | late | outZ | outGrid
deriving DecidableEq, Repr

/-- Counting a drop in the Sifter (R119, R139). -/
def SifterSt.count (k : SifterSt) : Drop → SifterSt
  | .mism => { k with dMism := satInc k.dMism }
  | .badSens => { k with dSens := satInc k.dSens }
  | .badFmt => { k with dFmt := satInc k.dFmt }
  | .noise => { k with dNoise := satInc k.dNoise }
  | .future => { k with dFut := satInc k.dFut }
  | .late => { k with dLate := satInc k.dLate }
  | .outZ => { k with dOutZ := satInc k.dOutZ }
  | .outGrid => { k with dGrid := satInc k.dGrid }

/-- The newest published sample of a table (R114). -/
def MotionTable.newest (m : MotionTable) : Option MotionSample :=
  m.samples.foldl (fun (a : Option MotionSample) x => match x.2 with | some v => some v | none => a) none

/-- The sample a point with index k uses, and whether it is a substitute (R114). -/
def MotionTable.pick (m : MotionTable) (k : Int) : MotionSample × Bool :=
  match m.samples.get (dflt none) (k + 40).toNat with
  | some v => (v, false)
  | none => (m.newest.getD sampleZero, true)

/-- Where a point falls: its indices and band (R115, R116). -/
structure Cell where
  i : Int
  j : Int
  b : Int
deriving DecidableEq, Repr

/-- The ego-motion correction and the column and band (R115, R116). -/
def cellOf (m : MotionSample) (xv yv zv : Int) : Cell :=
  let xe := rnd14 (m.ec.toInt * xv - m.es.toInt * yv) + m.ex.toInt
  let ye := rnd14 (m.es.toInt * xv + m.ec.toInt * yv) + m.ey.toInt
  { i := 1024 + ye / 100, j := 512 + xe / 100, b := (zv + 500) / 500 }

/-- The offset of column (i, j) within its slot (R126). -/
def columnOff (i j : Nat) : Nat := (j / 4 * 512 + i / 4) * 16 + j % 4 * 4 + i % 4

/-- Merging a point of class c and band b into a column word (R118, R125). -/
def mergeColumn (w : Word) (c b : Nat) : Word :=
  let cls := max (bits w.toNat 3 0) c
  let cnt := min (bits w.toNat 7 4 + 1) 15
  BitVec.ofNat 16 (cls + 16 * cnt) ||| (w &&& 0xFF00) ||| BitVec.ofNat 16 (2 ^ (8 + b))

/-- The frame a point goes to: the open one before the intake cutoff, else the next (R102). -/
structure FrameRef where
  next : Bool
  fn : BitVec 32
  tOpen : BitVec 48
  table : MotionTable

/-- CK1 from the take of a point to the first CK2 of stage 5, at which its motion sample is judged (R114, R121). -/
abbrev stage5Ck1 : Nat := 14 * ck2
/-- CK1 from the take of a point to the end of stage 8, at which an error of the column read is found (R120, R121). -/
abbrev stage8Ck1 : Nat := 585 * ck2

/-- The motion table of a frame as stage 5 of a point taken now meets it: with the formed sample whose publication falls
due before it (R114, R123; assumption 122). -/
def State.stage5Table (s : State) (next : Bool) : MotionTable :=
  let m := if next then s.lat.motNext else s.lat.motCur
  let opening := if next then s.boundaryAt else s.lat.openAt
  let dueAt : Nat → Nat := fun key => opening + max key 39 * sampleStepCk1 + publishCk1 - 40 * sampleStepCk1
  m.formed.foldl (fun (a : MotionTable) x =>
    if decide (s.now < dueAt x.1) && decide (dueAt x.1 ≤ s.now + stage5Ck1) then a.publish x.1 else a) m

/-- The frame that takes points now. -/
def State.frameRef (s : State) : FrameRef :=
  if s.lat.cutoff then ⟨true, s.lat.fn + 1, s.lat.nextBTime, s.stage5Table true⟩
  else ⟨false, s.lat.fn, s.lat.bTime, s.stage5Table false⟩

/-- Changing what the frame of a point gathers for its notice. -/
def State.modAcc (s : State) (next : Bool) (f : FrameAcc → FrameAcc) : State :=
  if next then { s with lat := { s.lat with next := f s.lat.next } }
  else { s with lat := { s.lat with cur := f s.lat.cur } }

/-- A point is dropped: its Sifter's counter and the frame's DROPPED; MISM is reported (R117, R119). -/
def State.dropPoint (s : State) (n : Nat) (next : Bool) (d : Drop) : State :=
  let s := (s.modSft n (fun k => k.count d)).modAcc next (fun a => { a with dropped := satInc a.dropped })
  if d = .mism then s.raise 0 0x06 (1 + n) else s

/-- Every column word of a codeword reads 0xFFFF after an uncorrectable error (R120). -/
def State.markColumns (s : State) (cw : Nat) : State :=
  (s.wrs (8 * cw) (List.replicate 8 0xFFFF)).setClass cw .none

/-- The column of a point that commits: its line is read, merged and stored whole (R308). An uncorrectable codeword of the
line is marked and reported instead, at the first CK4 edge after stage 8, and stays marked under the merge (R118,
R120). -/
def State.commitColumn (s : State) (next : Bool) (a cls b : Nat) : State :=
  let line := a / 32 * 32
  let bad := (codewords line 32).filter (fun cw => (s.classAt cw).uncorrectable)
  let s := (s.readCheck line 32 0x100 false).1
  let s :=
    if bad.isEmpty then s
    else
      (s.modAcc next (fun k => { k with hbmErr := true })).during (edgeUp s ck4 (s.now + stage8Ck1)) (fun (s : State) =>
        s.raise 0 0x06 4)
  if s.lostAt a then s
  else
    let s := bad.foldl State.markColumns s
    (if bad.contains (a / 8) then s else s.wr a (mergeColumn (s.rd a) cls b)).recode a 1

/-- The address of a cell's column in the slot that a frame number names. -/
def State.columnAddr (s : State) (fn : BitVec 32) (c : Cell) : Nat :=
  s.slotBase (slotOfFn fn).toNat + columnOff c.i.toNat c.j.toNat

/-- What the protection unit's answer makes of a point that commits (R118, R344). -/
def State.commitAs (s : State) (n : Nat) (next : Bool) (a sens cls b : Nat) (r : Option Refused) : State :=
  match r with
  | some r => s.mpuViol 0 n r true
  | none =>
    (s.modAcc next (fun k => { k with binned := k.binned + 1, sensors := setBit k.sensors sens true })).commitColumn
      next a cls b

/-- The update of a column: refused where the Sifter's protection unit forbids the write (R344); an
uncorrectable codeword is written 0xFFFF and reported, another takes the merged word (R118, R120). -/
def State.commitPoint (s : State) (n : Nat) (next : Bool) (fn : BitVec 32) (sens cls : Nat) (c : Cell) : State :=
  s.commitAs n next (s.columnAddr fn c) sens cls c.b.toNat
    (s.mpuCheck (s.dieUnit 0 n) .write false [[s.columnAddr fn c]])

/-- Running one point through a Sifter; `mism` is what its two datapaths say of each other (R113 to R120). -/
def State.runPoint (s : State) (n m : Nat) (ptime : BitVec 48) (p : Point) (mism : Bool) : State :=
  let f := s.frameRef
  let t := ptime + BitVec.ofNat 48 p.t
  let k : Int := (t - f.tOpen).toInt / 125
  let sensOk := s.flagL 0 0x06 (sftOff n + 8 + m) p.sens && s.flagL 0 0x06 (sftOff n + 2) p.sens
  let early : Option Drop :=
    if !sensOk then some .badSens
    else if p.w4.getLsbD 15 then some .badFmt
    else if p.w4.getLsbD 14 then some .noise
    else if 0 < (t - s.timeUs).toInt then some .future
    else if k < -40 then some .late
    else none
  let s := s.modSft n (fun k => { k with taken := k.taken + 1 })
  match early with
  | some d => s.dropPoint n f.next (if mism then .mism else d)
  | none =>
    let x := f.table.pick k
    let s := if x.2 then s.modSft n (fun k => { k with extrap := satInc k.extrap }) else s
    let c := cellOf x.1 (s.xfRow n p.sens 0 p) (s.xfRow n p.sens 1 p) (s.xfRow n p.sens 2 p)
    if mism then s.dropPoint n f.next .mism
    else if c.b < 0 ∨ 7 < c.b then s.dropPoint n f.next .outZ
    else if c.i < 0 ∨ 2047 < c.i ∨ c.j < 0 ∨ 2047 < c.j then s.dropPoint n f.next .outGrid
    else s.commitPoint n f.next f.fn p.sens p.cls c

/-- Taking one point of the batch, where its words are pop-visible; the batch ends with its last point, at
a flit marked LAST before it, or goes on as a discard of what follows (R110, R111). Poisoned flits at the head of the queue
are discarded first, and one marked LAST ends the message (R294). -/
def State.pointTake (s : State) (n : Nat) (mism : Bool) : State :=
  match (s.sft n).batch with
  | none => s
  | some b =>
    if b.discard then s
    else
      let q := s.ptQ n b.input.toNat
      let x := s.dropPoison 0 q (s.queueOf 0 q).flits.length
      let s := x.1
      if x.2 then (s.dBatch n).batchEnd n
      else
        match gather ((s.queueOf 0 q).visible s.now) b.off [] 0 with
        | .wait => s
        | .short pops => ((s.popN q pops).dBatch n).batchEnd n
        | .point ws pops off last =>
          let s := s.runPoint n b.input.toNat b.ptime (pointOf ws) mism
          let final := decide (b.count ≤ b.taken + 1)
          let whole := final || off == 8
          let s := s.popN q (pops + b2n whole)
          if final then
            if last then s.batchEnd n
            else (s.dBatch n).modSft n (fun k =>
              { k with batch := some { b with taken := b.taken + 1, off := 0, discard := true } })
          else if whole && last then (s.dBatch n).batchEnd n
          else s.modSft n (fun k =>
            { k with batch := some { b with taken := b.taken + 1, off := if whole then 0 else off } })

/-- One pop of a discard; the flit marked LAST ends it (R111). -/
def State.discardPop (s : State) (n : Nat) : State :=
  match (s.sft n).batch with
  | none => s
  | some b =>
    if !b.discard then s
    else
      match s.head 0 (s.ptQ n b.input.toNat) with
      | none => s
      | some f =>
        let s := s.popHead 0 (s.ptQ n b.input.toNat)
        if f.last then s.batchEnd n else s

/-- A batch being taken when DISABLE takes effect: the rest is popped and discarded with no counter (R106,
R111). -/
def State.dropBatches (s : State) : State :=
  let f : SifterSt → SifterSt := fun k => { k with batch := k.batch.map (fun b => { b with discard := true }) }
  (s.modSft 0 f).modSft 1 f

/-! ### The commands -/

/-- SIFTER_BATCH_START (R109 to R111). -/
def execSifterBatchStart (t : Nat) (n : Bool) (s : State) : Host.Outcome State Fault Refusal :=
  .next ((s.to t).batchStart (sftNo n))

/-- SIFTER_POINT_TAKE (R110 to R120). -/
def execSifterPointTake (t : Nat) (n mism : Bool) (s : State) : Host.Outcome State Fault Refusal :=
  .next ((s.to t).pointTake (sftNo n) mism)

/-- SIFTER_DISCARD_POP (R111). -/
def execSifterDiscardPop (t : Nat) (n : Bool) (s : State) : Host.Outcome State Fault Refusal :=
  .next ((s.to t).discardPop (sftNo n))

end Sys2Proof.Machine
end

