-- ==== Sys2Proof/Machine/Cfg.lean ====
section
/-!
DEFINITION. Loads, checks and the commit (R66, R77 to R84, R87), and what each leaves to the choice of slots at
boot (R451, R453, R461).
-/

namespace Sys2Proof.Machine

/-! ### Results that refuse (R78, R84, R86, R87) -/

/-- A refusal is recorded: reason, item and count (R84, R90). -/
def State.cfgResult (s : State) (code : Nat) (item : BitVec 32) : State :=
  { s with cfg := { s.cfg with
    job := none, reason := BitVec.ofNat 16 code, detail := item, refused := satInc s.cfg.refused } }

/-- A single write is refused: reason and count only (R86). -/
def State.cfgSingle (s : State) (code : Word) : State :=
  { s with cfg := { s.cfg with reason := code, refused := satInc s.cfg.refused } }

/-- Boot has a slot in hand: no commit since the device reset, and no management command runs (R461). -/
def State.booting (s : State) : Bool := s.boot.commitAt.isNone && s.cfg.running.isNone

/-- STAGE is HALT_IMAGE where no image slot is left to try (R453). -/
def State.haltImage (s : State) : State :=
  if (s.bootKind 1).cand.isEmpty && [1, 2, 3].contains s.boot.stage.toNat then
    { s with boot := { s.boot with stage := 11 } }
  else s

/-- The try of an image slot has failed at boot (R461, R470). -/
def State.imageFailed (s : State) (slot : Bool) (code : Nat) : State :=
  if s.booting && s.bootTries 1 slot then (s.bootFailed 1 slot code).haltImage else s

/-- A load fails: no register changes (R78). -/
def State.loadFail (s : State) (slot : Bool) (code : Nat) (item : BitVec 32) : State :=
  let s := s.cfgResult code item
  let s := s.imageFailed slot (if code = 0x010C then 1 else if code = 0x010D then 5 else 6)
  s.finishRun 0 [BitVec.ofNat 16 code]

/-- The check refuses the structure (R84). -/
def State.checkRefuse (s : State) (code : Nat) (item : BitVec 32) : State :=
  let s := s.cfgResult code item
  let s := (s.bbxReq 0x09 (s.imageBody false)).raise 0 0x02 1
  let s := s.imageFailed s.cfg.stagedSlot 6
  s.finishRun 0 [BitVec.ofNat 16 code]

/-! ### Starting a load or a check (R77, R80, R87) -/

/-- A load starts, or is refused by the state at once (0x0F04, 0x0F06; assumption 17). -/
def State.loadGo (s : State) (slot thenCheck : Bool) : State :=
  if !s.cfg.state.open then s.loadFail slot 0x0F04 (noItem 0)
  else if s.life = 3 then s.loadFail slot 0x0F06 (noItem 0)
  else
    let s := if s.booting then s.bootTry 1 slot else s
    { s with cfg := { s.cfg with job := some ⟨true, thenCheck, slot, s.now, false⟩ } }

/-- The check starts. -/
def State.checkRun (s : State) : State :=
  { s with cfg := { s.cfg with job := some ⟨false, false, s.cfg.stagedSlot, s.now, false⟩ } }

/-- The check starts, or is refused by the state at once (0x0F02, 0x0F03, 0x0F06). -/
def State.checkGo (s : State) : State :=
  if !s.cfg.state.open then s.checkRefuse 0x0F02 (noItem 0)
  else if !s.cfg.staged then s.checkRefuse 0x0F03 (noItem 0)
  else if s.life = 3 then s.checkRefuse 0x0F06 (noItem 0)
  else s.checkRun

/-- A write of CFG_CTRL (R87, R88). -/
def State.cfgCtrl (s : State) (v : Word) : State :=
  if !(v.getLsbD 0 || v.getLsbD 1) then s
  else if v.getLsbD 1 then s.loadGo (v.getLsbD 2) (v.getLsbD 0)
  else s.checkGo

/-! ### The end of a load (R77, R451, R453) -/

/-- STAGE once an image is staged: STAGED, PLACED where the modules stand already, or HALT_HBM with its entry
where a stack is dead (R453, R469). -/
def State.stagedStage (s : State) : State :=
  if !([1, 2, 3, 11].contains s.boot.stage.toNat) then s
  else if s.stackFailed then s.haltHbm
  else { s with boot := { s.boot with stage := if s.boot.placed then 3 else 2 } }

/-- Firmware applies R456 to the newly staged LOCKS over the modules as placed: an image under which one
breaks it counts as refused (R451). -/
def State.relock (s : State) : State :=
  if s.boot.placed && !s.modulesOk (s.bootKind 0).slot then s.imageFailed s.cfg.stagedSlot 6 else s

/-- The image is staged (R77). -/
def State.loadDone (s : State) (j : CfgJob) : State :=
  let b := slotWord 1 j.slot
  let xs := s.sections j.slot
  let ss := xs.filter Section.isSealed
  let store := s.loadedStore xs
  let marks := ((xs.find? (fun x => x.type == 2)).bind (fun x => Config.diesMarks (s.sectionBody x))).getD 0
  let s := { s with
    csr := { s.csr with store := store }
    cfg := { s.cfg with
      state := .loaded, job := none, staged := true, stagedSlot := j.slot, edited := false, changed := false, reason := 0
      imgVer := s.rd32 (b + 6), epoch := (ss.head?.map (fun (x : Section) => x.epoch)).getD 0, marks := marks
      sealHash := ss.map (fun (x : Section) => (x.type, sectionHash store x.type)), presentAtLoad := s.present } }
  let s := (s.bootUse 1 j.slot).stagedStage.relock
  if j.thenCheck then s.checkRun else s.finishRun 0 [0]

/-- LOAD_COMPLETE: the loader's checks end (R77). -/
def State.loadComplete (s : State) : State :=
  match s.cfg.job with
  | none => s
  | some j =>
    if !j.loading then s
    else
      let s := s.loadReads j.slot
      match s.loadCheck j.slot with
      | some (code, item) => s.loadFail j.slot code item
      | none => s.loadDone j

/-! ### The commit (R83) -/

/-- The queues of the structure: emptied, each with its depth, consumer, producers and shares (R282, R296). -/
def State.queueCommit (s : State) : State :=
  let bs := s.bindings
  let qs := (bs.map (fun b => 512 * b.die + b.q)).eraseDups
  let mk : Nat → QueueSt := fun k =>
    let mine := ofQueue bs (k / 512) (k % 512)
    let q : QueueSt :=
      { depth := s.depthOf (k / 512) (k % 512)
        consumer := (mine.find? (fun b => b.cons)).map (fun b => b.agent)
        producers := producersOf mine }
    { q with credits :=
        (List.range q.producers.length).foldl (fun (m : SMap Nat) i => m.set (dflt 0) i (q.share i)) [] }
  { s with queue := qs.foldl (fun (m : SMap QueueSt) k => m.set (dflt {}) k (mk k)) [] }

/-- One receive and one transmit assignment at a commit: INIT, RUNLEN 0, the timer loaded, the counter at 0, and a message
that is being popped discarded (R393, R395). -/
def State.assignCommit (s : State) (p a : Nat) : State :=
  let due := s.tmoDue (s.rxAssign p a).tmo
  (s.modRx p a (fun r => { r with run := false, runLen := 0, dueAt := due })).modTx p a
    (fun u => { u with ctr := 0, flits := [], bad := false })

/-- The CVUs and the port dies at a commit (R395, R527). -/
def State.portCommit (s : State) (p : Nat) : State :=
  let s := (List.range 16).foldl (fun (s : State) a => s.assignCommit p a) s
  (s.modPdie p (fun x => { x with waiting := [], room := 0 })).modT1s p (fun x => { x with beaconAt := s.now })

/-- A watchdog starts at the commit edge, where its engine runs (R441). -/
def State.wdtCommit (s : State) (k : Nat) : State :=
  if k < 256 || s.coreLive (k - 256) then s.wdtStart k s.now else s

/-- The first issue of an engine that a commit starts, 256 CK1 after the edge (R452). -/
def State.engStart (s : State) (e : Nat) : State :=
  let r := s.now + engResetCk1
  let go : State → Nat → State := fun s c => s.modCore c (fun k => k.afterReset (s.engBoot c) 0 r)
  if bit (s.lksMode e) 0 then
    (go (go ((s.modEng e (fun x => { x with state := .split })).lksDisarm e) (2 * e)) (2 * e + 1)).takeCkpt e
  else (go (s.modEng e (fun x => { x with state := .locked, windowAt := r, armAt := r })) (2 * e)).takeCkpt e

/-- An engine at a commit: one that is gated is held in reset, one that stands in reset and is neither gated,
fenced nor in TESTFAIL starts, one that runs goes on (R51, R366, R452). -/
def State.engCommit (s : State) (e : Nat) : State :=
  let hold : CoreSt → CoreSt := fun c => { c with runst := .reset }
  if (s.engOf e).state = .fenced || (s.engOf e).state = .testfail then s
  else if s.gatedEng e then ((s.modCore (2 * e) hold).modCore (2 * e + 1) hold).wdtStop e
  else if s.engHere e && (s.coreOf (2 * e)).runst == .reset then s.engStart e
  else s

/-- A die or an engine is fenced, so the structure starts DEGRADED (R32, R66). -/
def State.anyFenced (s : State) : Bool :=
  (List.range 8).any (fun d => !s.dieUp d) || engines.any (fun e => (s.engOf e).state == .fenced)

/-- The tamper settings that a commit puts on VBAT; bits 0 and 5 of ZER read 1 from PROVISIONED, all read 0 in
MANUFACTURE (R482, R496). -/
def State.tamperCommit (s : State) : State :=
  let z : BitVec 8 := (s.live 0 0x0B 0x11).setWidth 8
  { s with cus := { s.cus with
    tcfg := (s.live 0 0x0B 0x10).setWidth 8, tresp := if s.provisioned then z ||| 0x21 else 0 } }

/-- What the CFG block and the boot registers take at the commit edge (R83, R462, R469). -/
def State.cfgCommit (s : State) : State :=
  let digest := digestOf s.csr.store
  let first := s.boot.commitAt.isNone
  let ms := (s.now - s.boot.startAt) / msCk1
  { s with
    csr := { s.csr with live := s.csr.store }
    cfg := { s.cfg with job := none, reason := 0, digest := digest, state := if s.anyFenced then .degraded else .run }
    boot := { s.boot with
      commitAt := some s.now, slotCommitted := !s.cfg.changed, stage := 4
      bootMs := if first then (if ms < 65536 then BitVec.ofNat 16 ms else 0xFFFF) else s.boot.bootMs } }

/-- The parts of the device that start or restart at the commit edge (R83, R106, R155, R296, R309, R395, R407,
R420, R441, R452). -/
def State.blocksCommit (s : State) : State :=
  let s := ((s.queueCommit.portCommit 0).portCommit 1).frameStart.keepArr.msCommit
  let s := { s with
    vdg := { s.vdg with sealedOnce := false, pending := false, prod := [], decision := ⟨.stop, 0⟩, mseq := 0 }
    hbm := { s.hbm with switchDue := true }
    crb := { s.crb with
      mapLive := true
      eout := s.crb.eout.command (edgeUp s ck4 s.now + 26 * ck4) true } }
  let s := (s.modSft 0 (fun k => { k with batch := none })).modSft 1 (fun k => { k with batch := none })
  let s := engines.foldl State.engCommit s
  (([0, 1] ++ (List.range 256).map (fun c => 256 + c)).foldl State.wdtCommit s).tamperCommit

/-- An accepted structure commits at the first CK8 edge (R83): its record, its entry and its response. -/
def State.commit (s : State) : State :=
  let s := ((s.to (edgeUp s ck8 s.now)).handed 0).handed 1
  let slot := s.cfg.stagedSlot
  let cause := if s.booting && s.bootTries 1 slot && s.fellBack 1 slot then 4 else 1
  let s := (s.bootUse 1 slot).modBootKind 1 (fun b => { b with cand := [] })
  let s := s.cfgCommit.blocksCommit.dbgClose
  let s := (s.configRecord cause slot).bbxReq 0x09 (s.imageBody true)
  s.finishRun 0 [0]

/-- What the check finds, in the order of R80; an RW-L register written while it ran refuses it (R87). -/
def State.checkResult (s : State) (j : CfgJob) : Refusing :=
  firstRefusal
    [s.checkPresence, if j.rwlWritten then some (0x0F08, noItem 0) else none, s.asStored.checkAreas]

/-- CHECK_COMPLETE: the check accepts and commits, or refuses with one reason (R80, R83, R84). -/
def State.checkComplete (s : State) : State :=
  match s.cfg.job with
  | none => s
  | some j =>
    if j.loading then s
    else
      match s.checkResult j with
      | some (code, item) => s.checkRefuse code item
      | none => s.commit

/-! ### DISABLE (R98) -/

/-- DISABLE takes the device from RUN to LOADED; STOP is forced at the first CK4 edge after it (R98, R106, R160). -/
def State.disable (s : State) : State :=
  let s := { s with cfg := { s.cfg with state := .loaded } }
  let s := ((s.eoutFault false).forceStop (edgeUp s ck4 (s.now + 1)) true).frameStop.dropBatches
  s.configRecord 2 s.cfg.stagedSlot

/-! ### The commands -/

/-- LOAD_COMPLETE (R77, R78). -/
def execLoadComplete (t : Nat) (s : State) : Host.Outcome State Fault Refusal := .next (s.to t).loadComplete

/-- CHECK_COMPLETE (R80, R83, R84). -/
def execCheckComplete (t : Nat) (s : State) : Host.Outcome State Fault Refusal := .next (s.to t).checkComplete

end Sys2Proof.Machine
end

