-- ==== Sys2Proof/Machine/Dies.lean ====
section
/-!
DEFINITION. The dies, the pretzel ring, the links and the clocks as commands (R19 to R40, R46 to R56, R65).
-/

namespace Sys2Proof.Machine

/-! ### Enumeration (R22 to R24) -/

/-- The ring address that belongs to a position (R22). -/
def addrAt (p : Nat) : Nat :=
  if p = 1 then 1 else if p = 2 then 2 else if p = 3 then 5 else if p = 4 then 7 else if p = 5 then 6
  else if p = 6 then 3 else if p = 7 then 4 else 0

/-- The position that belongs to a ring address (R22). -/
def positionOf (a : Nat) : Nat :=
  if a = 1 then 1 else if a = 2 then 2 else if a = 5 then 3 else if a = 7 then 4 else if a = 6 then 5
  else if a = 3 then 6 else 7

/-- The type code of a ring address (R22, R34). -/
def typeOf (a : Nat) : Nat := if a = 0 then 0 else if a ≤ 4 then 1 else if a ≤ 6 then 2 else 3

/-- A die's answer on a lane, within the 40 µs of enumeration: its position is h clockwise and 8 − h
counter-clockwise (R22, R23). -/
def State.enumAnswer (s : State) (seat : Nat) (ccw : Bool) (hops : Nat) (type : BitVec 2) : State :=
  let live := match s.dies.enumAt with
    | some t => s.dies.enumEnd.isNone && decide (s.now < t + 40 * usCk1)
    | none => false
  if !live || seat == 0 then s
  else
    let a : EnumAns := ⟨if ccw then 8 - hops else hops, type⟩
    s.modDie seat (fun d => if ccw then { d with ansCcw := some a } else { d with ansCw := some a })

/-- What enumeration finds of a ring address (R24): present, the row of the outcome, the lane bits and the
type code read. -/
structure EnumOut where
  present : Bool
  row : Nat
  lanes : Nat
  type : Nat
deriving DecidableEq, Repr

/-- The outcome of the answers of the die at a ring address (R24); one answer at a wrong position is taken by the row of
wrong positions (DESIGN CHOICE, assumption 115). -/
def enumOutcome (a : Nat) (d : DieSt) : EnumOut :=
  let right := fun (x : EnumAns) => addrAt x.position == a
  let typed := fun (x : EnumAns) => x.type.toNat == typeOf a
  match d.ansCw, d.ansCcw with
  | some x, some y =>
    if x.position != y.position || !right x then ⟨false, 2, 3, x.type.toNat⟩
    else if typed x && typed y then ⟨true, 0, 3, x.type.toNat⟩
    else ⟨false, 3, 3, (if typed x then y.type else x.type).toNat⟩
  | some x, none => if !right x then ⟨false, 2, 1, x.type.toNat⟩
    else if typed x then ⟨true, 1, 1, x.type.toNat⟩ else ⟨false, 3, 1, x.type.toNat⟩
  | none, some y => if !right y then ⟨false, 2, 2, y.type.toNat⟩
    else if typed y then ⟨true, 1, 2, y.type.toNat⟩ else ⟨false, 3, 2, y.type.toNat⟩
  | none, none => ⟨false, if a = 7 then 5 else 4, 0, 0⟩

/-- DIE_PRESENT latches what enumeration found of a ring address; CW and CCW of a die that did not become present name
the lanes on which it answered (R23, R24, R36; DESIGN CHOICE, assumption 115). -/
def State.enumLatch (s : State) (a : Nat) : State :=
  let o := enumOutcome a (s.die a)
  s.modDie a (fun d =>
    { d with present := o.present, cw := bit o.lanes 0, ccw := bit o.lanes 1,
             held := !o.present, hbArrived := false, hbMissed := 0, hbJudged := 0 })

/-- One ring address as enumeration ends: every row but the first is reported and entered in the biscuit tin, and a
die that is not present is fenced (R24, R26, R504). -/
def State.enumDie (s : State) (a : Nat) : State :=
  let o := enumOutcome a (s.die a)
  let s := if o.row = 0 then s
    else (s.raise 0 0x00 0x20).bbxReq 0x04
      [BitVec.ofNat 16 (positionOf a), BitVec.ofNat 16 o.row, BitVec.ofNat 16 o.lanes, BitVec.ofNat 16 o.type]
  if o.present then s else s.fenceDie a 1 0

/-- Enumeration ends 40 µs after its start: DIE_PRESENT latches; without the NV die boot halts (R23, R24,
R453). -/
def State.enumerationEnd (s : State) : State :=
  match s.dies.enumAt with
  | none => s
  | some t =>
    if s.dies.enumEnd.isSome || decide (s.now < t + 40 * usCk1) then s
    else
      let s := { s with dies := { s.dies with enumEnd := some s.now } }
      let s := [1, 2, 3, 4, 5, 6, 7].foldl State.enumDie ([1, 2, 3, 4, 5, 6, 7].foldl State.enumLatch s)
      if (s.die 7).fenced then { s with boot := { s.boot with phase := .halted, stage := 9 } } else s

/-! ### Heartbeats (R25) -/

/-- A heartbeat of a die arrives at the hub on either lane (R25). -/
def State.heartbeat (s : State) (d : Nat) : State :=
  if (s.die d).present && s.dies.enumEnd.isSome && d != 0 then s.modDie d (fun x => { x with hbArrived := true })
  else s

/-- The hub judges a die's next due time: a heartbeat, or a miss; the third miss in a row is reported once
for the loss (R25, R38). -/
def State.heartbeatDue (s : State) (d : Nat) : State :=
  match s.dies.enumEnd with
  | none => s
  | some t =>
    let x := s.die d
    if !x.present || d == 0 || decide (s.now < t + x.hbJudged * (256 * ck8)) then s
    else if x.hbArrived then
      s.modDie d (fun x => { x with hbArrived := false, hbMissed := 0, hbReported := false, hbJudged := x.hbJudged + 1 })
    else
      let fire := decide (2 ≤ x.hbMissed) && !x.hbReported
      let s := s.modDie d (fun x =>
        { x with hbMissed := x.hbMissed + 1, hbReported := x.hbReported || fire, hbJudged := x.hbJudged + 1 })
      let s := { s with dies := { s.dies with hbMiss := satInc s.dies.hbMiss } }
      if fire then s.raise 0 0x00 d else s

/-! ### Wide links (R19, R20, R26) -/

/-- The far end of a link of a die: die and link number, where the die has the link (R19). -/
def linkPeer (d n : Nat) : Option (Nat × Nat) :=
  if d = 0 then
    (if n ≤ 5 then some (n + 1, 0) else if n = 6 then some (7, 0) else none)
  else if n = 0 then some (0, if d = 7 then 6 else d - 1)
  else if n = 1 && isCompute d then some (partner d, 1)
  else none

/-- A link ends its training: it comes up at both ends, or the die at its far end is fenced; a hub link that
fails is LINK_FAIL of that die, and boot halts without the NV die (R20, R24, R26, R40, R453; a partner link: DESIGN
CHOICE, assumption 119). -/
def State.linkTrained (s : State) (d n : Nat) (ok : Bool) (repaired : BitVec 4) : State :=
  match linkPeer d n with
  | none => s
  | some (p, m) =>
    if s.dies.enumEnd.isNone || (s.link d n).up then s
    else if ok then
      (s.modLink d n (fun _ => { up := true, repaired := repaired })).modLink p m
        (fun _ => { up := true, repaired := repaired })
    else
      let far := if p = 0 then d else p
      let hub := d == 0 || p == 0
      let fid : Word := if hub then faultId 0 0 (0x10 + far) else 0
      let s := if hub then s.raise 0 0x00 (0x10 + far) else s
      let s := s.fenceDie far 2 fid
      if far = 7 && s.boot.phase == .rom then { s with boot := { s.boot with phase := .halted, stage := 9 } } else s

/-- The hub link to a die goes down at run time and cannot be repaired: LINK_FAIL, and the die is fenced at
the same edge (R26, R40). -/
def State.linkDown (s : State) (d : Nat) : State :=
  match linkPeer d 0 with
  | none => s
  | some (_, n) =>
    if d = 0 || !(s.link 0 n).up then s
    else
      let down : LinkSt → LinkSt := fun l => { l with up := false }
      (((s.modLink d 0 down).modLink 0 n down).raise 0 0x00 (0x10 + d)).fenceDie d 2 (faultId 0 0 (0x10 + d))

/-! ### Clocks (R46 to R56) -/

/-- The alignment marker: the first after a reset starts the dividers and the counts; every later one, 4,096 CK8 after
the one before, has every die check its dividers, `off` naming those not at phase 0 (R46, R47, R61, R65; ROOTLK, PLLA
and PLLB: DESIGN CHOICE, assumption 116). -/
def State.alignMarker (s : State) (off : BitVec 8) : State :=
  if s.clk.markers = 0 then
    let r := s.rebase
    let s := { r with
      clk := { r.clk with rootLk := true, rootAt := 0xFF, marker := r.now, markers := 1, lastWindow := r.now }
      time := { r.time with tick := 0 } }
    (List.range 8).foldl (fun (s : State) d => s.modDie d (fun x => { x with aligned := true, pllA := isPort d, pllB := isPort d })) s
  else if s.now < s.clk.marker + s.clk.markers * (4096 * ck8) then s
  else
    let s := { s with clk := { s.clk with markers := s.clk.markers + 1 } }
    (List.range 8).foldl (fun (s : State) d =>
      let bad := off.getLsbD d
      let s := s.modDie d (fun x => { x with aligned := !bad })
      if bad then s.raise d 0x01 1 else s) s

/-- The clock monitor trips: EOUT and VETO forced by its own path, EPULSE_N pulled, the causes latched (those of the
first trip since power-on stand), MON_TRIP where the tray is still clocked (R54; "still clocked": DESIGN
CHOICE, assumption 117). -/
def State.monTrip (s : State) (cause : BitVec 3) : State :=
  let s := { s with
    clk := { s.clk with
      forced := true, oscPulse := some s.now, monF := true
      monCause := if s.clk.monF then s.clk.monCause else cause }
    vdg := { s.vdg with forced := true, out := .stop } }
  if s.clk.rootLk then s.raise 0 0x01 2 else s

/-- A window of 128 OSC closes and is judged (R53, R64). -/
def State.monWindow (s : State) (ref ck8n : BitVec 8) (lockFell : Bool) : State :=
  let r := decide (ref.toNat < 112) || decide (144 < ref.toNat)
  let c := decide (ck8n.toNat < 105) || decide (135 < ck8n.toNat)
  let s := { s with clk := { s.clk with
    monRef := ref, monCk8 := ck8n, lastWindow := s.now, monDead := false, rootLk := s.clk.rootLk && !lockFell } }
  if r || c || lockFell then s.monTrip (BitVec.ofNat 3 (b2n r + 2 * b2n lockFell + 4 * b2n c)) else s

/-- No window has closed for 1,024 CK8: reported once until a window closes (R55; DESIGN CHOICE, assumption
118). -/
def State.monDead (s : State) : State :=
  if s.clk.monDead || decide (s.now < s.clk.lastWindow + 1024 * ck8) then s
  else ({ s with clk := { s.clk with monDead := true } }).raise 0 0x01 5

/-- A line PHY PLL of a port die loses lock (R61, R65). -/
def State.pllLoss (s : State) (p : Nat) (b : Bool) : State :=
  (s.modDie (5 + p) (fun x => if b then { x with pllB := false } else { x with pllA := false })).raise (5 + p) 0x01
    (if b then 4 else 3)

/-! ### The commands -/

/-- ENUM_ANSWER (R22, R23). -/
def execEnumAnswer (t : Nat) (seat : DieAddr) (ccwLane : Bool) (hops : BitVec 4) (type : BitVec 2) (s : State) :
    Host.Outcome State Fault Refusal :=
  .next ((s.to t).enumAnswer seat.toNat ccwLane hops.toNat type)

/-- ENUMERATION_END (R23, R24). -/
def execEnumerationEnd (t : Nat) (s : State) : Host.Outcome State Fault Refusal := .next (s.to t).enumerationEnd

/-- HEARTBEAT_SEND (R25). -/
def execHeartbeatSend (t : Nat) (die : DieAddr) (s : State) : Host.Outcome State Fault Refusal :=
  .next ((s.to t).heartbeat die.toNat)

/-- HEARTBEAT_DUE (R25). -/
def execHeartbeatDue (t : Nat) (die : DieAddr) (s : State) : Host.Outcome State Fault Refusal :=
  .next ((s.to t).heartbeatDue die.toNat)

/-- LINK_TRAINING_END (R20, R26). -/
def execLinkTrainingEnd (t : Nat) (die : DieAddr) (link : BitVec 3) (ok : Bool) (repaired : BitVec 4) (s : State) :
    Host.Outcome State Fault Refusal :=
  .next ((s.to t).linkTrained die.toNat link.toNat ok repaired)

/-- LINK_DOWN (R26, R40). -/
def execLinkDown (t : Nat) (die : DieAddr) (s : State) : Host.Outcome State Fault Refusal :=
  .next ((s.to t).linkDown die.toNat)

/-- ALIGNMENT_MARKER (R46). -/
def execAlignmentMarker (t : Nat) (offPhase : BitVec 8) (s : State) : Host.Outcome State Fault Refusal :=
  .next ((s.to t).alignMarker offPhase)

/-- MONITOR_WINDOW (R53, R54). -/
def execMonitorWindow (t : Nat) (refCount ck8Count : BitVec 8) (lockFell : Bool) (s : State) :
    Host.Outcome State Fault Refusal :=
  .next ((s.to t).monWindow refCount ck8Count lockFell)

/-- MON_DEAD (R55). -/
def execMonDead (t : Nat) (s : State) : Host.Outcome State Fault Refusal := .next (s.to t).monDead

/-- CK1 cycles of 2,200 OSC at the fastest OSC, 5 % above its nominal 100 MHz: the pulse lasts at least this long (R49,
R54). -/
abbrev oscPulseCk1 : Nat := 62858

/-- MONITOR_PULSE_END: the 2,200 OSC of the monitor's or the tamper sequencer's pulse of EPULSE_N have passed
(R54, R483, assumption 49). -/
def execMonitorPulseEnd (t : Nat) (s : State) : Host.Outcome State Fault Refusal :=
  .next (match s.clk.oscPulse with
    | some a => if a + oscPulseCk1 ≤ (s.to t).now then { s.to t with clk := { s.clk with oscPulse := none } } else s.to t
    | none => s.to t)

/-- PLL_LOCK_LOSS (R65). -/
def execPllLockLoss (t : Nat) (p1 pllB : Bool) (s : State) : Host.Outcome State Fault Refusal :=
  .next ((s.to t).pllLoss (portNo p1) pllB)

end Sys2Proof.Machine
end

