-- ==== Sys2Proof/Machine/Cus.lean ====
section
/-!
DEFINITION. The tamper sensors and zeroisation (R481 to R486), with what the VBAT domain holds through resets
(R482, R485, R496).
-/

namespace Sys2Proof.Machine

/-- CK1 cycles that `n` OSC cycles last at least: OSC runs at 100 MHz, at most 5 % fast (R49). -/
def oscMin (n : Nat) : Nat := n * 200 / 7

/-- The sensors that ZEROISE: none in MANUFACTURE, MESH and VOLT always from PROVISIONED onward (R472, R482). -/
def State.zerMask (s : State) : BitVec 8 := if s.provisioned then s.cus.tresp ||| 0x21 else 0

/-- The sensors of a trip that can trip now: a TAMP_INn whose mode is not 0, VOLT where it is armed; BATT is
judged at power-up alone (R481, R546). -/
def State.tripMask (s : State) (m : BitVec 8) : BitVec 8 :=
  BitVec.ofNat 8 (((List.range 7).filter (fun k =>
    m.getLsbD k &&
    (if decide (1 ≤ k) && decide (k ≤ 4) then bits s.cus.tcfg.toNat (2 * k - 1) (2 * k - 2) != 0
     else if k = 5 then s.cus.voltArmed else true))).foldl (fun a k => a + 2 ^ k) 0)

/-- Trips counted in the field record and in CUS_TCNT, one for each sensor (R496, R510). -/
def State.countTrips (s : State) (m : BitVec 8) : State :=
  (List.range 8).foldl (fun (s : State) k =>
    if m.getLsbD k then
      { s.fldAdd16 (344 + k) 1 with cus := { (s.fldAdd16 (344 + k) 1).cus with tCnt := satInc s.cus.tCnt } }
    else s) s

/-- The erasures of zeroisation (R484): the helper data, the secret part of the key store with the session keys
of the ports, and the Trifle memory of every copy. -/
def State.eraseSecrets (s : State) : State :=
  let s := ((s.wipe (trfBase 0) trfLen).wipe (trfBase 1) trfLen).wipe (trfBase 2) trfLen
  let s := (List.range 2).foldl (fun (s : State) p => s.modPdie p (fun d => { d with sa := [], saKey := [] })) s
  { s with cus := { s.cus with helper := false, keyOk := false } }

/-- Zeroisation has been made: CUS_STATUS.ZEROED and the ZEROISED report (R484, R497). -/
def State.setZeroed (s : State) : State := ({ s with cus := { s.cus with zeroed := true } }).raise 0 0x0B 2

/-- The body of a TAMPER record (R179). -/
def tamperRecord (m : BitVec 8) (zer atBoot : Bool) (time : BitVec 80) : List Word :=
  [m.setWidth 16, BitVec.ofNat 16 (b2n zer + 2 * b2n atBoot)] ++ wordsLow 5 time.toNat

/-- The body of a TAMPER entry of the biscuit tin (R504). -/
def State.tamperEntry (s : State) (m : BitVec 8) (zer atBoot : Bool) (time : BitVec 80) : List Word :=
  [m.setWidth 16, s.zerMask.setWidth 16, BitVec.ofNat 16 (b2n zer + 2 * b2n atBoot)] ++ wordsLow 5 time.toNat

/-- The pins that a ZEROISE trip forces asynchronously, as under R54 (R483). -/
def State.tamperPins (s : State) : State :=
  { s with
    clk := { s.clk with forced := true, oscPulse := some s.now }
    vdg := { s.vdg with forced := true, out := .stop } }

/-- A flush that runs ends in a tamper reset; one that a power loss started stays a power-on reset (R486, R447). -/
def State.tamperFlush (s : State) : State :=
  match s.boot.phase with
  | .flush .powerOn _ => s
  | .flush _ t => { s with boot := { s.boot with phase := .flush .tamper t } }
  | _ => s

/-- The sequence of a ZEROISE trip up to its record (R483): pins, sessions closed, the TAMPER record and the
close of the batch with cause 4. -/
def State.tamperSequence (s : State) (m : BitVec 8) : State :=
  let s := s.tamperFlush.tamperPins.dbgClose
  let s := ((s.updEntry 4).updDrop).ledgerPut 0x07 0 (tamperRecord m true false s.cus.tTime)
  { s with
    ldg := { s.ldg with closeCause := if s.ldg.closing || s.ldg.frozen then s.ldg.closeCause else some 4 }
    cus := { s.cus with seq := some ⟨s.now, none⟩ } }

/-- A trip with main power present (R482, R483): the event is latched, counted and reported. -/
def State.tripOn (s : State) (m : BitVec 8) : State :=
  let zer := m &&& s.zerMask != 0
  let time := s.timeNow
  let s := { s with cus := { s.cus with tMap := m, tValid := true, tTime := time } }
  let s := (s.countTrips m).raise 0 0x0B 1
  let s := s.bbxReq 0x0C (s.tamperEntry m zer false time)
  if zer then s.tamperSequence m else s.ledgerPut 0x07 0 (tamperRecord m false false time)

/-- A trip with main power off is latched on VBAT with the sequencer's elapsed count (R485). -/
def State.tripOff (s : State) (m : BitVec 8) : State :=
  { s with cus := { s.cus with
    offMap := s.cus.offMap ||| m
    offCount := if s.cus.offMap = 0 then (s.now - s.boot.startAt) / 30 else s.cus.offCount } }

/-- TAMPER_TRIP: sensors trip in one OSC cycle (R481 to R486). During a sequence only their bits are added. -/
def State.tamperTrip (s : State) (sensors : BitVec 8) : State :=
  let m := s.tripMask sensors
  if m = 0 then s
  else if s.boot.phase = .off then s.tripOff m
  else if s.cus.seq.isSome then { s.countTrips m with
    cus := { (s.countTrips m).cus with tMap := s.cus.tMap ||| m } }
  else s.tripOn m

/-- The signature of a tamper close has been made, or none is under way (R483). -/
def State.tamperSigned (s : State) : Bool :=
  s.ldg.closeCause.isNone && s.ldg.sign.isNone && !(s.ldg.pending.any (fun r => r.type == 7))

/-- Zeroisation starts: after the tin's flush where one runs (R514), with the signature done, or 400,000 OSC after the trip, when a signature still under
way is abandoned (R483, R187). -/
def State.zeroStart (s : State) : State :=
  match s.cus.seq with
  | some ⟨t, none⟩ =>
    if s.bbx.flush.isSome then s
    else if !(s.tamperSigned && decide (t + oscMin 4 ≤ s.now)) && decide (s.now < t + oscMin 400000) then s
    else
      let s := s.eraseSecrets
      { s with
        ldg := { s.ldg with closeCause := none, sign := none }
        cus := { s.cus with seq := some ⟨t, some s.now⟩ } }
  | _ => s

/-- The tamper registers as the VBAT domain holds them stand in the CSR space after a device reset (R482). -/
def State.vbatShow (s : State) : State :=
  (s.setReg 0 0x0B 0x10 (s.cus.tcfg.setWidth 16)).setReg 0 0x0B 0x11 (s.cus.tresp.setWidth 16)

/-- VBAT was lost: its registers at their reset values (R482, R496). -/
def State.vbatReset (s : State) : State :=
  { s with cus := { s.cus with
    tcfg := 0, tresp := 0x21, tMap := 0, tValid := false, tTime := 0, tCnt := 0, offMap := 0, offCount := 0 } }

/-- TAMPER_TRIP (R481 to R486). -/
def execTamperTrip (t : Nat) (sensors : BitVec 8) (s : State) : Host.Outcome State Fault Refusal :=
  .next ((s.to t).tamperTrip sensors)

/-- ZEROISATION_START (R483, R484). -/
def execZeroisationStart (t : Nat) (s : State) : Host.Outcome State Fault Refusal := .next (s.to t).zeroStart

end Sys2Proof.Machine
end

