-- ==== Sys2Proof/Machine/LdgOps.lean ====
section
/-!
DEFINITION. The Ledger Unit: chaining, batches and their signatures, the MRAM copies, the archive and the
export (R178 to R187).
-/

namespace Sys2Proof.Machine

/-! ### The ledger certificate (R183) -/

/-- Word offset in OTP of ledger certificate slot n (R473). -/
def certOff (n : Nat) : Nat := 0x400 + 0x80 * n
/-- The 76 words of a certificate slot. -/
def State.certWords (s : State) (n : Nat) : List Word := s.rds (otpBase + certOff n) 76
/-- A certificate slot has been written (R496). -/
def State.certWritten (s : State) (n : Nat) : Bool := (s.certWords n).any (fun w => w != 0)
/-- The slot of the ledger certificate in use: the highest one written, else slot 0. -/
def State.certSlot (s : State) : Nat :=
  if s.certWritten 3 then 3 else if s.certWritten 2 then 2 else if s.certWritten 1 then 1 else 0

/-- PREV of the next record: the hash of the last one, and of the certificate's words 0 to 43 for SEQ 0
(R183). -/
def State.prevHash (s : State) : W256 :=
  if s.ldg.seq = 0 then sha ((s.certWords s.certSlot).take 44) else s.ldg.head

/-! ### Records (R178) -/

/-- The 28 header words of a record. -/
def headerWords (type : BitVec 8) (flags : Word) (seq : BitVec 64) (tns : BitVec 32) (tsec : BitVec 48) (ctx : Word)
    (prev : W256) : List Word :=
  [(1 : BitVec 8) ++ type, flags] ++ wordsLow 4 seq.toNat ++ lowHigh tns ++ wordsLow 3 tsec.toNat ++ [ctx] ++
    w256Words prev

/-- The flags that the chain adds to the next record: LOSS and BREAK (R180, R187). -/
def State.chainFlags (s : State) : Word := BitVec.ofNat 16 (b2n s.ldg.lossNext + 2 * b2n s.ldg.breakNext)

/-- TYPE of a chained record. -/
def recType (ws : List Word) : Nat := bits (wordAt ws 0).toNat 7 0
/-- SEQ of a chained record. -/
def recSeq (ws : List Word) : Nat := ofWordsLow ((ws.drop 2).take 4)

/-- Exporting a chained record as one 8-flit message; without credit, or to a fenced die, it is counted
(R186). -/
def State.exportRecord (s : State) (ws : List Word) : State :=
  let r := (s.live 0 0x09 9).toNat
  let die := if bit r 0 then 6 else 5
  let q := bits r 5 1
  if !s.flagL 0 0x09 0 0 then s
  else
    let x := s.blockPush die q .ldg (toFlits 8 ws) true (edgeUp s ck4 s.now)
    if x.2 then x.1 else { x.1 with ldg := { x.1.ldg with exDrop := satInc x.1.ldg.exDrop } }

/-- A record takes its place in the chain: the head hash, the next SEQ, the write to MRAM that follows and
the export (R180, R182, R186). -/
def State.chained (s : State) (ws : List Word) : State :=
  let s := { s with ldg := { s.ldg with
    seq := s.ldg.seq + 1, head := sha ws, writing := some ws, chainedAt := s.now } }
  s.exportRecord ws

/-- Chaining the oldest record of the FIFO (R180). -/
def State.chainOne (s : State) (r : PendRec) (rest : List PendRec) : State :=
  let ws := headerWords r.type (r.flags ||| s.chainFlags) s.ldg.seq r.tns r.tsec r.ctx s.prevHash ++ fitW 36 r.body
  let s := s.chained ws
  { s with ldg := { s.ldg with pending := rest, batch := ws :: s.ldg.batch, lossNext := false, breakNext := false } }

/-! ### Batches (R181, R182) -/

/-- Of records in SEQ order, those without the VERDICT records and the POSITION records other than the last
one (R182). -/
def archived : List (List Word) → List (List Word)
  | [] => []
  | w :: ws =>
    if recType w = 2 then archived ws
    else if recType w = 1 && ws.any (fun x => recType x == 1) then archived ws
    else w :: archived ws

/-- The ledger key is available (R174 of custody: R474, R197). -/
def State.ledgerKeyOk (s : State) : Bool := s.cus.keyOk

/-- A batch is closed: the BATCH_SIGN's header and body words 0 to 3 are filled and its signature begins
(R181, R182, R187). A loss while it is computed marks the record after it, since its own header stands (R182). -/
def State.closeBatch (s : State) (cause : Nat) : State :=
  let recs := s.ldg.batch.reverse
  let arch := archived recs
  let flags := s.chainFlags ||| BitVec.ofNat 16 (4 * b2n (!s.ledgerKeyOk) + 8 * b2n (cause == 5))
  let ws := headerWords 8 flags s.ldg.seq s.timeFrac s.timeSec s.ctx s.prevHash ++
    [BitVec.ofNat 16 recs.length, BitVec.ofNat 16 arch.length, BitVec.ofNat 16 cause, 0]
  let sum := sha ((if s.ldg.prevSign = [] then List.replicate 64 0 else s.ldg.prevSign) ++ arch.flatten)
  { s with ldg := { s.ldg with sign := some ⟨ws, sum, s.now⟩, closeCause := none, lossNext := false, breakNext := false } }

/-- The record type whose chaining brings an ordered close of this cause (R187). -/
def closeAfter (cause : Word) (ws : List Word) : Bool :=
  (cause == 4 && recType ws == 7) || (cause == 5 && recType ws == 0x0A) ||
    (cause == 6 && recType ws == 6 && wordAt ws 28 == 5)

/-- What follows the chaining of a record: an ordered close, a full batch, or a batch whose 1.0 s has passed
is closed (R181). -/
def State.closeIfDue (s : State) (ws : List Word) : State :=
  let ordered := match s.ldg.closeCause with | some c => closeAfter c ws | none => false
  if ordered then s.closeBatch ((s.ldg.closeCause).getD 0).toNat
  else if 128 ≤ s.ldg.batch.length then s.closeBatch 1
  else if s.ldg.signAt + 375000000 * ck8 ≤ s.now then s.closeBatch 2
  else s

/-- The unit is idle: nothing is being written and no signature computed. -/
def State.ldgIdle (s : State) : Bool := s.ldg.writing.isNone && s.ldg.sign.isNone

/-- The oldest record of the FIFO is chained, 160 CK4 after its hand-over or later (R180, R181), and not before the
Trifle firmware starts (R450). -/
def State.ledgerChain (s : State) : State :=
  match s.ldg.pending with
  | [] => s
  | r :: rest =>
    if !s.ldgIdle || s.ldg.closing || s.boot.phase != .firmware || decide (s.now < r.handedAt + 160 * ck4) then s
    else
      let s := s.chainOne r rest
      s.closeIfDue ((s.ldg.batch.head?).getD [])

/-- The batch timer: 1.0 s since the previous BATCH_SIGN was chained (R181). An empty batch is not closed. -/
def State.batchTimer (s : State) : State :=
  if s.ldgIdle && !s.ldg.closing && !s.ldg.batch.isEmpty && decide (s.ldg.signAt + 375000000 * ck8 ≤ s.now) then
    s.closeBatch 2
  else s

/-- A head written for the present chain (R184). -/
def State.headOf (s : State) (old : LdgCopy) (w : List Word) : LdgCopy :=
  { headOk := true, seq := s.ldg.seq, hash := s.ldg.head, openCount := s.ldg.batch.length,
    openStart := BitVec.ofNat 64 (match s.ldg.batch.getLast? with | some r => recSeq r | none => s.ldg.seq.toNat),
    tns := wordAt w 7 ++ wordAt w 6, tsec := BitVec.ofNat 48 (ofWordsLow ((w.drop 8).take 3)),
    ring := (w :: old.ring).take 8448 }

/-- First word of a copy of the ledger state in its region (R184, R479). The region's layout is the model's: 64 words
of head, then the record places in order (DESIGN CHOICE, assumption 124). -/
def ldgBase (b : Bool) : Nat := 0x00F100100000 + (if b then 0x100000 else 0)

/-- The words of a head: SEQ, hash, open count and start, time, and the CRC-32C of those before (R184). -/
def LdgCopy.words (c : LdgCopy) : List Word :=
  let ws := wordsLow 4 c.seq.toNat ++ w256Words c.hash ++ [BitVec.ofNat 16 c.openCount] ++ wordsLow 4 c.openStart.toNat ++
    lowHigh c.tns ++ wordsLow 3 c.tsec.toNat
  ws ++ lowHigh (crc32c (bytesOf ws))

/-- The record place of a SEQ in a copy's ring (R184). -/
def ldgPlace (b : Bool) (seq : Nat) : Nat := ldgBase b + 64 + 64 * (seq % 8448)

/-- One copy takes a record and then its head (R184). -/
def State.putCopy (s : State) (b : Bool) (c : LdgCopy) (w : List Word) : State :=
  let s := (s.store (ldgPlace b (recSeq w)) w).store (ldgBase b) c.words
  if b then { s with ldg := { s.ldg with copyB := c } } else { s with ldg := { s.ldg with copyA := c } }

/-- The record and head chained last stand in both copies: record A, head A, record B, head B (R180, R184). Without the
NV die nothing is written. -/
def State.ledgerWritten (s : State) : State :=
  match s.ldg.writing with
  | none => s
  | some w =>
    let s := { s with ldg := { s.ldg with writing := none } }
    if s.nvGone then s
    else (s.putCopy false (s.headOf s.ldg.copyA w) w).putCopy true (s.headOf s.ldg.copyB w) w

/-- The write of the record chained last ends, 640 CK4 after it or later (R180). -/
def State.ledgerWriteDone (s : State) : State := if s.now < s.ldg.chainedAt + 640 * ck4 then s else s.ledgerWritten

/-- The BATCH_SIGN is complete: r and s, the hash over all 64 words, and the batch on its way to the archive
(R182, R185). A signature that fails the unit's own verification leaves NOKEY with r = s = 0. -/
def State.signDone (s : State) (ok : Bool) : State :=
  match s.ldg.sign with
  | none => s
  | some g =>
    if s.now < g.startedAt + 1200000 * ck4 then s
    else
      let key := s.ledgerKeyOk
      let x := ecdsaSign (Config.ledgerKey s.cus.enrols).toNat (sha (g.words ++ w256Words g.sumhash))
      let good := key && ok
      let words := if good then g.words
        else g.words.take 1 ++ [wordAt g.words 1 ||| 4] ++ g.words.drop 2
      let ws := fitW 64 (words ++ (if good then w256Words x.1 ++ w256Words x.2 else []))
      let arch := archived s.ldg.batch.reverse
      let s := if key && !ok then s.raise 0 0x09 3 else s
      let s := s.chained ws
      { s with ldg := { s.ldg with
        sign := none, prevSign := ws, signAt := s.now, batch := [], toArchive := s.ldg.toArchive ++ [⟨arch, ws, []⟩] } }

/-- Words of an archive entry. -/
def ArchEntry.words (e : ArchEntry) : Nat := 64 * (e.records.length + 1)

/-- Words of a list of archive entries. -/
def archWords (es : List ArchEntry) : Nat := es.foldl (fun a e => a + e.words) 0

/-- The runs of words that n words from a flash word take in the ring of the archive (R185). -/
def archSpans (base len at_ n : Nat) : List (Nat × Nat) :=
  let k := min n (base + len - at_)
  if k < n then [(at_, k), (base, n - k)] else [(at_, k)]

/-- The sectors, in ring order, that runs of words lie in (R464). -/
def spanSectors (xs : List (Nat × Nat)) : List Nat :=
  (xs.flatMap (fun x => if x.2 = 0 then [] else
    (List.range ((x.1 + x.2 - 1) / 65536 + 1 - x.1 / 65536)).map (fun i => x.1 / 65536 + i))).eraseDups

/-- The words of runs that lie in a sector are all erased. -/
def State.spanBlank (s : State) (xs : List (Nat × Nat)) (sector : Nat) : Bool :=
  xs.all (fun x => (List.range x.2).all (fun i => (x.1 + i) / 65536 != sector || s.rd (x.1 + i) == 0xFFFF))

/-- An entry stands partly in a sector. -/
def ArchEntry.touches (e : ArchEntry) (sector : Nat) : Bool := (spanSectors e.spans).contains sector

/-- A whole sector is erased: the entries in it leave the archive (R185, R464). -/
def State.archErase (s : State) (sector : Nat) : State :=
  let s := s.wipe (65536 * sector) 65536
  { s with ldg := { s.ldg with archive := s.ldg.archive.filter (fun e => !e.touches sector) } }

/-- Words written to runs, one after the other. -/
def State.storeSpans (s : State) (ws : List Word) : List (Nat × Nat) → State
  | [] => s
  | x :: xs => (s.store x.1 (ws.take x.2)).storeSpans (ws.drop x.2) xs

/-- Where the next entry of the archive stands: the runs of words it takes from the point reached, or from the base
where a new image has moved the region (R185). -/
def State.archNext (s : State) (e : ArchEntry) : List (Nat × Nat) :=
  let base := s.liveN 0 0x09 0xA 3
  let len := s.liveN 0 0x09 0xD 2
  archSpans base len (if decide (base ≤ s.ldg.archAt) && decide (s.ldg.archAt < base + len) then s.ldg.archAt else base) e.words

/-- The sectors that must be erased before an entry is written: those in which it would stand on words that are not
erased, the oldest first (R185). -/
def State.archDirty (s : State) (e : ArchEntry) : List Nat :=
  (spanSectors (s.archNext e)).filter (fun x => !s.spanBlank (s.archNext e) x)

/-- The entry is written to the ring, its records and then its BATCH_SIGN, once the sectors in its way are erased
(R185). -/
def State.archPut (s : State) (e : ArchEntry) : State :=
  let spans := s.archNext e
  let s := ((s.archDirty e).foldl State.archErase s).storeSpans (e.records.flatten ++ e.sign) spans
  let last := spans.getLast?.getD (0, 0)
  { s with ldg := { s.ldg with
    archive := s.ldg.archive ++ [{ e with spans := spans }], archAt := last.1 + last.2 } }

/-- An erase of the archive was aborted: its sector holds undefined data, and the entry is kept in MRAM alone (R185,
R440). -/
def State.archAbort (s : State) (undef : State → Nat → State) : State :=
  match s.ldg.toArchive with
  | [] => s
  | e :: es =>
    match s.archDirty e with
    | [] => s
    | x :: _ => (undef ({ s with ldg := { s.ldg with toArchive := es } }.archErase x) x).raise 0 0x09 4

/-- A closed batch is written to the flash archive, or the write or an erase fails: LDG_ARCH (R185). -/
def State.archiveWrite (s : State) (ok : Bool) : State :=
  match s.ldg.toArchive with
  | [] => s
  | e :: es =>
    let s := { s with ldg := { s.ldg with toArchive := es } }
    if !ok || s.nvGone || decide (s.liveN 0 0x09 0xD 2 < e.words) then s.raise 0 0x09 4 else s.archPut e

/-! ### The flush and the next boot (R187) -/

/-- Chaining every record of a list at once, with its write to MRAM. -/
def State.flushAll (s : State) : List PendRec → State
  | [] => s
  | r :: rs => ((s.chainOne r rs).ledgerWritten).flushAll rs

/-- The flush before a reset: what is pending is chained and both heads committed, with a POWER record of
event 2 at a power loss (R187). -/
def State.ledgerFlush (s : State) (power : Bool) : State :=
  let s := s.ledgerWritten
  let extra := if power && !s.ldg.frozen then [s.ledgerForm 0x0A 0 [2, s.wdt.rstEv, 0, 0, 0, 0, BitVec.ofNat 16 (b2n (s.bootKind 1).slot)]] else []
  s.flushAll (s.ldg.pending ++ extra)

/-- A head copy holds at boot: its CRC, and no uncorrectable word in it (R184, R316). -/
def State.headHolds (s : State) (b : Bool) (c : LdgCopy) : Bool :=
  c.headOk && (codewords (ldgBase b) 32).all (fun cw => !(s.classAt cw).uncorrectable)

/-- The copy that the unit takes at boot, and which it is: its head holds and its SEQ is the higher (R184). -/
def State.bootCopy (s : State) : Option (Bool × LdgCopy) :=
  let a := s.ldg.copyA
  let b := s.ldg.copyB
  let ha := s.headHolds false a
  let hb := s.headHolds true b
  if ha && hb then some (if a.seq.toNat < b.seq.toNat then (true, b) else (false, a))
  else if ha then some (false, a) else if hb then some (true, b) else none

/-- A copy is repaired from the other: its records and its head are written again (R184). -/
def State.repairCopy (s : State) (b : Bool) (c : LdgCopy) : State :=
  let s := (c.ring.foldl (fun (s : State) w => s.store (ldgPlace b (recSeq w)) w) s).store (ldgBase b) c.words
  if b then { s with ldg := { s.ldg with copyB := c } } else { s with ldg := { s.ldg with copyA := c } }

/-- The unit reads both heads at Trifle start: what the G-code finds is counted (R316). -/
def State.readHeads (s : State) : State :=
  ((s.readCheck (ldgBase false) 32 0 false).1.readCheck (ldgBase true) 32 0 false).1

/-- The last BATCH_SIGN of a ring, newest first. -/
def lastSign (rs : List (List Word)) : List Word := (rs.find? (fun r => recType r == 8)).getD []

/-- The unit at Trifle start: the chain goes on from the copy it takes, which repairs the other; with both
heads bad it goes on from the archive's last BATCH_SIGN, with BREAK and LDG_HEAD (R184, R187). -/
def State.ledgerBoot (s : State) : State :=
  let s := s.readHeads.openCharge
  match s.bootCopy with
  | some (b, c) =>
    let o := if b then s.ldg.copyA else s.ldg.copyB
    let s := if o = c && s.headHolds (!b) o then s else s.repairCopy (!b) c
    { s with ldg := { s.ldg with
      seq := c.seq, head := c.hash, batch := c.ring.take c.openCount,
      prevSign := lastSign (c.ring.drop c.openCount), signAt := s.now } }
  | none =>
    let bs := match s.ldg.archive.getLast? with | some e => e.sign | none => []
    ({ s with ldg := { s.ldg with
      seq := if bs = [] then 0 else BitVec.ofNat 64 (recSeq bs + 1), head := sha bs, batch := [], prevSign := bs,
      breakNext := true, signAt := s.now } }).raise 0 0x09 2

/-! ### Records that firmware hands over -/

/-- What an ACTIVITY record of a card tells the Attestor of its slot: inserted, removed or changed; a change on a slot
without an authenticated card leaves it NONE (R177). -/
def ActivitySt.told (a : ActivitySt) (r : RecordIn) : ActivitySt :=
  match (wordAt r.body 1).toNat with
  | 1 => { card := true, activity := (wordAt r.body 2).setWidth 3, number := (r.body.drop 3).take 8 }
  | 3 => if a.card then { a with activity := (wordAt r.body 2).setWidth 3 } else a
  | _ => {}

/-- An ACTIVITY record of a card sets its slot, and motion then makes of the activities what it does at a fix (R177). -/
def State.noteActivity (s : State) (r : RecordIn) : State :=
  let slot := (wordAt r.body 0).toNat
  let ev := (wordAt r.body 1).toNat
  if r.type ≠ 5 || !(decide (1 ≤ ev) && decide (ev ≤ 3)) || decide (1 < slot) then s
  else if slot = 0 then ({ s with pos := { s.pos with slot0 := s.pos.slot0.told r } }).fixActivity
  else ({ s with pos := { s.pos with slot1 := s.pos.slot1.told r } }).fixActivity

/-- A record is handed to the unit; one of firmware's own ACTIVITY events also sets its card slot (R177,
R178 to R180). -/
def State.recordIn (s : State) (r : RecordIn) : State :=
  (s.ledgerPut r.type.toNat 0 r.body).noteActivity r

/-! ### The commands -/

/-- LEDGER_RECORD_HANDOVER (R178 to R180). A type that R179 does not list is never written. -/
def execLedgerRecordHandover (t : Nat) (r : RecordIn) (s : State) : Host.Outcome State Fault Refusal :=
  .next (if decide (1 ≤ r.type.toNat) && decide (r.type.toNat ≤ 0x0A) && r.type != 8 then (s.to t).recordIn r else s.to t)

/-- LEDGER_CHAIN (R180 to R182, R186). -/
def execLedgerChain (t : Nat) (s : State) : Host.Outcome State Fault Refusal := .next (s.to t).ledgerChain

/-- LEDGER_WRITE_DONE (R180, R184). -/
def execLedgerWriteDone (t : Nat) (s : State) : Host.Outcome State Fault Refusal := .next (s.to t).ledgerWriteDone

/-- BATCH_TIMER (R181). -/
def execBatchTimer (t : Nat) (s : State) : Host.Outcome State Fault Refusal := .next (s.to t).batchTimer

/-- BATCH_SIGN_DONE (R181, R182, R198). -/
def execBatchSignDone (t : Nat) (ok : Bool) (s : State) : Host.Outcome State Fault Refusal :=
  .next ((s.to t).signDone ok)

/-- ARCHIVE_WRITE (R185). -/
def execArchiveWrite (t : Nat) (ok : Bool) (s : State) : Host.Outcome State Fault Refusal :=
  .next ((s.to t).archiveWrite ok)

end Sys2Proof.Machine
end

