-- ==== Sys2Proof/Machine/Wdt.lean ====
section
/-!
DEFINITION. The watchdogs: services and check-ins, the ends of periods, violations, the watchdog reset and
the erase freeze (R429 to R446).
-/

namespace Sys2Proof.Machine

/-- The key of a watchdog operand. -/
def wdtNo : WdtId → Nat
  | .twd n => n.toNat
  | .core c => wdtKey c.toNat

/-- CK8 cycles in one µs (R430). -/
abbrev usCk8 : Nat := 375

/-- A setting of a watchdog in CK8: word i of its registers is in µs (R430, R445). -/
def State.wdtCk8 (s : State) (k i : Nat) : Nat := s.wdtWord k i * usCk8

/-- The position of a watchdog now: the CK8 edges since its period started (R430). -/
def State.wdtPos (s : State) (k : Nat) : Nat :=
  match (s.wdtOf k).frozenAt with
  | some p => p
  | none => s.clkTick - (s.wdtOf k).start

/-- The position at which a period ends with nothing done: WCLOSE in CHALLENGE, PERIOD in CHECKIN (R431). -/
def State.wdtLimit (s : State) (k : Nat) : Nat := if s.wdtMode k = 1 then s.wdtCk8 k 3 else s.wdtCk8 k 1

/-- A position lies in the open window (R431). -/
def State.wdtOpen (s : State) (k p : Nat) : Bool :=
  decide (s.wdtCk8 k 2 ≤ p) && (s.wdtMode k != 1 || decide (p < s.wdtCk8 k 3))

/-- The watchdog counts now. -/
def State.wdtRuns (s : State) (k : Nat) : Bool := (s.wdtOf k).running && (s.wdtOf k).frozenAt.isNone

/-- WDT_STAT (R445). -/
def State.wdtStat (s : State) (k : Nat) : Word :=
  let u := s.wdtOf k
  BitVec.ofNat 16 (u.cause.toNat + 8 * u.seen.toNat + 512 * b2n u.frozenAt.isSome +
    1024 * b2n (u.running && s.wdtOpen k (s.wdtPos k)) + 2048 * b2n u.running + 4096 * b2n u.warned +
    8192 * b2n u.badPrev) ||| (s.reg (wdtDie k) 4 (wdtOff k + 8) &&& 0x8000)

/-- The source of a watchdog: die and index (R446). -/
def wdtSource (k : Nat) : Nat × Nat :=
  if k < 256 then (0, 1 + k)
  else (coreDie (k - 256), (if coreIdx (k - 256) = 0 then 0x20 else 0x40) + engSlot (coreEng (k - 256)))

/-- A violation of a cause: counted, recorded, reported (R435). -/
def State.wdtNote (s : State) (k : Nat) (cause : Nat) : State :=
  let first := !(s.flag (wdtDie k) 4 (wdtOff k + 8) 15)
  let s := s.modWdt k (fun u =>
    { u with
      violCnt := satInc u.violCnt, seen := setBit u.seen (cause - 1) true, bad := true,
      cause := if first then BitVec.ofNat 3 cause else u.cause })
  let s := s.orReg (wdtDie k) 4 (wdtOff k + 8) 0x8000
  s.raise (wdtSource k).1 4 (wdtSource k).2

/-- A violation resets its engine (R435). -/
def State.wdtActs (s : State) (k : Nat) : Bool := decide (256 ≤ k) && bit (s.wdtWord k 0) 2

/-- WDT_RSTEV after a watchdog reset of TWDk, under EVID as committed (R438). -/
def rstEvAfter (evid : Nat) (k : Nat) (v : Word) : Word :=
  let count := if bits v.toNat 15 8 = 255 then 255 else bits v.toNat 15 8 + (if 2 ≤ evid then 1 else 0)
  BitVec.ofNat 16 ((if evid = 2 then 0 else 1 + 2 * k) + 256 * count)

/-- The watchdog reset that TWDk requests: the evidence, the biscuit tin's entry, the pin effects of L5, and
the flush before the reset (R437, R438). -/
def State.watchdogReset (s : State) (k : Nat) : State :=
  let ev := rstEvAfter (s.fldL 0 4 1 1 0) k s.wdt.rstEv
  let s := { s with wdt := { s.wdt with rstEv := ev } }
  (s.bbxReq 0x08 [BitVec.ofNat 16 k, s.wdtStat k, ev]).warmReset .watchdog true

/-- The end of a period, good or bad, and the start of the next at a CK8 count; the warning's notice goes,
and a second bad period of a Trifle watchdog requests the watchdog reset (R431, R436, R437). -/
def State.wdtEnd (s : State) (k : Nat) (good : Bool) (next : Nat) : State :=
  let two := !good && (s.wdtOf k).badPrev
  let s := s.modWdt k (fun u =>
    { u with start := next, bad := false, badPrev := !good, warned := false, done := 0 })
  let s := if 256 ≤ k then s.modCore (k - 256) (fun c => { c with warn := false }) else s
  if two && decide (k < 256) then s.watchdogReset k else s

/-- A violation that ends its period at a CK8 count; with ACT the engine is reset instead, and its watchdog
starts afresh (R431, R435). -/
def State.wdtFail (s : State) (k cause next : Nat) : State :=
  let s := s.wdtNote k cause
  if s.wdtActs k then s.engReset (k - 256) 3 else s.wdtEnd k false next

/-- A violation within a CHECKIN period, which goes on (R433, R435). -/
def State.wdtBad (s : State) (k cause : Nat) : State :=
  let s := s.wdtNote k cause
  if s.wdtActs k then s.engReset (k - 256) 3 else s

/-- WCLOSE is reached with no valid service: LATE (R431, R434). -/
def State.wdtClose (s : State) (k : Nat) : State :=
  if s.wdtRuns k && s.wdtMode k == 1 && decide (s.wdtLimit k ≤ s.wdtPos k) then
    s.wdtFail k 2 ((s.wdtOf k).start + s.wdtLimit k)
  else s

/-- A CHECKIN period ends: missing tasks are one violation (R431, R433, R434). -/
def State.wdtPeriod (s : State) (k : Nat) : State :=
  if s.wdtRuns k && s.wdtMode k == 2 && decide (s.wdtLimit k ≤ s.wdtPos k) then
    let next := (s.wdtOf k).start + s.wdtLimit k
    let missing := BitVec.ofNat 16 (s.wdtWord k 5) &&& ~~~(s.wdtOf k).done
    if missing ≠ 0 then s.wdtFail k 5 next else s.wdtEnd k (!(s.wdtOf k).bad) next
  else s

/-- The challenge after one (R432). -/
def nextChal (c : Word) : Word := c * 0x6255 + 0x3619

/-- The token that a challenge asks for under a key (R432). -/
def wdtToken (chal key : Word) : Word := chal.rotateLeft 3 ^^^ key

/-- A service in CHALLENGE mode (R431, R432, R434). -/
def State.wdtChallenge (s : State) (k : Nat) (v : Word) : State :=
  let u := s.wdtOf k
  let edge := s.clkTick
  if !(s.wdtOpen k (s.wdtPos k)) then s.wdtFail k 1 edge
  else if v = wdtToken u.chal (BitVec.ofNat 16 (s.wdtWord k 5)) then
    (s.modWdt k (fun u => { u with chal := nextChal u.chal, svcCnt := u.svcCnt + 1 })).wdtEnd k true edge
  else (s.modWdt k (fun u => { u with chal := nextChal u.chal })).wdtFail k 3 edge

/-- A check-in in CHECKIN mode (R433, R434). -/
def State.wdtTask (s : State) (k : Nat) (v : Word) : State :=
  let u := s.wdtOf k
  let n := v.toNat % 16
  if !(s.wdtOpen k (s.wdtPos k)) then s.wdtBad k 1
  else if !(bit (s.wdtWord k 5) n) then s.wdtBad k 6
  else if u.done.getLsbD n then s.wdtBad k 4
  else s.modWdt k (fun u => { u with done := setBit u.done n true, svcCnt := u.svcCnt + 1 })

/-- What a service does at its edge: what ends the period there comes first; a frozen watchdog discards and counts it; one
that has stopped takes nothing (R439, R443). -/
def State.wdtServe (s : State) (k : Nat) (v : Word) : State :=
  let s := (s.wdtClose k).wdtPeriod k
  let u := s.wdtOf k
  if !u.running then s
  else if u.frozenAt.isSome then { s with wdt := { s.wdt with frzDrop := satInc s.wdt.frzDrop } }
  else if s.wdtMode k = 1 then s.wdtChallenge k v
  else if s.wdtMode k = 2 then s.wdtTask k v
  else s

/-- A write to WDT_SVC, once it has been let through, takes effect at the first CK8 edge at or after it (R430). -/
def State.wdtService (s : State) (k : Nat) (v : Word) : State := s.during (edgeUp s ck8 s.now) (fun s => s.wdtServe k v)

/-- The warning point: WATCHDOG_WARN of the core, or WARNED of a Trifle watchdog (R431, R436). -/
def State.wdtWarn (s : State) (k : Nat) : State :=
  let w := s.wdtCk8 k 4
  if s.wdtRuns k && !(s.wdtOf k).warned && decide (w ≠ 0) && decide (s.wdtLimit k - w ≤ s.wdtPos k) &&
      decide ((s.wdtOf k).start ≤ s.clkTick) then
    let s := s.modWdt k (fun u => { u with warned := true })
    if 256 ≤ k then s.modCore (k - 256) (fun c => { c with warn := true }) else s
  else s

/-- The Trifle's watchdog interrupt line: a warning stands in the present period of TWD0 or TWD1 (R436). -/
def State.wdtInterrupt (s : State) : Bool := [0, 1].any (fun k => (s.wdtOf k).running && (s.wdtOf k).warned)

/-! ### The erase freeze (R439, R440) -/

/-- Erase-busy rises: a Trifle watchdog whose last period was good is frozen (R439). -/
def State.eraseRise (s : State) : State :=
  if s.wdt.eraseBusy.isSome then s
  else
    let s := { s with wdt := { s.wdt with eraseBusy := some s.now } }
    [0, 1].foldl (fun (s : State) k =>
      if (s.wdtOf k).badPrev then s else (s.freezeWdt k).modWdt k (fun u => { u with byErase := true })) s

/-- Erase-busy falls: the frozen watchdogs run again, unless debug halts the Trifle (R439, R492). -/
def State.eraseFall (s : State) : State :=
  if s.wdt.eraseBusy.isNone then s
  else
    let s := { s with wdt := { s.wdt with eraseBusy := none } }
    let s := [0, 1].foldl (fun (s : State) k => s.modWdt k (fun u => { u with byErase := false })) s
    if s.dbg.trifleHalted then s else s.thawTrifle

/-- The words of an aborted sector: undefined data (R440). -/
def State.undefSector (s : State) (sector : Nat) : State :=
  let x := s.draw
  x.2.store (65536 * sector) ((List.range 65536).map (fun i => Config.freeCell x.1 i))

/-- The erase has run for 250 ms: it is aborted, and the session that issued it fails, or the archive's write (R185,
R440, R465, R468). -/
def State.eraseCap (s : State) : State :=
  match s.wdt.eraseBusy with
  | none => s
  | some t0 =>
    if s.now < t0 + 93750000 * ck8 then s
    else
      let s := s.eraseFall
      let s := { s with wdt := { s.wdt with eraseCap := satInc s.wdt.eraseCap } }
      let s := s.raise 0 4 3
      match s.boot.upd.state, s.boot.upd.toErase with
      | 1, x :: _ =>
        let s := s.undefSector x
        let s := { s with boot := { s.boot with upd := { s.boot.upd with state := 3, cause := 1, toErase := [] } } }
        s.updEntry 2
      | _, _ => s.archAbort State.undefSector

/-- WDT_WINDOW_CLOSE. -/
def execWdtWindowClose (t : Nat) (w : WdtId) (s : State) : Host.Outcome State Fault Refusal :=
  .next ((s.to t).wdtClose (wdtNo w))

/-- WDT_PERIOD_END. -/
def execWdtPeriodEnd (t : Nat) (w : WdtId) (s : State) : Host.Outcome State Fault Refusal :=
  .next ((s.to t).wdtPeriod (wdtNo w))

/-- WDT_WARNING. -/
def execWdtWarning (t : Nat) (w : WdtId) (s : State) : Host.Outcome State Fault Refusal :=
  .next ((s.to t).wdtWarn (wdtNo w))

/-- ERASE_BUSY_RISE. -/
def execEraseBusyRise (t : Nat) (s : State) : Host.Outcome State Fault Refusal := .next (s.to t).eraseRise

/-- ERASE_BUSY_FALL. -/
def execEraseBusyFall (t : Nat) (s : State) : Host.Outcome State Fault Refusal := .next (s.to t).eraseFall

/-- ERASE_CAP. -/
def execEraseCap (t : Nat) (s : State) : Host.Outcome State Fault Refusal := .next (s.to t).eraseCap

end Sys2Proof.Machine
end

