-- ==== Sys2Proof/Machine/Lks.lean ====
section
/-!
DEFINITION. The lockstep logic: mismatches, self-tests, resynchronisation, hand-overs and mode resets of the
engines (R349 to R374, R380, R381), the comparator tests (R364, R365), and the voted Trifle (R375 to R378).
-/

namespace Sys2Proof.Machine

/-- The base offset of an engine's LKS registers (R380). -/
def lksOff (e : Nat) : Nat := 0x100 + 0x10 * engSlot e

/-- Words of a write-buffer entry reach memory (R203). -/
def State.wbApply (s : State) (c : Nat) (e : WbEntry) : State :=
  e.words.foldl (fun (s : State) w => s.store (if w.1.toNat < spadLen then spadBase c + w.1.toNat else w.1.toNat) [w.2]) s

/-- LKS_INJ is armed for a slot and kind of a die (R380). -/
def State.lksArmed (s : State) (e kind : Nat) : Bool :=
  let v := (s.reg (engDie e) 0x32 3).toNat
  bit v 15 && bits v 4 0 == engSlot e && bits v 6 5 == kind

/-- The comparators that fire, in the order of R374: RFW, REQ, SIG, REPL. -/
def firstComp (comp : BitVec 4) : Option Nat := (List.range 4).find? (fun i => comp.getLsbD i)

/-- The comparators of an engine are armed: it is locked, or a SPLIT has not disarmed them yet, and the checker issues
since the last reset, hand-over or resynchronisation (R357, R363, R369, R370). -/
def State.compArmed (s : State) (e : Nat) : Bool :=
  let x := s.engOf e
  (x.state == .locked || (x.state == .split && decide (s.now < x.splitAt))) && (s.coreOf (2 * e)).runst != .reset &&
    decide (x.armAt ≤ s.now)

/-- A SPLIT does not take place: the engine is locked with this main core, and the core-1 watchdog stops (R369). -/
def State.unsplit (s : State) (e : Nat) (k : CoreSt) : State :=
  let s := s.modEng e (fun x => { x with state := .locked, preSplit := none })
  (s.modCore (2 * e) (fun _ => k)).modWdt (wdtKey (2 * e + 1)) (fun u => { u with running := false, frozenAt := none })

/-- A mismatch in cycle D: both cores stop, what has not started to drain is discarded, the cause is recorded
and LOCK_MISM reported at D (R357, R374); a checkpoint whose copy is not complete is not taken (R358). -/
def State.mismatch (s : State) (e cause : Nat) (pc : Addr) (d : Nat) : State :=
  let inj := s.lksArmed e cause
  let s := if inj then s.setReg (engDie e) 0x32 3 (s.reg (engDie e) 0x32 3 &&& 0x7FFF) else s
  let s := if s.isSplit e then s.unsplit e (s.coreOf (2 * e)) else s
  let halted := (s.coreOf (2 * e)).runst == .halted
  let s := s.modCore (2 * e) (fun k => { k with wb := k.wb.filter (fun w => w.draining) })
  let s := s.modEng e (fun x =>
    { x.backed d with
      state := .selftest, cause := BitVec.ofNat 2 cause, outcome := 0, inj := inj, mismAt := d, counted := false,
      dpc := if cause = 2 then (s.coreOf (2 * e)).pc else pc, haltAfter := halted, resyncing := false })
  (s.orReg (engDie e) 0x32 (lksOff e + 2) 0x8000).during d (fun (s : State) => s.raise (engDie e) 0x32 (0x20 + engSlot e))

/-- The comparators of RFW, REQ and REPL in which an armed LKS_INJ inverts the checker's next item (R380). -/
def State.injComp (s : State) (e : Nat) : BitVec 4 :=
  BitVec.ofNat 4 (b2n (s.lksArmed e 0) + 2 * b2n (s.lksArmed e 1) + 8 * b2n (s.lksArmed e 3))

/-- What the comparators see of an engine's next items: while the die's start-up tests run a difference is only reported
(R424); otherwise the first comparator that fires makes a mismatch (R355, R357), and where none fires a replicated word
has been corrected on its lane, which the field record counts (R352). -/
def State.lockstepDiffers (s : State) (e : Nat) (comp : BitVec 4) (pc : Addr) : State :=
  if !(s.flag (engDie e) 0x32 0 0) && (s.die (engDie e)).lksTest.isSome then
    (if comp = 0 then s else s.raise (engDie e) 0x32 (0x20 + engSlot e))
  else if !(s.compArmed e) then s
  else
    match firstComp (comp ||| s.injComp e) with
    | none => s.gcode 6 false 1
    | some cause => (if comp.getLsbD 3 then s.gcode 6 true 1 else s).mismatch e cause pc s.now

/-- A signature window closes 64 CK1 after it opened (R355), and a difference shows 12 CK1 later, as does one that LKS_INJ
makes (R380); the window does not advance while the engine is halted (R373). -/
def State.sigClose (s : State) (e : Nat) (differ : Bool) : State :=
  if s.compArmed e && (s.coreOf (2 * e)).runst != .halted && decide ((s.engOf e).windowAt + 64 ≤ s.now) then
    if differ || s.lksArmed e 2 then s.mismatch e 2 (s.coreOf (2 * e)).pc (s.now + 12)
    else s.modEng e (fun x => { x with windowAt := s.now })
  else s

/-- Undoing a journal, newest entry first (R363). -/
def State.undo (s : State) (c : Nat) : List (Addr × Word) → State
  | [] => s
  | w :: ws => (s.store (spadBase c + w.1.toNat) [w.2]).undo c ws

/-- The core's registers reloaded from a checkpoint: CYC keeps counting, the caches are invalid and the
write buffer is empty (R358, R363). -/
def CoreSt.reload (k ck : CoreSt) (resume : Nat) (halted : Bool) : CoreSt :=
  { ck with
    cycOrigin := k.cycOrigin, icache := [], dcache := [], wb := [], runst := if halted then .halted else .run,
    resumeAt := resume, lastRst := k.lastRst, triples := k.triples, warn := k.warn,
    haltReq := k.haltReq }

/-- The resynchronisation of both cores: the journals are undone, the registers come from the checkpoint stores, the main
core issues 29,216 CK1 after the mismatch, and the comparators and windows start when the checker does (R363). -/
def State.resync (s : State) (e : Nat) (main checker : CoreSt) : State :=
  let x := s.engOf e
  let resume := x.mismAt + 29216
  let s := ((s.coreOf (2 * e)).wb.filter (fun w => w.draining)).foldl (fun (s : State) w => s.wbApply (2 * e) w) s
  let s := (s.undo (2 * e) x.journal).undo (2 * e + 1) x.journalK
  let s := (s.modCore (2 * e) (fun k => k.reload main resume x.haltAfter)).modCore (2 * e + 1) (fun k =>
    k.reload checker resume x.haltAfter)
  s.modEng e (fun x =>
    { x with
      state := .locked, journal := [], jstop := false, journalK := [], jstopK := false, windowAt := resume + 8,
      armAt := resume + 8, resyncing := true, haltAfter := false })

/-- The scan finds an uncorrectable codeword in a core's scratchpad or caches (R361). -/
def State.scanBad (s : State) (c : Nat) : Bool :=
  let k := s.coreOf c
  s.mem.errs.any (fun x => spadCore (8 * x.1) == some c && x.2.uncorrectable) ||
    (k.icache ++ k.dcache).any (fun set => set.2.any (fun l => l.errs.any (fun x => x.2.uncorrectable)))

/-- The scan writes a core's correctable scratchpad codewords back corrected and counts them (R361). -/
def State.scanFix (s : State) (c : Nat) : State :=
  let bad := s.mem.errs.filter (fun x => spadCore (8 * x.1) == some c && x.2.correctable)
  bad.foldl (fun (s : State) x => (s.setClass x.1 .none).gcode 3 false 1) s

/-- CK1 cycles from a mismatch to the end of the self-test (R361). -/
abbrev selftestCk1 : Nat := 24592

/-- The self-test ends: a core passes whose logic signature held, which the command says, and whose arrays the scan finds
without an uncorrectable codeword (R361). A transient resynchronises, every other outcome fences the engine (R362). -/
def State.selftestEnd (s : State) (e : Nat) (passM passK : Bool) : State :=
  let x := s.engOf e
  if x.state != .selftest || decide (s.now < x.mismAt + selftestCk1) then s
  else
    let passM := passM && !s.scanBad (2 * e)
    let passK := passK && !s.scanBad (2 * e + 1)
    let s := (s.scanFix (2 * e)).scanFix (2 * e + 1)
    let s := s.lksCount e (passM && passK && x.ckValid && x.ckpt.isSome)
    match passM && passK && x.ckValid, x.ckpt with
    | true, some ck =>
      ((s.modEng e (fun x => { x with outcome := 1 })).resync e ck (x.ckptK.getD ck)).raise (engDie e) 0x32
        (0x40 + engSlot e)
    | _, _ =>
      let o : BitVec 3 := if passM && passK then 5 else if passK then 2 else if passM then 3 else 4
      let f := faultId (engDie e) 0x32 (0x60 + engSlot e)
      ((s.modEng e (fun x => { x with outcome := o })).fenceEngine e 5 f).raise (engDie e) 0x32 (0x60 + engSlot e)

/-! ### SPLIT, JOIN and mode resets (R366 to R371) -/

/-- SWITCH of an engine (R366). -/
def State.canSwitch (s : State) (e : Nat) : Bool := s.flagL (engDie e) 0x32 (lksOff e) 1

/-- A range of words copied to another place. -/
def State.copyRange (s : State) (src dst len : Nat) : State :=
  let moved := (s.mem.bytes.filter (fun b => inRange (b.1 / 2) src len)).map (fun b => (b.1 - 2 * src + 2 * dst, b.2))
  moved.reverse.foldl (fun (s : State) b => s.putByte b.1 b.2) (s.wipe dst len)

/-- The scratchpad of one core copied into that of another. -/
def State.spadCopy (s : State) (src dst : Nat) : State := s.copyRange (spadBase src) (spadBase dst) spadLen

/-- What En.K starts from at a SPLIT: the checker's state, which is the main core's, without SNOTE and the
SOFT bits (R369). -/
def CoreSt.asK (k old : CoreSt) (resume : Nat) : CoreSt :=
  { k with
    snAddr := 0, snCount := 0, snMulti := false, soft := 0, lastRst := old.lastRst, triples := old.triples,
    warn := false, resumeAt := resume, wb := [], haltReq := false }

/-- A SPLIT that succeeds, issued now by the main core as it stood: both cores go on 18 CK1 later, the split shows at cycle
17, from which the core-1 watchdog runs (R369, R441). -/
def State.splitNow (s : State) (e : Nat) (was : CoreSt) : State :=
  let s := (s.modEng e (fun x =>
    { x with state := .split, splitAt := s.now + 17, preSplit := some was })).lksDisarm e
  let s := s.modCore (2 * e) (fun k => { k with resumeAt := s.now + 18 })
  let s := s.modCore (2 * e + 1) (fun old => (s.coreOf (2 * e)).asK old (s.now + 18))
  s.wdtStart (wdtKey (2 * e + 1)) (s.now + 17)

/-- A JOIN that succeeds, issued now by En.M: En.K stops, its watchdog with it, and the hand-over starts once
its write buffer is empty (R370, R441). -/
def State.joinNow (s : State) (e : Nat) : State :=
  let empty := (s.coreOf (2 * e + 1)).wb.isEmpty
  let s := s.modCore (2 * e + 1) (fun k => { k with runst := .reset })
  let s := s.modWdt (wdtKey (2 * e + 1)) (fun u => { u with running := false, frozenAt := none })
  s.modEng e (fun x => { x with state := .handover, joinAt := if empty then some (s.now + 1) else none })

/-- The hand-over ends 4,097 CK1 after t0: the checker holds what the main core does, the joined state is the checkpoint,
the main core issues 3 CK1 later and the checker 8 CK1 after it (R370). -/
def State.joinEnd (s : State) (e : Nat) : State :=
  match (s.engOf e).state, (s.engOf e).joinAt with
  | .handover, some t0 =>
    if s.now < t0 + 4097 then s
    else
      let s := s.spadCopy (2 * e) (2 * e + 1)
      let s := s.modEng e (fun x =>
        { x with state := .locked, joinAt := none, windowAt := t0 + 4108, armAt := t0 + 4108, preSplit := none })
      (s.modCore (2 * e) (fun k => { k with icache := [], dcache := [], resumeAt := t0 + 4100 })).takeCkpt e
  | _, _ => s

/-- The reset of an engine in the mode that a management SPLIT or JOIN asks for, once both write buffers are
empty; the command is answered when the first instruction issues (R371). -/
def State.modeReset (s : State) (e : Nat) : State :=
  match (s.engOf e).modeCmd with
  | none => s
  | some m =>
    if (s.engOf e).state = .fenced then
      (s.modEng e (fun x => { x with modeCmd := none })).finishMode 3 []
    else if !(s.coreOf (2 * e)).wb.isEmpty || !(s.coreOf (2 * e + 1)).wb.isEmpty then s
    else
      let r := s.now + engResetCk1
      let s := s.modEng e (fun x => { x with modeCmd := none, modeWait := true, windowAt := r, armAt := r, preSplit := none })
      let s :=
        if m.toSplit then
          (((s.modEng e (fun x => { x with state := .split, splitAt := s.now })).lksDisarm e).coreReset (2 * e) 2).coreReset
            (2 * e + 1) 2
        else
          let s := s.spadCopy (2 * e) (2 * e + 1)
          let s := s.modWdt (wdtKey (2 * e + 1)) (fun u => { u with running := false, frozenAt := none })
          (s.modEng e (fun x => { x with state := .locked })).coreReset (2 * e) 2
      s.takeCkpt e

/-! ### The comparator tests (R364, R365) -/

/-- CK1 cycles of the comparator tests of a die (R364). -/
abbrev lksTestCk1 : Nat := 92160

/-- The tests of a compute die start, where the die is present and unfenced and no engine of it runs yet (R364). -/
def State.testStart (s : State) (d : Nat) : State :=
  if isCompute d && (s.die d).present && !(s.die d).fenced && (s.die d).lksTest.isNone && !(s.flag d 0x32 0 0) &&
      (List.range 32).all (fun i => (s.coreOf (2 * engAt d i)).runst == .reset) then
    s.modDie d (fun x => { x with lksTest := some s.now })
  else s

/-- The tests of a die end: engines that failed are marked and held in reset, and COMP_TEST is reported once
(R365). -/
def State.testEnd (s : State) (d : Nat) (failed : BitVec 32) : State :=
  match (s.die d).lksTest with
  | none => s
  | some t0 =>
    if s.flag d 0x32 0 0 || (s.die d).fenced || decide (s.now < t0 + lksTestCk1) then s
    else
      let s := s.orReg d 0x32 0 1
      if failed = 0 then s
      else
        let s := s.setRegs d 0x32 1 (lowHigh failed)
        let s := ((List.range 32).filter (fun i => failed.getLsbD i)).foldl (fun (s : State) i =>
          (s.modEng (engAt d i) (fun x => { x with state := .testfail })).wdtStop (engAt d i)) s
        (s.raise d 0x32 1).bbxReq 0x06 ([1, BitVec.ofNat 16 d] ++ lowHigh failed)

/-! ### The Trifle (R375 to R377) -/

/-- Changing the voter. -/
def State.modTrf (s : State) (f : TrfSt → TrfSt) : State := { s with trf := f s.trf }

/-- Counting a disagreement of copy k and noting its time (R376, R379). -/
def TrfSt.disagree (x : TrfSt) (k now : Nat) : TrfSt :=
  let y := { x with inVote := setBit x.inVote k false, resync := setBit x.resync k true, passed := setBit x.passed k false }
  if k = 0 then { y with dis0 := satInc y.dis0, at0 := now }
  else if k = 1 then { y with dis1 := satInc y.dis1, at1 := now }
  else { y with dis2 := satInc y.dis2, at2 := now }

/-- CK1 time at which copy k was voted out. -/
def TrfSt.outAt (x : TrfSt) (k : Nat) : Nat := if k = 0 then x.at0 else if k = 1 then x.at1 else x.at2

/-- No majority: every copy stops and TRF_NOVOTE is reported (R377). -/
def State.noVote (s : State) : State := (s.modTrf (fun x => { x with stopped := true })).raise 0 0x03 0x77

/-- Copies in the vote disagree with the rest: one of three is voted out; anything else leaves no majority
(R376, R377). -/
def State.trifleDiffers (s : State) (copies : BitVec 3) : State :=
  let d := copies &&& s.trf.inVote
  let ks := (List.range 3).filter (fun k => d.getLsbD k)
  if s.trf.stopped then s
  else
    match ks with
    | [] => s
    | [k] =>
      if s.trf.inVote = 7 then (s.modTrf (fun x => x.disagree k s.now)).raise 0 0x03 (0x71 + k) else s.noVote
    | _ => s.noVote

/-- The self-test of a copy that was voted out ends, 1,024 CK4 after the disagreement (R376). -/
def State.trifleTest (s : State) (k : Nat) (pass : Bool) : State :=
  if s.trf.stopped || !(s.trf.resync.getLsbD k) || decide (s.now < s.trf.outAt k + 1024 * ck4) then s
  else if pass then s.modTrf (fun x => { x with passed := setBit x.passed k true })
  else
    (s.modTrf (fun x => { x with resync := setBit x.resync k false, failed := setBit x.failed k true })).raise 0 0x03
      (0x74 + k)

/-- The lowest copy of the Trifle in the vote: it holds what the majority does. -/
def TrfSt.lead (x : TrfSt) : Nat := if x.inVote.getLsbD 0 then 0 else if x.inVote.getLsbD 1 then 1 else 2

/-- A copy that passed rejoins the vote 4,096 CK4 after the disagreement, its memory rewritten and its registers loaded
from the majority (R376). -/
def State.trifleRejoin (s : State) (k : Nat) : State :=
  if s.trf.stopped || !(s.trf.resync.getLsbD k) || !(s.trf.passed.getLsbD k) ||
      decide (s.now < s.trf.outAt k + 4096 * ck4) then s
  else
    (s.copyRange (trfBase s.trf.lead) (trfBase k) trfLen).modTrf (fun x =>
      { x with
        inVote := setBit x.inVote k true, resync := setBit x.resync k false, passed := setBit x.passed k false
        copy := x.copy.set (dflt {}) k (x.copy.get (dflt {}) x.lead) })

/-! ### The commands -/

/-- SIG_WINDOW_CLOSE. -/
def execSigWindowClose (t : Nat) (e : EngId) (differ : Bool) (s : State) : Host.Outcome State Fault Refusal :=
  .next ((s.to t).sigClose e.toNat differ)

/-- LOCKSTEP_MISMATCH: `comp` has a bit for each comparator that fires, and `pc` is the address of the
instruction whose write or request differed. -/
def execLockstepMismatch (t : Nat) (e : EngId) (comp : BitVec 4) (pc : Addr) (s : State) :
    Host.Outcome State Fault Refusal := .next ((s.to t).lockstepDiffers e.toNat comp pc)

/-- SELFTEST_END. -/
def execSelftestEnd (t : Nat) (e : EngId) (passM passK : Bool) (s : State) : Host.Outcome State Fault Refusal :=
  .next ((s.to t).selftestEnd e.toNat passM passK)

/-- JOIN_HANDOVER_END. -/
def execJoinHandoverEnd (t : Nat) (e : EngId) (s : State) : Host.Outcome State Fault Refusal :=
  .next ((s.to t).joinEnd e.toNat)

/-- ENGINE_MODE_RESET. -/
def execEngineModeReset (t : Nat) (e : EngId) (s : State) : Host.Outcome State Fault Refusal :=
  .next ((s.to t).modeReset e.toNat)

/-- COMPARATOR_TEST_START. -/
def execComparatorTestStart (t : Nat) (die : DieAddr) (s : State) : Host.Outcome State Fault Refusal :=
  .next ((s.to t).testStart die.toNat)

/-- COMPARATOR_TEST_END. -/
def execComparatorTestEnd (t : Nat) (die : DieAddr) (failed : BitVec 32) (s : State) :
    Host.Outcome State Fault Refusal := .next ((s.to t).testEnd die.toNat failed)

/-- TRIFLE_DISAGREE. -/
def execTrifleDisagree (t : Nat) (copies : BitVec 3) (s : State) : Host.Outcome State Fault Refusal :=
  .next ((s.to t).trifleDiffers copies)

/-- TRIFLE_SELFTEST_END. -/
def execTrifleSelftestEnd (t : Nat) (copy : BitVec 2) (pass : Bool) (s : State) : Host.Outcome State Fault Refusal :=
  .next ((s.to t).trifleTest copy.toNat pass)

/-- TRIFLE_REJOIN. -/
def execTrifleRejoin (t : Nat) (copy : BitVec 2) (s : State) : Host.Outcome State Fault Refusal :=
  .next ((s.to t).trifleRejoin copy.toNat)

end Sys2Proof.Machine
end

