-- ==== Sys2Proof/Machine/View.lean ====
section
/-!
DEFINITION. What every register reads as (R6, R10): the stored word of the CSR space with the fields that show
other state of the device laid over it. Each function gives the fields of one block that are not stored.
-/

namespace Sys2Proof.Machine

/-- Word i of a value, low word first. -/
def nthW (v i : Nat) : Nat := v / 2 ^ (16 * i) % 65536

/-- The port of a link has closed at a fence (R27, R37). -/
def State.portClosed (s : State) (l : LinkSt) : Bool :=
  match l.closedAt with | some t => decide (t ≤ s.now) | none => false

/-- CRB_STATUS.PULSE: the tray's pulse of EPULSE_N runs (R421, R427). -/
def State.pulseRuns (s : State) : Bool :=
  match s.crb.pulseEnd with | some e => decide (e ≤ s.now + pulseCk1) && decide (s.now < e) | none => false

/-- DIE block (R34 to R38): a fenced die's DIE_STATUS is the hub's copy. -/
def State.viewDie (s : State) (d off : Nat) : Nat :=
  let x := s.die d
  if off = 0 then d + 8 * typeOf d + 256
  else if decide (1 ≤ off) && decide (off ≤ 4) then nthW (Config.dieUid d).toNat (off - 1)
  else if off = 5 then
    if x.fenced then b2n x.cw + 2 * b2n x.ccw + 4
    else b2n x.cw + 2 * b2n x.ccw + (if d = 0 || isCompute d then 16 * x.drops.toNat else 0)
  else if decide (0x10 ≤ off) && decide (off < 0x18) then
    let l := s.link d (off - 0x10)
    b2n (l.up && !s.portClosed l) + 2 * l.repaired.toNat
  else if off = 0x20 then s.present.toNat
  else if off = 0x21 then ((List.range 8).filter (fun k => (s.die k).fenced)).foldl (fun a k => a + 2 ^ k) 0
  else if off = 0x23 then s.dies.hbMiss.toNat
  else 0

/-- CLK_STATUS of a die (R61). -/
def State.clkStatus (s : State) (d : Nat) : Nat :=
  let x := s.die d
  b2n (if d = 0 then s.clk.rootLk else s.clk.rootAt.getLsbD d) + 2 * b2n x.aligned + 4 * b2n (d == 0 && s.clk.monF) +
    8 * b2n x.pllA + 16 * b2n x.pllB

/-- CLK block (R61 to R64). -/
def State.viewClk (s : State) (d off : Nat) : Nat :=
  if off = 0 then s.clkStatus d
  else if decide (4 ≤ off) && decide (off < 8) then nthW s.clkTick (off - 4)
  else if off = 0x10 then s.clk.monRef.toNat
  else if off = 0x11 then s.clk.monCk8.toNat
  else if off = 0x12 then s.clk.monCause.toNat
  else 0

/-- CFG_BOOTk (R469). -/
def BootKind.word (b : BootKind) : Nat := b2n b.slot + 2 * b.failA.toNat + 16 * b.failB.toNat + 128 * b2n b.trial

/-- CFG block (R88 to R90, R469). -/
def State.viewCfg (s : State) (off : Nat) : Nat :=
  let c := s.cfg
  if off = 1 then s.cfgStatus.toNat
  else if off = 2 then c.reason.toNat
  else if off = 3 then c.refused.toNat
  else if off = 4 || off = 5 then nthW c.detail.toNat (off - 4)
  else if off = 6 then c.cmdErr.toNat
  else if off = 7 then c.notNow.toNat
  else if off = 0x10 || off = 0x11 then nthW c.imgVer.toNat (off - 0x10)
  else if off = 0x12 || off = 0x13 then nthW c.epoch.toNat (off - 0x12)
  else if decide (0x20 ≤ off) && decide (off < 0x30) then nthW c.digest.toNat (0x2F - off)
  else if off = 0x30 then s.bootRes.toNat
  else if decide (0x31 ≤ off) && decide (off < 0x34) then (s.bootKind (off - 0x31)).word
  else if off = 0x34 then s.cfgUpd.toNat
  else if off = 0x35 then s.boot.upd.erased
  else if off = 0x36 then s.boot.bootMs.toNat
  else 0

/-- Word 1 of a log entry as CRB_LOG shows it (R427). -/
def LogEntry.info (e : LogEntry) : Nat :=
  e.level.toNat + 8 * b2n e.note + 16 * b2n e.inj + 32 * b2n e.dry + 64 * b2n e.escNow + 128 * b2n e.esc +
    256 * e.dryCls.toNat + 4096 * e.die.toNat + 32768

/-- CRB block (R427, R379). -/
def State.viewCrb (s : State) (off : Nat) : Nat :=
  let c := s.crb
  if off = 2 then b2n c.mapLive + 2 * b2n (!c.eout.goal) + 4 * b2n s.pulseRuns
  else if off = 4 || off = 5 then nthW c.storm.toNat (off - 4)
  else if off = 6 then c.conseq.toNat
  else if off = 7 then c.logOvf.toNat
  else if off = 0x10 then c.firstFid.toNat
  else if off = 0x11 then c.firstLevel.toNat + 8 * b2n c.firstInj
  else if off = 0x12 || off = 0x13 then nthW c.firstCyc.toNat (off - 0x12)
  else if decide (0x20 ≤ off) && decide (off < 0x24) then
    match c.log with
    | [] => 0
    | e :: _ =>
      if off = 0x20 then e.fid.toNat else if off = 0x21 then e.info else nthW e.cyc.toNat (off - 0x22)
  else if off = 0x24 then c.log.length
  else if off = 0x30 || off = 0x31 then
    nthW (c.grace.foldl (fun a g => if g.2.isSome then a + 2 ^ g.1 else a) 0) (off - 0x30)
  else if decide (0x40 ≤ off) && decide (off < 0x60) then
    match c.grace.get (dflt none) (off - 0x40) with | some g => g.fid.toNat | none => 0
  else if decide (0x61 ≤ off) && decide (off ≤ 0x64) then (c.testCnt.get (dflt 0) (off - 0x60)).toNat
  else if off = 0xF00 then s.trf.inVote.toNat + 8 * s.trf.resync.toNat + 64 * s.trf.failed.toNat
  else if off = 0xF01 then s.trf.dis0.toNat
  else if off = 0xF02 then s.trf.dis1.toNat
  else if off = 0xF03 then s.trf.dis2.toNat
  else 0

/-- WDT block (R444, R445). -/
def State.viewWdt (s : State) (d off : Nat) : Nat :=
  if off = 0 then b2n (d == 0 && s.wdt.eraseBusy.isSome)
  else if off = 2 then s.wdt.rstEv.toNat
  else if off = 3 then s.wdt.eraseCap.toNat
  else if off = 4 then s.wdt.frzDrop.toNat
  else if off < 0x200 then 0
  else
    let k := wdtAt d off
    let u := s.wdtOf k
    match off % 0x10 with
    | 7 => u.chal.toNat
    | 8 => (s.wdtStat k).toNat
    | 9 => u.done.toNat
    | 10 => u.violCnt.toNat
    | 11 => u.svcCnt.toNat
    | _ => 0

/-- HBM block (R323). -/
def State.viewHbm (s : State) (off : Nat) : Nat :=
  let a := s.hbm.stack0
  let b := s.hbm.stack1
  match off with
  | 1 => s.hbmStatus.toNat
  | 2 => a.temp.toNat
  | 3 => b.temp.toNat
  | 4 => a.ceCnt.toNat
  | 5 => b.ceCnt.toNat
  | 6 => a.ueCnt.toNat
  | 7 => b.ueCnt.toNat
  | 8 => nthW s.hbm.elAddr.toNat 0
  | 9 => nthW s.hbm.elAddr.toNat 1
  | 10 => nthW s.hbm.elAddr.toNat 2
  | 11 => s.hbm.elInfo.toNat
  | 12 => s.hbm.elReq.toNat
  | 0x10 => nthW a.scrLine.toNat 0
  | 0x11 => nthW a.scrLine.toNat 1
  | 0x12 => nthW b.scrLine.toNat 0
  | 0x13 => nthW b.scrLine.toNat 1
  | 0x14 => a.sweeps.toNat
  | 0x15 => b.sweeps.toNat
  | _ => 0

/-- SFT block (R139). -/
def State.viewSft (s : State) (off : Nat) : Nat :=
  let k := s.sft (off / 0x100)
  match off % 0x100 with
  | 1 => b2n k.batch.isSome
  | 0x10 => nthW k.taken.toNat 0
  | 0x11 => nthW k.taken.toNat 1
  | 0x12 => k.dMism.toNat
  | 0x13 => k.dSens.toNat
  | 0x14 => k.dFmt.toNat
  | 0x15 => k.dNoise.toNat
  | 0x16 => k.dFut.toNat
  | 0x17 => k.dLate.toNat
  | 0x18 => k.dOutZ.toNat
  | 0x19 => k.dGrid.toNat
  | 0x1A => k.dBatch.toNat
  | 0x1B => k.extrap.toNat
  | _ => 0

/-- LAT block (R141). -/
def State.viewLat (s : State) (off : Nat) : Nat :=
  let l := s.lat
  match off with
  | 1 => b2n l.running + 2 * b2n l.clear.isSome
  | 0x10 => nthW l.fn.toNat 0
  | 0x11 => nthW l.fn.toNat 1
  | 0x12 => (slotOfFn l.fn).toNat
  | 0x13 => nthW l.bTime.toNat 0
  | 0x14 => nthW l.bTime.toNat 1
  | 0x15 => nthW l.bTime.toNat 2
  | 0x16 => l.nDrop.toNat
  | 0x19 => l.pack.state.code.toNat + 4 * (if l.pack.state = .failed then l.pack.fail.toNat else 0)
  | 0x1A => nthW l.pack.ver.toNat 0
  | 0x1B => nthW l.pack.ver.toNat 1
  | _ => 0

/-- VDG_STATUS.OUT (R163). -/
def outCode : Verdict → Nat
  | .stop => 0 | .go => 1 | .limit => 2

/-- VDG block (R163). -/
def State.viewVdg (s : State) (off : Nat) : Nat :=
  let v := s.vdg
  match off with
  | 1 => (if s.cfg.state = .safe || v.forced then 0 else outCode v.out) + 4 * b2n v.forced + 8 * b2n v.pending
  | 0x10 => nthW v.lastFn.toNat 0
  | 0x11 => nthW v.lastFn.toNat 1
  | 0x12 => v.lastCode.toNat
  | 0x13 => v.lastCap.toNat
  | 0x14 => v.cDefault.toNat
  | 0x15 => v.cLate.toNat
  | 0x16 => v.cDup.toNat
  | 0x17 => v.cBad.toNat
  | 0x18 => v.cStale.toNat
  | 0x19 => v.cConfl.toNat
  | 0x1A => v.mseq.toNat
  | 0x20 => (s.arrReads 0).toNat
  | 0x21 => (s.arrReads 1).toNat
  | 0x22 => (s.arrReads 2).toNat
  | _ => 0

/-- LDG block (R197). -/
def State.viewLdg (s : State) (off : Nat) : Nat :=
  let l := s.ldg
  if off = 1 then b2n s.ledgerKeyOk + 2 * b2n l.sign.isSome + 4 * b2n l.frozen
  else if decide (2 ≤ off) && decide (off < 6) then nthW l.seq.toNat (off - 2)
  else if off = 6 then l.pending.length
  else if off = 7 then l.lost.toNat
  else if off = 8 then l.exDrop.toNat
  else if decide (0x10 ≤ off) && decide (off < 0x20) then nthW l.head.toNat (0x1F - off)
  else 0

/-- POS block (R195). -/
def State.viewPos (s : State) (off : Nat) : Nat :=
  let p := s.pos
  if off = 1 then s.posStatus.toNat
  else if off = 0x10 || off = 0x11 then nthW p.east.toNat (off - 0x10)
  else if off = 0x12 || off = 0x13 then nthW p.north.toNat (off - 0x12)
  else if off = 0x14 then p.speed.toNat
  else if off = 0x15 then p.hdg.toNat
  else if off = 0x16 || off = 0x17 then nthW p.hpl.toNat (off - 0x16)
  else if decide (0x18 ≤ off) && decide (off < 0x1B) then nthW p.odo.toNat (off - 0x18)
  else 0

/-- CUS_STATUS without its sticky bit (R496). -/
def State.cusStatus (s : State) : Nat :=
  s.life + 4 * b2n s.cus.keyOk + 8 * b2n s.cus.owner.isSome + 16 * b2n s.cus.zeroed

/-- CUS_ROOTS (R496). -/
def State.cusRoots (s : State) : Nat :=
  (List.range 4).foldl (fun a i =>
    a + 2 ^ i * b2n (s.otp (0x10 + 0x40 * i + 32) != 0) + 2 ^ (4 + i) * b2n (s.otp (0x10 + 0x40 * i + 33) != 0) +
      2 ^ (8 + i) * b2n (s.certWritten i)) 0

/-- CUS block (R496). CUS_TRESP is shown by the override of `State.view`. -/
def State.viewCus (s : State) (off : Nat) : Nat :=
  let c := s.cus
  if off = 0 then s.cusStatus
  else if off = 1 then s.cusRoots
  else if off = 2 || off = 3 then nthW s.sealEpoch (off - 2)
  else if off = 4 || off = 5 then nthW s.fwCounter (off - 4)
  else if off = 0x12 then c.tMap.toNat + 32768 * b2n c.tValid
  else if decide (0x13 ≤ off) && decide (off < 0x18) then nthW c.tTime.toNat (off - 0x13)
  else if off = 0x18 then c.tCnt.toNat
  else 0

/-- Word w of the live field record with its CRC (R510). -/
def State.fldWord (s : State) (w : Nat) : Word := if w < 638 then s.bbx.fld.get (dflt 0) w else wordAt s.fldWords w

/-- BBX block (R515). -/
def State.viewBbx (s : State) (off : Nat) : Nat :=
  let b := s.bbx
  if off = 0 then b2n b.ready + 2 * b2n b.flush.isSome + 4 * b2n b.fldOk
  else if off = 2 || off = 3 then nthW b.next.toNat (off - 2)
  else if off = 4 then b.fifo.length
  else if off = 5 then b.lost.toNat
  else if off = 6 then b.fwDrop.toNat
  else if off = 0x21 then (s.fldWord (s.reg 0 0x0C 0x20).toNat).toNat
  else if decide (0x400 ≤ off) && decide (off < 0x680) then (s.fldWord (off - 0x400)).toNat
  else 0

/-- DBG block (R498): the hub's session registers, and HALTED of the cores of a compute die. -/
def State.viewDbg (s : State) (d off : Nat) : Nat :=
  let g := s.dbg
  if d = 0 then
    match off with
    | 0 => (match g.session with | none => 0 | some x => 1 + 8 * x.rights.toNat)
    | 2 => nthW g.denyCnt.toNat 0
    | 3 => nthW g.denyCnt.toNat 1
    | 4 => g.denyInfo.toNat
    | 5 => g.sessions.toNat
    | 6 => g.tokRes.toNat
    | _ => 0
  else if decide (0x100 ≤ off) && decide (off < 0x140) then
    let c := 2 * engAt d ((off - 0x100) / 2) + off % 2
    8 * b2n ((s.coreOf c).runst == .halted)
  else 0

/-- The engine control block of one core (R238). -/
def State.viewEng (s : State) (d b off : Nat) : Nat :=
  let c := 2 * engAt d (b - 0x10) + off / 0x100
  let k := s.coreOf c
  match off % 0x100 with
  | 0 => if s.noCore c then 0 else s.runstCode c + 4 * b2n (s.splitShown (coreEng c)) + 8 * b2n k.df
  | 4 => k.lastRst.toNat
  | 5 => k.triples.toNat
  | _ => 0

/-- QUE_USED: the sum of the committed depths of a die (R297). -/
def State.queUsed (s : State) (d : Nat) : Nat :=
  (s.queue.map (fun q => if q.1 / 512 = d then q.2.depth else 0)).sum

/-- QUE_FILLq (R297). -/
def State.queFill (s : State) (d q : Nat) : Nat :=
  (s.queueOf d q).fill s.now + (match s.head d q with | some f => 32768 * b2n f.poison | none => 0)

/-- QUE block (R297). -/
def State.viewQue (s : State) (d off : Nat) : Nat :=
  if off = 1 then s.queUsed d % 65536
  else if decide (0x800 ≤ off) && decide (off < 0xC00) then s.queFill d (off - 0x800)
  else 0

/-- LKS block (R380). -/
def State.viewLks (s : State) (d off : Nat) : Nat :=
  if off < 0x100 then 0
  else
    let e := engAt d ((off - 0x100) / 0x10)
    let x := s.engOf e
    let o := off % 0x10
    let ck := match x.ckpt with | some k => k.pc.toNat | none => 0
    match o with
    | 1 => (s.lksShown e).code.toNat + 8 * b2n x.ckValid + 16 * b2n (x.replay.any (fun t => decide (s.now < t)))
    | 2 => x.cause.toNat + 4 * x.outcome.toNat + 32 * b2n x.inj
    | 3 => x.mism.toNat
    | 4 => x.trans.toNat
    | 5 => x.journal.length
    | 6 => nthW ck 0
    | 7 => nthW ck 1
    | 8 => nthW ck 2
    | 9 => nthW x.dpc.toNat 0
    | 10 => nthW x.dpc.toNat 1
    | 11 => nthW x.dpc.toNat 2
    | _ => 0

/-- ETH_TXPN: the next transmit PN of the association that ETH_SATX names (R524, R539). -/
def State.ethTxPn (s : State) (p : Nat) : Nat :=
  match s.saOf p true (s.fld (pd p) 0x40 0x211 1 0) with | some x => x.pn | none => 0

/-- The registers of one Ethernet position (R539). -/
def EthPort.view (e : EthPort) (o : Nat) : Nat :=
  match o with
  | 0x0B => b2n e.link
  | 0x0C => e.rxBad.toNat
  | 0x0D => e.rxOther.toNat
  | 0x0E => e.rxLong.toNat
  | 0x0F => e.txLost.toNat
  | 0x10 => e.secFail.toNat
  | 0x11 => nthW e.rxFrm.toNat 0
  | 0x12 => nthW e.rxFrm.toNat 1
  | 0x13 => nthW e.txFrm.toNat 0
  | 0x14 => nthW e.txFrm.toNat 1
  | _ => 0

/-- ETH block (R539). -/
def State.viewEth (s : State) (p off : Nat) : Nat :=
  let x := s.pdie p
  if off = 1 then x.mbxRx.length % 4096 + 4096 * b2n (s.mbxBusy p)
  else if off = 2 then (wordAt x.mbxRx 0).toNat
  else if off = 5 then x.mbxDrop.toNat
  else if off = 6 then x.rxFull.toNat
  else if decide (0x100 ≤ off) && decide (off < 0x200) then (s.ethOf p ((off - 0x100) / 0x20)).view (off % 0x20)
  else if off = 0x212 || off = 0x213 then nthW (s.ethTxPn p) (off - 0x212)
  else if decide (0x1000 ≤ off) && decide (off < 0x1800) then (wordAt x.mbxRx (off - 0x1000)).toNat
  else 0

/-- T1S block (R540). -/
def State.viewT1s (s : State) (p off : Nat) : Nat :=
  let x := (s.pdie p).t1s
  if off = 4 then x.dupCnt.toNat else if off = 5 then x.noBcnCnt.toNat else if off = 6 then x.txDrop.toNat else 0

/-- CANX block (R541). -/
def State.viewCan (s : State) (p off : Nat) : Nat :=
  if decide (0x100 ≤ off) && decide (off < 0x300) then
    let x := s.canOf p (off / 0x100 - 1)
    match off % 0x100 with
    | 0x10 => x.state.toNat + 4 * x.tec.toNat
    | 0x11 => x.recv.toNat
    | 0x12 => x.rxMiss.toNat
    | 0x13 => x.rxOvf.toNat
    | 0x14 => x.txDrop.toNat
    | 0x15 => x.txBad.toNat
    | _ => 0
  else 0

/-- MSI block (R542). -/
def State.viewMsi (s : State) (off : Nat) : Nat :=
  let x := s.port.msi
  match off with
  | 1 => nthW x.pulses.toNat 0
  | 2 => nthW x.pulses.toNat 1
  | 4 => (match x.drx with | [] => 0 | b :: _ => b.toNat + 32768)
  | 6 => x.rateErr.toNat
  | _ => 0

/-- CARD block (R542). -/
def State.viewCard (s : State) (p off : Nat) : Nat :=
  let x := s.cardOf p
  match off with
  | 1 => b2n x.present + 2 * b2n x.active
  | 7 => (match x.rx with | [] => 0 | b :: _ => b.1.toNat + 256 + 512 * b2n b.2)
  | 8 => x.removals.toNat
  | _ => 0

/-- SPIU block (R542); SPIU_GIN shows the levels last drawn. -/
def State.viewSpiu (s : State) (p off : Nat) : Nat :=
  if decide (0x100 ≤ off) && decide (off < 0x180) then
    let x := s.spiOf (spiNo p ((off - 0x100) / 0x40))
    match off % 0x40 with
    | 3 => (wordAt x.rx 0).toNat
    | 4 => x.rx.length % 128 + 128 * (x.tx.length % 256) + 32768 * b2n x.busy
    | _ => 0
  else if off = 0x185 then (s.spiOf 1).autoLate.toNat
  else if off = 0x303 then (match (s.pdie p).uart.rx with | [] => 0 | b :: _ => b.1.toNat + 256 + 512 * b2n b.2)
  else if off = 0x382 then
    let dir := (s.live (pd p) 0x45 0x380).toNat % 256
    ((s.reg (pd p) 0x45 0x381).toNat &&& dir) ||| ((s.pdie p).uart.gin.toNat &&& (255 - dir))
  else 0

/-- CVU block (R399). -/
def State.viewCvu (s : State) (p off : Nat) : Nat :=
  if off = 1 then (s.cvu.noId.get (dflt 0) p).toNat
  else if off = 2 then (s.cvu.mismCnt.get (dflt 0) p).toNat
  else if decide (0x100 ≤ off) && decide (off < 0x200) then
    let r := s.rxOf p ((off - 0x100) / 0x10)
    match off % 0x10 with
    | 3 => r.last.toNat
    | 4 => b2n r.run + 2 * r.runLen.toNat + 8 * r.resync.toNat
    | 5 => r.ok.toNat
    | 6 => r.skip.toNat
    | 7 => r.rep.toNat
    | 8 => r.seq.toNat
    | 9 => r.crc.toNat
    | 10 => r.tmo.toNat
    | _ => 0
  else if decide (0x300 ≤ off) && decide (off < 0x380) then
    let x := s.txOf p ((off - 0x300) / 8)
    match off % 8 with
    | 2 => x.ctr.toNat
    | 3 => x.sent.toNat
    | 4 => x.drop.toNat
    | _ => 0
  else if decide (0x500 ≤ off) && (off % 8 == 4 || off % 8 == 5) then
    let n := (off - 0x500) / 8
    nthW (polyFinal (s.calcPoly (pd p) n) (s.calcVal (pd p) n)).toNat (off % 8 - 4)
  else 0

/-- TIME block of the hub (R193). -/
def State.viewTime (s : State) (off : Nat) : Nat :=
  if off = 1 then s.time.tq.code.toNat
  else if decide (2 ≤ off) && decide (off < 7) then nthW s.timeNow.toNat (off - 2)
  else if off = 0x10 || off = 0x11 then nthW s.time.unc.toNat (off - 0x10)
  else if decide (0x14 ≤ off) && decide (off < 0x19) then nthW s.time.pps.toNat (off - 0x14)
  else 0

/-- TIME block of a port die (R543). -/
def State.viewStamp (s : State) (p off : Nat) : Nat :=
  if off < 0x10 then 0
  else if off % 8 < 5 then nthW (s.ethOf p ((off - 0x10) / 8)).txTs.toNat (off % 8) else 0

/-- The fields of a word that are not stored. -/
def State.shown (s : State) (die blk off : Nat) : Nat :=
  let p := die - 5
  match blk with
  | 0x00 => s.viewDie die off
  | 0x01 => s.viewClk die off
  | 0x02 => s.viewCfg off
  | 0x03 => s.viewCrb off
  | 0x04 => s.viewWdt die off
  | 0x05 => s.viewHbm off
  | 0x06 => s.viewSft off
  | 0x07 => s.viewLat off
  | 0x08 => s.viewVdg off
  | 0x09 => s.viewLdg off
  | 0x0A => s.viewPos off
  | 0x0B => s.viewCus off
  | 0x0C => s.viewBbx off
  | 0x0D => s.viewDbg die off
  | 0x30 => s.viewQue die off
  | 0x32 => s.viewLks die off
  | 0x40 => (s.handed p).viewEth p off
  | 0x41 => s.viewT1s p off
  | 0x42 => s.viewCan p off
  | 0x43 => s.viewMsi off
  | 0x44 => s.viewCard p off
  | 0x45 => s.viewSpiu p off
  | 0x46 => (s.handed p).viewCvu p off
  | 0x47 => if die = 0 then s.viewTime off else s.viewStamp p off
  | _ => if decide (0x10 ≤ blk) && decide (blk ≤ 0x2F) then s.viewEng die blk off else 0

/-- What a word reads as now, captures apart (R6, R10): CLK_EN's fixed bits of a compute die read 1 through
its reset value, and CUS_TRESP shows what the lifecycle makes of it (R496). -/
def State.view (s : State) (die blk off : Nat) : Word :=
  if blk = 0 && off = 5 && (s.die die).fenced then BitVec.ofNat 16 (s.shown die blk off)
  else if blk = 0x0B && off = 0x11 then
    (if s.provisioned then (s.reg die blk off &&& 0x00FF) ||| 0x0021 else 0)
  else s.reg die blk off ||| BitVec.ofNat 16 (s.shown die blk off)

end Sys2Proof.Machine
end

