-- ==== Sys2Proof/Machine/Boot.lean ====
section
/-!
DEFINITION. Start-up, power loss and resets: the reset pins (R447, R448), what each device reset keeps (R449),
the steps of R450, the choice of the firmware slot (R454, R461), module placement (R456), the confirmation of
slots (R462) and the erasure of an update session (R465).
-/

namespace Sys2Proof.Machine

/-! ### The end of a reset and power-up (R447, R450, R470 of time: R170) -/

/-- The reset ends: start-up begins, with the ROOT lock and the first alignment marker (R46, R450). The Trifle
starts 100 µs later after a warm reset under which the ROOT PLL stayed locked, 2.000 ms later otherwise (R448). -/
def State.bootStart (s : State) : State :=
  let quick := s.boot.rstKind != .powerOn && s.clk.rootLk
  let s := { s with
    boot := { s.boot with
      phase := .starting s.now, startAt := s.now, trifleDue := s.now + (if quick then 100 * usCk1 else 2 * msCk1) }
    bbx := { s.bbx with fldAt := s.now } }
  s.alignMarker 0

/-- A device reset takes place: power-on ends in power-on reset, a warm one runs its start-up unless RESET_N is
low (R447 to R449). The tamper registers are the VBAT domain's (R482). -/
def State.resetDevice (s : State) (kind : ResetKind) : State :=
  if kind = .powerOn then (s.deviceReset kind .off).vbatShow
  else if s.boot.resetLow then (s.deviceReset kind .held).vbatShow
  else ((s.deviceReset kind .held).vbatShow).bootStart

/-- Device time of the ledger's MRAM head; 0 where neither head copy holds (R170). -/
def State.headTime (s : State) : BitVec 80 :=
  match s.bootCopy with
  | some c => c.2.tsec ++ c.2.tns
  | none => 0

/-- Device time at power-up: the head's time with the elapsed count, HOLDOVER and 5 % of the time off on
TIME_UNC; with VBAT lost, the head's time, UNSET and TIME_UNC at its largest (R169, R170). The count is in OSC
of 10 ns. -/
def State.powerTime (s : State) : State :=
  let was := s.headTime
  let off := if s.boot.vbatLost then 0 else s.boot.offOsc
  let s := { s with time := { ({} : TimeSt) with
    base := time32Of was + off * 10 * 2 ^ 32, tick := s.clkTick
    tq := if s.boot.vbatLost then .unset else .holdover
    unc := if s.boot.vbatLost then 0xFFFFFFFF else satAdd s.time.unc (off / 2000) } }
  { s with boot := { s.boot with timeWas := was, timeSet := s.timeNow } }

/-- The event time that the sequencer stamped with main power off: the head's time with its elapsed count
(R179, R485). -/
def stampOff (was : BitVec 80) (osc : Nat) : BitVec 80 :=
  let ns := time32Of was / 2 ^ 32 + osc * 10
  BitVec.ofNat 48 (ns / 1000000000) ++ BitVec.ofNat 32 (ns % 1000000000)

/-- The custody block reads the tamper latch at power-up, BATT with it, and zeroises where a ZEROISE sensor is
held, before any key is derived (R481, R485). -/
def State.tamperBoot (s : State) : State :=
  let m := s.cus.offMap ||| (if s.boot.vbatLost then 0x80 else 0)
  if m = 0 then s
  else
    let zer := m &&& s.zerMask != 0
    let time := stampOff s.boot.timeWas s.cus.offCount
    let s := { s with
      cus := { s.cus with tMap := m, tValid := true, tTime := time, offMap := 0, offCount := 0 }
      boot := { s.boot with tamperMap := m, tamperZer := zer } }
    let s := (s.countTrips m).raise 0 0x0B 1
    if zer then s.eraseSecrets.setZeroed else s

/-- Power-on start-up: PORST_N is high and the power-on detector has released (R447, R547). -/
def State.powerUp (s : State) : State :=
  let s := (if s.boot.vbatLost then s.vbatReset.vbatShow else s).powerTime
  let s := if s.boot.resetLow then { s with boot := { s.boot with phase := .held } } else s.bootStart
  s.tamperBoot

/-- The rails that hold the device in power-on reset: VDDH, VDDS, VDDNV (R547). -/
def coreRails (ok : BitVec 13) : Bool := ok.getLsbD 1 && ok.getLsbD 2 && ok.getLsbD 5

/-- The rails of the hub core: below its limit each holds the device in power-on reset (R547). -/
def coreRail (rail : Nat) : Bool := rail == 1 || rail == 2 || rail == 5

/-- An UNDER excursion for each rail that is out of limits as PORST_N rises, but the rails of R547 and VHOLD,
which is judged at power loss (R511, R551). -/
def State.railsAtPower (s : State) (ok : BitVec 13) : State :=
  (List.range 12).foldl (fun (s : State) r =>
    if ok.getLsbD r || coreRail r then s else s.railCount r false) s

/-- POWER_GOOD: PORST_N rises (R447, R551). -/
def State.powerGood (s : State) (ok : BitVec 13) (vbatLost : Bool) (elapsed : Nat) : State :=
  if s.boot.phase ≠ .off || s.boot.porst then s
  else
    let s := { s with boot := { s.boot with
      porst := true, podOk := coreRails ok, offOsc := elapsed, vbatLost := vbatLost } }
    let s := s.railsAtPower ok
    if s.boot.podOk then s.powerUp else s

/-- The internal power-on detector releases (R547). -/
def State.detectorRelease (s : State) : State :=
  if s.boot.podOk then s
  else
    let s := { s with boot := { s.boot with podOk := true } }
    if s.boot.phase = .off && s.boot.porst then s.powerUp else s

/-! ### Power loss and the flush (R187, R447, R508, R550) -/

/-- The load that is shed at power loss: compute dies, port PHYs and MACs, Sifters (R550). -/
def State.shedLoad (s : State) : State :=
  let hold : CoreSt → CoreSt := fun c => { c with runst := .reset }
  let s := (List.range 128).foldl (fun (s : State) e =>
    ((s.modCore (2 * e) hold).modCore (2 * e + 1) hold).wdtStop e) s
  let s := (s.modSft 0 (fun k => { k with batch := none })).modSft 1 (fun k => { k with batch := none })
  [(0, 0), (0, 1), (0, 4), (0, 5), (1, 0), (1, 1), (1, 4), (1, 5)].foldl (fun (s : State) (x : Nat × Nat) =>
    (s.modPdie x.1 (fun d => { d with hands := [] })).modEth x.1 x.2 (fun e => { e with link := false, txq := [] })) s

/-- The copy of the ledger head that is being written is left with a bad CRC, its words undefined, and the POWER record
of the next boot carries LOSS (R187). -/
def State.ledgerBroken (s : State) : State :=
  let x := s.draw
  let s := if s.nvGone then s else x.2.store (ldgBase false) ((List.range 32).map (fun i => Config.freeCell x.1 i))
  { s with ldg := { s.ldg with copyA := { s.ldg.copyA with headOk := false }, lossNext := true } }

/-- The tin entry that is being written is left with a bad CRC in copy A: undefined words, and a CRC that does
not hold (R508). -/
def State.tinBroken (s : State) : State :=
  if s.bbx.ready && !s.nvGone && !(s.bbx.fifo ++ s.bbx.power.toList).isEmpty && !s.bbx.full then
    let x := s.draw
    let ws := (List.range 30).map (fun i => Config.freeCell x.1 i)
    x.2.store (bbxA + 32 * bbxPos s.bbx.next.toNat) (ws ++ lowHigh (~~~(crc32c (bytesOf ws))))
  else s

/-- VHOLD has collapsed before the flush ended (R187, R508, R551). -/
def State.collapse (s : State) : State :=
  match s.boot.phase with
  | .flush .powerOn _ => (s.ledgerBroken.tinBroken).resetDevice .powerOn
  | _ => s

/-- The flush of a power loss starts, or the running flush becomes one, and load is shed (R187, R447, R550). -/
def State.lossFlush (s : State) : State :=
  match s.boot.phase with
  | .flush _ _ => { s with boot := { s.boot with phase := .flush .powerOn s.now } }.shedLoad
  | _ => (s.startFlush .powerOn 2).shedLoad

/-- The rails that hold the device up through a flush (R550). -/
def holdRail (rail : Nat) : Bool := coreRail rail || rail == 9 || rail == 10

/-- A rail leaves its operating limits (R511, R546). A hold-up rail that falls in the flush of a power loss ends it as a
collapse of VHOLD does (R551); a hub-core rail that falls at any other time puts the device into power-on reset until the
detector releases (R448, R547; assumption 131). -/
def State.railExcursion (s : State) (rail : Nat) (high : Bool) : State :=
  if 12 < rail then s
  else
    let s := s.railCount rail high
    let core := coreRail rail && !high
    let s := if core then { s with boot := { s.boot with podOk := false } } else s
    match s.boot.phase with
    | .off => s
    | .flush .powerOn _ => if holdRail rail && !high then s.collapse else s
    | _ => if core then s.resetDevice .powerOn else s

/-- POWER_LOSS: PORST_N falls (R447). Before the Trifle has started there is nothing to flush. Both flushes start
even where VHOLD is below its limit, which counts as an excursion (R511, R560). -/
def State.powerLoss (s : State) (vholdGood : Bool) : State :=
  if !s.boot.porst then s
  else
    let s := { s with boot := { s.boot with porst := false } }
    let s := if vholdGood then s else s.fldAdd16 296 1
    match s.boot.phase with
    | .off => s
    | .held => s.resetDevice .powerOn
    | .starting _ => s.resetDevice .powerOn
    | _ => s.lossFlush

/-- 1.2 ms after PORST_N fell the device resets, whatever the flush has done (R447). -/
def State.flushDeadline (s : State) : State :=
  match s.boot.phase with
  | .flush .powerOn t => if s.now < t + 1200 * usCk1 then s else (s.ledgerBroken.bbxFlush).resetDevice .powerOn
  | _ => s

/-- The flush ends, and the pending device reset takes place (R187, R448); a ZEROISE sequence that runs comes first (R486,
R514). -/
def State.flushEnd (s : State) : State :=
  match s.boot.phase with
  | .flush kind _ =>
    let s := if s.bbx.flush.isSome && s.dies.enumAt.isSome then s.ledgerFlush (kind == .powerOn) else s
    let s := s.bbxFlush
    if s.cus.seq.isSome && kind != .powerOn then s else s.resetDevice kind
  | _ => s

/-- Zeroisation ends 20,000 OSC later: ZEROED, the report, and a warm reset of kind tamper (R483, R484), at once where a
flush has ended already (R514). -/
def State.zeroEnd (s : State) : State :=
  match s.cus.seq with
  | some ⟨_, some z⟩ =>
    if s.now < z + oscMin 20000 then s
    else
      let s := s.eraseSecrets.setZeroed
      let s := { s with cus := { s.cus with seq := none } }
      match s.boot.phase with
      | .flush kind _ => if s.bbx.flush.isNone then s.bbxFlush.resetDevice kind else s
      | _ => s.warmReset .tamper false
  | _ => s

/-- RESET_N has been low for 1,500 CK4: a warm reset (R447), which clears the evidence of an earlier watchdog reset
(R438). -/
def State.resetRequest (s : State) : State :=
  let s := { s with boot := { s.boot with resetLow := true } }
  match s.boot.phase with
  | .held => s
  | .starting _ => { s with wdt := { s.wdt with rstEv := rstEvFor .resetN s.wdt.rstEv } }.resetDevice .resetN
  | _ => s.warmReset .resetN false

/-- RESET_N rises: a device held in reset starts (R447). -/
def State.resetRelease (s : State) : State :=
  let s := { s with boot := { s.boot with resetLow := false } }
  if s.boot.phase = .held then s.bootStart else s

/-! ### The Trifle starts (R378, R450) -/

/-- The Trifle vote test: each copy is voted out and reported in its turn, and one that fails stays out (R378,
R453). -/
def State.voteTest (s : State) (failed : BitVec 3) : State :=
  (List.range 3).foldl (fun (s : State) k =>
    let s := (s.modTrf (fun x =>
      if k = 0 then { x with dis0 := satInc x.dis0 } else if k = 1 then { x with dis1 := satInc x.dis1 }
      else { x with dis2 := satInc x.dis2 })).raise 0 0x03 (0x71 + k)
    if failed.getLsbD k then
      ((s.modTrf (fun x => { x with inVote := setBit x.inVote k false, failed := setBit x.failed k true })).raise 0 0x03
        (0x74 + k)).bbxReq 0x06 [2, BitVec.ofNat 16 k]
    else s) s

/-- R462 over every slot at the start of a boot. -/
def State.rejectSlots (s : State) : State :=
  [0, 1, 2].foldl (fun (s : State) k => (s.rejectSlot k false).rejectSlot k true) s

/-- TRIFLE_START: the boot ROM issues its first instruction: enumeration and the Trifle watchdogs start, the
stores and the boot record are read, the device key is derived (R22, R441, R450, R454, R474, R546). -/
def State.trifleStart (s : State) (failed : BitVec 3) : State :=
  match s.boot.phase with
  | .starting _ =>
    if s.now < s.boot.trifleDue then s
    else
      let s := { s with
        boot := { s.boot with phase := .rom, trifleAt := s.now }
        dies := { s.dies with enumAt := some s.now }
        cus := { s.cus with voltArmed := true, keyOk := s.cus.helper && !s.cus.zeroed } }
      let s := (s.wdtStart 0 s.now).wdtStart 1 s.now
      ((s.fldLoad.ledgerBoot).repairRecord.rejectSlots).voteTest failed
  | _ => s

/-- The Trifle has started and no reset runs. -/
def Phase.up : Phase → Bool
  | .rom => true | .firmware => true | .halted => true | .recovery => true | _ => false

/-- RSTOUT_N is released 1.000 ms after the Trifle started (R447). -/
def State.rstRelease (s : State) : State :=
  if s.boot.phase.up && decide (s.boot.trifleAt + msCk1 ≤ s.now) then { s with boot := { s.boot with rstOut := true } }
  else s

/-! ### Firmware starts (R454, R455, R461) -/

/-- The try of the firmware candidates in order: the slot that passes, or none (R461). -/
def State.fwTry (s : State) : List Bool → State × Option Bool
  | [] => (s, none)
  | slot :: rest =>
    let s := (s.bootTry 0 slot).bundleReads slot
    match s.bundleCheck slot with
    | none => (s, some slot)
    | some code => (s.bootFailed 0 slot code).fwTry rest

/-- Seconds off, whole (R179). -/
def State.secondsOff (s : State) : Nat := s.boot.offOsc / 100000000

/-- The POWER record of this boot (R179, R463). -/
def State.powerRecord (s : State) : PendRec :=
  let on := s.boot.rstKind == .powerOn
  s.ledgerForm 0x0A 0
    ([if on then 1 else 3, s.wdt.rstEv] ++ wordsLow 3 (if on then s.secondsOff else 0) ++
      [BitVec.ofNat 16 (b2n (on && s.boot.vbatLost) + 2 * b2n (s.bootKind 1).rejected), BitVec.ofNat 16 (b2n (s.bootKind 1).first)])

/-- The records of a boot go before any other: POWER, TAMPER seen at boot, and TIME of the step at power-up
(R168, R187, R485); the close with cause 5 is ordered. -/
def State.bootRecords (s : State) : State :=
  if s.ldg.frozen then s
  else
    let on := s.boot.rstKind == .powerOn
    let tam := if s.boot.tamperMap = 0 then []
      else [s.ledgerForm 0x07 0 (tamperRecord s.boot.tamperMap s.boot.tamperZer true s.cus.tTime)]
    let tim := if on then
        [s.ledgerForm 0x09 0 (timeWords s.boot.timeWas ++ timeWords s.boot.timeSet ++ [3] ++ lowHigh s.time.unc)]
      else []
    { s with ldg := { s.ldg with pending := s.powerRecord :: tam ++ tim ++ s.ldg.pending, closeCause := some 5 } }

/-- The tin entries of a boot: BOOT, CLOCK of a monitor trip, TAMPER seen at boot (R504). -/
def State.bootEntries (s : State) : State :=
  let s := s.bbxReq 0x01 [s.boot.rstKind.code.setWidth 16, s.wdt.rstEv, s.present.setWidth 16, BitVec.ofNat 16 (s.clkStatus 0)]
  let s := if s.clk.monF then
      s.bbxReq 0x03 [s.clk.monCause.setWidth 16, s.clk.monRef.setWidth 16, s.clk.monCk8.setWidth 16]
    else s
  if s.boot.tamperMap = 0 then s
  else s.bbxReq 0x0C (s.tamperEntry s.boot.tamperMap s.boot.tamperZer true s.cus.tTime)

/-- The ROM copies the TRIFLE module to its place in the memory of every copy and jumps to its first word (R375, R376,
R454, R456). -/
def State.copyTrifle (s : State) (slot : Bool) : State :=
  match s.bundle slot with
  | [] => s
  | m :: _ =>
    (List.range 3).foldl (fun (s : State) k =>
      if s.trf.inVote.getLsbD k || s.trf.resync.getLsbD k then
        (s.store (trfBase k + m.dest) (s.rds m.data m.len)).modTrf (fun x =>
          { x with copy := x.copy.modify (dflt {}) k (fun c => { c with pc := BitVec.ofNat 48 m.dest }) })
      else s) s

/-- FIRMWARE_START: the ROM has verified a firmware slot and starts it, or enters recovery (R453, R454, R458). -/
def State.firmwareStart (s : State) : State :=
  if s.boot.phase ≠ .rom || s.dies.enumEnd.isNone || s.trf.stopped then s
  else
    let s := s.bootChoose 0
    match s.fwTry (s.bootKind 0).cand with
    | (s, none) => { s with boot := { s.boot with phase := .recovery, stage := 8 } }
    | (s, some slot) =>
      let s := (s.bootUse 0 slot).copyTrifle slot
      let s := { s with boot := { s.boot with phase := .firmware, stage := 1 } }
      (((s.bootChoose 1).bootChoose 2).haltImage).bootRecords.bootEntries

/-! ### Engine modules (R456) -/

/-- Placing a module. -/
def State.placeModule (s : State) (m : BundleMod) : State := s.store m.dest (s.rds m.data m.len)

/-- MODULE_PLACE: the modules but the first are placed, or the firmware slot is marked under R462 and a warm reset
requested (R456). -/
def State.modulePlace (s : State) : State :=
  let slot := (s.bootKind 0).slot
  if s.boot.phase ≠ .firmware || s.boot.stage ≠ 2 || !s.boot.hbmDone || s.stackFailed || s.boot.placed || s.trf.stopped then s
  else if s.modulesOk slot then
    let s := ((s.bundle slot).drop 1).foldl State.placeModule s
    { s with boot := { s.boot with placed := true, stage := 3 } }
  else
    let r := s.slotRec 0 slot
    let s := ((s.setFail 0 slot 3).setSlotRec 0 slot { r with state := slotRejected }).slotEntry 0 slot 3 1
    s.warmReset .resetN false

/-! ### Confirmation and the OTP counters (R457, R462, R473) -/

/-- Setting the lowest clear bits of a run of OTP words until `n` more are set. -/
def otpSet : Nat → List Word → List Word
  | _, [] => []
  | 0, ws => ws
  | n + 1, w :: ws =>
    let x := (List.range 16).foldl (fun (x : Word × Nat) i =>
      if x.1.getLsbD i || x.2 == 0 then x else (setBit x.1 i true, x.2 - 1)) (w, n + 1)
    x.1 :: otpSet x.2 ws

/-- Raising a bit-set counter of OTP to a value (R473). -/
def State.otpRaise (s : State) (w n count : Nat) : State :=
  s.wrs (otpBase + w) (otpSet (count - s.otpCount w n) (s.rds (otpBase + w) n))

/-- Firmware confirms the bundle that booted, and raises the firmware counter to its SVN (R457, R462). -/
def State.confirmFirmware (s : State) : State :=
  let slot := (s.bootKind 0).slot
  if (s.slotRec 0 slot).state = slotTrial then
    let s := s.confirmSlot 0 slot
    if s.fwCounter < s.bundleSvn slot then s.otpRaise 0x1000 0x800 (s.bundleSvn slot) else s
  else s

/-- SLOT_CONFIRM: 60 s in RUN or DEGRADED after an accepted commit (R462). A pack is confirmed by its expansion. -/
def State.slotConfirm (s : State) (k : Nat) : State :=
  match s.boot.commitAt with
  | none => s
  | some t =>
    if s.boot.phase ≠ .firmware || !s.cfg.state.operates || decide (s.now < t + 60 * secCk1) then s
    else if k = 0 then s.confirmFirmware
    else if k = 1 && s.boot.slotCommitted then s.confirmSlot 1 s.cfg.stagedSlot
    else s

/-! ### Erasure in an update session (R465) -/

/-- SECTOR_ERASE_DONE: the next sector of the session reads 0xFFFF; after the last, writing may begin (R465). -/
def State.sectorErased (s : State) : State :=
  match s.boot.upd.toErase with
  | [] => s
  | a :: rest =>
    if s.boot.upd.state ≠ 1 then s
    else
      let s := if s.nvGone then s else s.wipe (65536 * a) 65536
      { s with boot := { s.boot with upd := { s.boot.upd with
        toErase := rest, erased := s.boot.upd.erased + 1, state := if rest.isEmpty then 2 else 1 } } }

/-! ### The commands -/

/-- POWER_GOOD (R447, R450, R551). -/
def execPowerGood (t : Nat) (railsOk : BitVec 13) (vbatLost : Bool) (elapsed : Nat) (s : State) :
    Host.Outcome State Fault Refusal := .next ((s.to t).powerGood railsOk vbatLost elapsed)

/-- RAIL_EXCURSION (R511, R546, R547, R551). -/
def execRailExcursion (t : Nat) (rail : BitVec 4) (high : Bool) (s : State) : Host.Outcome State Fault Refusal :=
  .next ((s.to t).railExcursion rail.toNat high)

/-- POWER_ON_DETECTOR_RELEASE (R547). -/
def execPowerOnDetectorRelease (t : Nat) (s : State) : Host.Outcome State Fault Refusal :=
  .next (s.to t).detectorRelease

/-- POWER_LOSS (R187, R447, R508, R550). -/
def execPowerLoss (t : Nat) (vholdGood : Bool) (s : State) : Host.Outcome State Fault Refusal :=
  .next ((s.to t).powerLoss vholdGood)

/-- FLUSH_DEADLINE (R447). -/
def execFlushDeadline (t : Nat) (s : State) : Host.Outcome State Fault Refusal := .next (s.to t).flushDeadline

/-- LEDGER_FLUSH_END (R187, R448). -/
def execLedgerFlushEnd (t : Nat) (s : State) : Host.Outcome State Fault Refusal := .next (s.to t).flushEnd

/-- VHOLD_COLLAPSE (R187, R508, R551). -/
def execVholdCollapse (t : Nat) (s : State) : Host.Outcome State Fault Refusal := .next (s.to t).collapse

/-- RESET_N_REQUEST (R447, R448). -/
def execResetNRequest (t : Nat) (s : State) : Host.Outcome State Fault Refusal := .next (s.to t).resetRequest

/-- RESET_N_RELEASE (R447). -/
def execResetNRelease (t : Nat) (s : State) : Host.Outcome State Fault Refusal := .next (s.to t).resetRelease

/-- TRIFLE_START (R450). -/
def execTrifleStart (t : Nat) (voteTestFail : BitVec 3) (s : State) : Host.Outcome State Fault Refusal :=
  .next ((s.to t).trifleStart voteTestFail)

/-- ZEROISATION_END (R483, R484). -/
def execZeroisationEnd (t : Nat) (s : State) : Host.Outcome State Fault Refusal := .next (s.to t).zeroEnd

/-- RSTOUT_RELEASE (R447). -/
def execRstoutRelease (t : Nat) (s : State) : Host.Outcome State Fault Refusal := .next (s.to t).rstRelease

/-- FIRMWARE_START (R454, R455). -/
def execFirmwareStart (t : Nat) (s : State) : Host.Outcome State Fault Refusal := .next (s.to t).firmwareStart

/-- MODULE_PLACE (R456). -/
def execModulePlace (t : Nat) (s : State) : Host.Outcome State Fault Refusal := .next (s.to t).modulePlace

/-- SLOT_CONFIRM (R457, R462). -/
def execSlotConfirm (t : Nat) (k : BitVec 2) (s : State) : Host.Outcome State Fault Refusal :=
  .next ((s.to t).slotConfirm k.toNat)

/-- SECTOR_ERASE_DONE (R465). -/
def execSectorEraseDone (t : Nat) (s : State) : Host.Outcome State Fault Refusal := .next (s.to t).sectorErased

end Sys2Proof.Machine
end

