-- ==== Sys2Proof/Machine/Csr.lean ====
section
/-!
DEFINITION. Reads and writes of CSR words (R6 to R11, R567, R568): decoding (R42, R43, R52), which masters may
write what, multi-word fields, state and encoding checks, and what an accepted write brings about.
-/

namespace Sys2Proof.Machine

/-! ### Who may reach what -/

/-- Registers that only the Trifle may write (R39, R87, R168, R193, R319, R323, R380, R398, R425, R496, R512, R523,
R524, R532, R542). The blocks named whole are CUS, MSI and CARD, and SPIU but SPIU_GOUT. -/
def trifleOnly (die blk off : Nat) : Bool :=
  match blk with
  | 0x00 => off == 0x22
  | 0x02 => off == 0
  | 0x03 => decide (off < 0x4000)
  | 0x05 => off == 0x20 || off == 0x21
  | 0x0B => true
  | 0x0C => decide (0x10 ≤ off) && decide (off < 0x20)
  | 0x32 => off == 3
  | 0x40 => off == 3 || off == 4 || off == 7 || (decide (0x200 ≤ off) && decide (off ≤ 0x211))
  | 0x43 => true
  | 0x44 => true
  | 0x45 => off != 0x381
  | 0x46 => decide (8 ≤ off) && decide (off ≤ 0xA)
  | 0x47 => die == 0 && (decide (8 ≤ off) && decide (off < 0xF) || off == 0x12 || off == 0x13 || off == 0x19)
  | _ => false

/-- The watchdog whose WDT_SVC an offset is, where it is one (R445). -/
def svcOf (die blk off : Nat) : Option Nat :=
  if blk = 4 && decide (0x200 ≤ off) && off % 16 == 6 then some (wdtAt die off) else none

/-- An agent may write QUE_DROP of a queue: it is the queue's consumer (R295). -/
def State.dropper (s : State) (die : Nat) (v : Word) (a : Agent) : Bool :=
  (s.queueOf die (v.toNat % 512)).consumer == some a

/-- A core may write a register: none that is the Trifle's alone, its own watchdog's WDT_SVC, QUE_DROP of a queue
that it consumes (R295, R429). -/
def State.coreWrites (s : State) (c die blk off : Nat) (v : Word) : Bool :=
  if trifleOnly die blk off then false
  else
    match svcOf die blk off with
    | some k => k == wdtKey c
    | none => if blk = 0x30 && off == 5 then s.dropper die v (.core c) else true

/-- A DMA channel is no servicer and consumes no queue (R274, R429). -/
def dmaWrites (die blk off : Nat) : Bool :=
  !trifleOnly die blk off && (svcOf die blk off).isNone && !(blk == 0x30 && off == 5)

/-- What the Trifle may reach: not the DBG blocks, but for reads of DBG_STATUS, DBG_DENYCNT and DBG_SESSIONS (R488);
no watchdog of a core (R429). -/
def trifleReaches (write : Bool) (die blk off : Nat) : Bool :=
  if blk = 0x0D then !write && (off == 0 || off == 2 || off == 3 || off == 5)
  else if write then (match svcOf die blk off with | some k => decide (k < 256) | none => true)
  else true

/-- A master may make an access to a register (R488 and the rules of the registers). A debug access has been judged
by its session (R492), and a register that is the Trifle's alone refuses it as any other master's (R39, R398; assumption
129); a Trifle that has stopped makes none (R377). -/
def State.masterMay (s : State) (m : Master) (write : Bool) (die blk off : Nat) (v : Word) : Bool :=
  match m with
  | .trifle => !s.trf.stopped && trifleReaches write die blk off
  | .core c => blk != 0x0D && (!write || s.coreWrites c.toNat die blk off v)
  | .dma _ _ => blk != 0x0D && (!write || dmaWrites die blk off)
  | .debug => blk != 0x0D && (!write || !trifleOnly die blk off)

/-- The DETAIL with which an access to a CSR address is refused, where it is (R9, R42, R52, R221). -/
def State.csrRefuses (s : State) (m : Master) (write : Bool) (a : Nat) (v : Word) : Option Nat :=
  match s.decodeRefuses false write a with
  | some d => some d
  | none => if s.masterMay m write (csrDie a) (csrBlk a) (csrOff a) v then none else some 5

/-! ### Reads (R6, R10) -/

/-- What a read gave: the state after it, and the word. -/
structure CsrRd where
  s : State
  v : Word
deriving DecidableEq, Repr

/-- The captured word of a multi-word field. -/
def State.captured (s : State) (key : Nat) : Option Word := s.csr.capture.get (dflt none) key

/-- Capturing the words of a field from word i on. -/
def State.captureFrom (s : State) (die blk base : Nat) : Nat → State
  | 0 => s
  | n + 1 =>
    let s := s.captureFrom die blk base n
    { s with csr := { s.csr with
      capture := s.csr.capture.set (dflt none) (csrKey die blk (base + n)) (some (s.view die blk (base + n))) } }

/-- SPIU_GIN is sampled at the read: the levels of the pins that are inputs are the world's (R536). -/
def State.sampleGin (s : State) (die : Nat) : State :=
  let x := s.draw
  x.2.modUart (die - 5) (fun u => { u with gin := (Config.freeWord x.1).setWidth 8 })

/-- An allowed read of a word: the lowest word of a multi-word field captures the field, a higher word gives what
was captured (R10). -/
def State.csrGet (s : State) (die blk off : Nat) : CsrRd :=
  let s := if blk = 0x45 && off == 0x382 then s.sampleGin die else s
  match regAt die blk off with
  | none => ⟨s, 0⟩
  | some r =>
    if r.words = 1 then ⟨s, s.view die blk off⟩
    else if r.word off = 0 then ⟨s.captureFrom die blk off r.words, s.view die blk off⟩
    else ⟨s, (s.captured (csrKey die blk off)).getD (s.view die blk off)⟩

/-! ### Encodings (R8, R433, R399) -/

/-- Reserved encodings that other state decides: a check-in above task 15, ATTACH on channels 2 and 3, and a value of
more than 16 bits under POLY 1. R399 calls the last a reserved encoding although POLY stands in another word, of which
R568 drops no single write: the model drops the write of VAL (DESIGN CHOICE, assumption 120). -/
def State.reservedNow (s : State) (die blk base n : Nat) : Bool :=
  match svcOf die blk base with
  | some k => s.wdtMode k == 2 && decide (16 ≤ n)
  | none =>
    if blk = 0x46 && decide (0x500 ≤ base) then
      (base % 8 == 0 && decide (0x510 ≤ base) && bit n 3) ||
        (base % 8 == 2 && s.calcPoly die ((base - 0x500) / 8) == 1 && decide (65536 ≤ n))
    else false

/-- A write that carries a reserved encoding is dropped: the block's sticky RSVD, and RSVD_WRITE (R8); a region of
a split core's unit sets that core's RSVD (R346). -/
def State.dropReserved (s : State) (die blk base : Nat) : State :=
  let o := if decide (0x10 ≤ blk) && decide (blk ≤ 0x2F) && decide (0x140 ≤ base) then 0x100 else rsvdOffset die blk
  (s.orReg die blk o 0x8000).raiseRsvd die blk

/-! ### What an accepted write brings about -/

/-- CRB_ACK: the grace windows of the acknowledged fault ID that are still open are cancelled (R417). -/
def State.crbAck (s : State) (v : Word) : State :=
  let close : SMap (Option Grace) → Nat → SMap (Option Grace) := fun g n =>
    match g.get (dflt none) n with
    | some x => if x.fid = v && decide (s.now < x.due) then g.set (dflt none) n none else g
    | none => g
  { s with crb := { s.crb with grace := (List.range 32).foldl close s.crb.grace } }

/-- CRB registers (R417, R419, R425, R426). -/
def State.crbWrite (s : State) (base : Nat) (v : Word) : State :=
  if decide (0x1000 ≤ base) && decide (base < 0x2000) then s.latchMeets (base - 0x1000) v
  else if base = 8 then s.crbAck v
  else if base = 0xA then
    { s with crb := { s.crb with injAt := if v.getLsbD 15 then some (edgeUp s ck4 (s.now + 2 * ck4)) else none } }
  else if base = 0x25 then { s with crb := { s.crb with log := s.crb.log.drop 1 } }
  else s

/-- WDT registers: a service, or the clearing of WDT_STAT.VALID with its CAUSE and SEEN (R430, R445). -/
def State.wdtWrite (s : State) (die base : Nat) (v : Word) : State :=
  if base < 0x200 then s
  else if base % 16 = 6 then s.wdtService (wdtAt die base) v
  else if base % 16 = 8 && v.getLsbD 15 then s.modWdt (wdtAt die base) (fun u => { u with cause := 0, seen := 0 })
  else s

/-- QUE_DROP: the poisoned head of a queue is discarded (R294, R295). -/
def State.queDrop (s : State) (die q : Nat) : State :=
  match s.head die q with
  | some f => if f.poison then s.popHead die q else s
  | none => s

/-- LKS_INJ armed for a split engine has no effect: ARM reads 0 (R374). -/
def State.lksInj (s : State) (die : Nat) (v : Word) : State :=
  if v.getLsbD 15 && s.isSplit (engAt die (bits v.toNat 4 0)) then s.setReg die 0x32 3 (v &&& 0x007F) else s

/-- ENG_SWINT: the pending bits of SOFT lines (R232, R238). -/
def State.swint (s : State) (c : Nat) (n : Nat) : State :=
  let set := BitVec.ofNat 32 ((List.range 32).foldl (fun a i =>
    a + (if bit n i && bits (s.intSel c i) 1 0 == 3 then 2 ^ i else 0)) 0)
  s.modCore c (fun k => { k with soft := k.soft ||| set })

/-- ETH registers (R523, R524). -/
def State.ethWrite (s : State) (p base n : Nat) : State :=
  let v : Word := BitVec.ofNat 16 n
  if base = 3 then s.mbxTx p v
  else if base = 4 then (if v.getLsbD 0 then s.mbxGo p else s)
  else if base = 7 then s.mbxPop p (n % 4096)
  else if base = 0x200 then
    s.modPdie p (fun d => { d with
      saKey := (List.range 16).foldl (fun (m : SMap Word) i => m.set (dflt 0) i (BitVec.ofNat 16 (n / 65536 ^ i))) d.saKey })
  else if base = 0x210 then (if v.getLsbD 3 then s.saInstall p n else s)
  else s

/-- CARD registers (R532): deactivation goes last where one write asks for both. -/
def State.cardWrite (s : State) (p base : Nat) (v : Word) : State :=
  if base = 2 then
    let s := if v.getLsbD 0 then s.cardOn p else s
    if v.getLsbD 1 then s.cardOff p else s
  else if base = 6 then s.cardSend p (v.setWidth 8)
  else if base = 7 then s.cardDrop p
  else s

/-- SPIU registers (R533, R535). -/
def State.spiuWrite (s : State) (p base : Nat) (v : Word) : State :=
  if decide (0x100 ≤ base) && decide (base < 0x180) then
    let u := spiNo p ((base - 0x100) / 0x40)
    match base % 0x40 with
    | 2 => s.spiPut u v
    | 3 => s.spiDrop u
    | _ => s
  else if base = 0x302 then s.uartPut p (v.setWidth 8)
  else if base = 0x303 then s.uartDrop p
  else s

/-- CRC channels of a CVU (R397). -/
def State.calcWrite (s : State) (die base : Nat) (v : Word) : State :=
  if base < 0x500 then s
  else
    let n := (base - 0x500) / 8
    if base % 8 = 0 then (if v.getLsbD 2 then s.calcStart die n else s)
    else if base % 8 = 1 then s.calcData die n v
    else s.calcClose die n

/-- TIME registers of the hub (R166 to R169, R193). -/
def State.timeWrite (s : State) (base n : Nat) : State :=
  if base = 8 then s.timeAdj (BitVec.ofNat 32 n)
  else if base = 0xA then s.timeStep (BitVec.ofNat 80 n)
  else if base = 0x12 then s.timeSync (BitVec.ofNat 32 n)
  else if base = 0x19 then { s with time := { s.time with leap := BitVec.ofNat 16 n } }
  else s

/-- What an accepted write of a field brings about beside the bits it stores; n is the field's whole value. -/
def State.csrEffect (s : State) (die blk base n : Nat) : State :=
  let v : Word := BitVec.ofNat 16 n
  match blk with
  | 0x00 => if base = 0x22 then s.fenceDie (bits n 2 0) 4 0 else s
  | 0x02 => if base = 0 then s.cfgCtrl v else s
  | 0x03 => s.crbWrite base v
  | 0x04 => s.wdtWrite die base v
  | 0x07 => if base = 0x18 && v.getLsbD 0 then s.packGo (v.getLsbD 1) else s
  | 0x0B => if base = 0x12 && v.getLsbD 15 then { s with cus := { s.cus with tValid := false } } else s
  | 0x0C => if decide (0x10 ≤ base) && decide (base < 0x20) then s.fwData (base - 0x10) v else s
  | 0x30 => if base = 5 then s.queDrop die (bits n 8 0) else s
  | 0x32 => if base = 3 then s.lksInj die v else s
  | 0x40 => s.ethWrite (die - 5) base n
  | 0x43 => if base = 3 then s.msSend (v.setWidth 8) else if base = 4 then s.msDrop else s
  | 0x44 => s.cardWrite (die - 5) base v
  | 0x45 => s.spiuWrite (die - 5) base v
  | 0x46 => s.calcWrite die base v
  | 0x47 => if die = 0 then s.timeWrite base n else s
  | _ =>
    if decide (0x10 ≤ blk) && decide (blk ≤ 0x2F) && base % 0x100 == 6 then
      s.swint (2 * engAt die (blk - 0x10) + base / 0x100) n
    else s

/-! ### Writes (R6, R8, R10, R11, R567) -/

/-- The bits of a field that a write stores: its RW and RW-L bits, but LAT_PCTRL.GO, which reads 0 (R141). -/
def storeMask (blk base : Nat) (r : Row) : Nat :=
  if blk = 0x07 && base = 0x18 then 2 else r.rwl ||| r.rw

/-- The field's value after a write of n over old. -/
def writtenValue (blk base : Nat) (r : Row) (old n : Nat) : Nat :=
  let m := storeMask blk base r
  let all := 2 ^ (16 * r.words) - 1
  (old &&& (all ^^^ (m ||| (n &&& r.w1c)))) ||| (n &&& m)

/-- What a port die has handed to its MACs by now stands before a write takes effect (R387). -/
def State.portSettled (s : State) (die : Nat) : State := if die = 5 || die = 6 then s.handed (die - 5) else s

/-- A write of RW-L fields that was taken: CFG_STATUS.EDITED, and a running check that meets it (R79, R87). -/
def State.noteEdit (s : State) (blk base old n : Nat) (r : Row) : State :=
  if r.rwl = 0 || !s.cfg.state.open then s
  else
    { s with cfg := { s.cfg with
      edited := true
      changed := s.cfg.changed || (!(blk == 0x07 && base == 0x18) && (old ^^^ n) &&& r.rwl != 0)
      job := s.cfg.job.map (fun j => if j.loading then j else { j with rwlWritten := true }) } }

/-- The write of a whole field: EN or LOAD while a stage runs (R87), the state check, the encoding check, and then every field of it under its access
type (R6, R8, R11, R567). -/
def State.csrPut (s : State) (die blk base n : Nat) (r : Row) : State :=
  let old := s.regN die blk base r.words
  if r.rwl != 0 && !s.cfg.state.open && (r.onlyRwl || (old ^^^ n) &&& r.rwl != 0) then s.cfgSingle 0x0F01
  else if blk = 0x02 && base == 0 && bits n 1 0 != 0 && s.cfg.job.isSome then s.cfgSingle 0x0F05
  else if reservedEnc die blk base n || s.reservedNow die blk base n then s.dropReserved die blk base
  else
    let s := (s.portSettled die).setRegs die blk base (wordsLow r.words (writtenValue blk base r old n))
    (s.noteEdit blk base old n r).csrEffect die blk base n

/-- The words that are held for the lower words of a field; a word that was not written keeps its value (R10). -/
def State.heldWords (s : State) (die blk base k : Nat) : List Word :=
  (List.range k).map (fun i =>
    (s.csr.held.get (dflt none) (csrKey die blk (base + i))).getD (s.reg die blk (base + i)))

/-- Dropping what is held for a field. -/
def State.unhold (s : State) (die blk base : Nat) : Nat → State
  | 0 => s
  | n + 1 =>
    let s := s.unhold die blk base n
    { s with csr := { s.csr with held := s.csr.held.set (dflt none) (csrKey die blk (base + n)) none } }

/-- An allowed write of a word: read-only words ignore it, a lower word of a field is held, the highest word writes
the field (R6, R10). -/
def State.csrSet (s : State) (die blk off : Nat) (v : Word) : State :=
  match regAt die blk off with
  | none => s
  | some r =>
    let i := r.word off
    let base := r.base off
    if r.writable = 0 then s
    else if i + 1 < r.words then
      { s with csr := { s.csr with held := s.csr.held.set (dflt none) (csrKey die blk off) (some v) } }
    else
      let n := ofWordsLow (s.heldWords die blk base i ++ [v])
      (s.unhold die blk base i).csrPut die blk base n r

end Sys2Proof.Machine
end

