-- ==== Sys2Proof/Machine/EngMem.lean ====
section
/-!
DEFINITION. What a core does with memory: the checks of an access in the order of R217 and R338, loads through the
D-cache and the write buffer (R201 to R204), stores and their write-buffer entries (R203), the journal (R360), fetches
(R242, R244), and the draining of the write buffer (R205, R256).
-/

namespace Sys2Proof.Machine

/-- A synchronous exception as it is raised: vector, DETAIL, EADDR, PART and WR (R221). -/
structure Exn where
  vec : Nat
  detail : Nat := 0
  eaddr : Nat := 0
  part : Bool := false
  wr : Bool := false
deriving DecidableEq, Repr

/-- What the reads of an access come to. -/
inductive Rd where
  | ok (s : State) (ws : List Word)
  | exn (s : State) (x : Exn)
  | hold
deriving DecidableEq, Repr

/-- What the writes of an access come to. -/
inductive Wr where
  | ok (s : State)
  | exn (s : State) (x : Exn)
  | hold
deriving DecidableEq, Repr

/-- The n words from an address, modulo 2⁴⁸ (R212). -/
def wordsFrom (a n : Nat) : List Nat := (List.range n).map (fun i => (a + i) % 2 ^ 48)

/-- Where the model keeps a word that a core addresses: its own scratchpad, or the shared space (R42). -/
def physOf (c a : Nat) : Nat := if a < spadLen then spadBase c + a else a

/-- A word is of CSR space. -/
def isCsr (a : Nat) : Bool := inRange a csrBase 0x8000000

/-- The HBM requester code of a core (R302, R367). -/
def reqOf (c : Nat) : Nat := coreEng c + 0x80 * coreIdx c

/-! ### Checks (R217, R337, R338) -/

/-- The DETAIL with which the decoder, or a register, refuses a core's access to a word (R42, R221, R257). -/
def State.coreRefuses (s : State) (c : Nat) (write noCsr : Bool) (a : Nat) (v : Word) : Option Nat :=
  if isCsr a then (if noCsr then some 5 else s.csrRefuses (.core (BitVec.ofNat 8 c)) write a v)
  else s.decodeRefuses true write a

/-- The attributes of a core's access to a word. -/
def State.coreAttr (s : State) (c ring a : Nat) (k : Access) : Attr := s.attrOf (s.coreUnit c ring) k a

/-- An access is STRONG: its region says so, or it is of CSR space (R204). -/
def State.isStrong (s : State) (c ring : Nat) (k : Access) (a : Nat) : Bool :=
  isCsr a || !(s.coreAttr c ring a k).relaxed

/-- A buffered store passes its decoder while the new fence map is on its way (R27, R31). -/
def State.passes (s : State) (c ring : Nat) (k : Access) (a : Nat) : Bool :=
  k == .write && s.fencing a && !(s.isStrong c ring k a)

/-- What stops an access of a core in a ring, before any part of it is made: the protection unit over every piece,
then the decoders over every piece (R338). -/
def State.accessExn (s : State) (c ring : Nat) (k : Access) (noCsr part : Bool) (val : Nat → Word)
    (ps : List (List Nat)) : Option Exn :=
  match s.mpuCheck (s.coreUnit c ring) k part ps with
  | some r => some ⟨if k = .exec then 6 else 7, r.detail, r.addr, r.part, k == .write⟩
  | none =>
    match refusedPiece (fun a => if s.passes c ring k a then none else s.coreRefuses c (k == .write) noCsr a (val a))
        part ps with
    | some r => some ⟨10, r.detail, r.addr, r.part, k == .write⟩
    | none => none

/-! ### Caches (R201) -/

/-- The sets of a cache. -/
abbrev cacheSets : Nat := 128

/-- The lines that a cache holds in the set of a line. -/
def setOf (m : SMap (List CacheLine)) (line : Nat) : List CacheLine := m.get (dflt []) (line % cacheSets)

/-- A line that a cache holds. -/
def cacheFind (m : SMap (List CacheLine)) (line : Nat) : Option CacheLine :=
  (setOf m line).find? (fun l => l.line == line)

/-- A line becomes its set's most recently used; a fifth line takes the place of the least recently used. -/
def cacheTouch (m : SMap (List CacheLine)) (l : CacheLine) : SMap (List CacheLine) :=
  m.set (dflt []) (l.line % cacheSets) ((l :: (setOf m l.line).filter (fun x => x.line != l.line)).take 4)

/-- Invalidating a line. -/
def cacheDrop (m : SMap (List CacheLine)) (line : Nat) : SMap (List CacheLine) :=
  m.set (dflt []) (line % cacheSets) ((setOf m line).filter (fun x => x.line != line))

/-! ### Loads (R200 to R204, R316) -/

/-- The value of a word that the write buffer of a core holds: the youngest one (R203). -/
def CoreSt.buffered (k : CoreSt) (a : Nat) : Option Word :=
  ((k.wb.flatMap (fun e => e.words)).reverse.find? (fun w => w.1.toNat == a)).map (fun w => w.2)

/-- The pads of a locked engine differ where one core alone finds a codeword uncorrectable: the cores diverge, and RFW sees
the register that only one of them writes, 12 CK1 later (R316, R355, R374). -/
def State.padDiverge (s : State) (c cw : Nat) : State :=
  if spadLen ≤ 8 * cw || !(s.leads c) then s
  else
    let k := physOf (c + 1) (8 * cw) / 8
    let m := (s.classAt (physOf c (8 * cw) / 8)).uncorrectable
    let one := m != (s.classAt k).uncorrectable
    let s := s.readNote k 0 false
    if one && s.compArmed (coreEng c) then s.mismatch (coreEng c) 0 (s.coreOf c).issuedAt (s.now + 12) else s

/-- Reading codewords for a core: each codeword's class is recorded, and the first word of the first one that is
uncorrectable is given (R316); the checker of a locked engine reads its own scratchpad (R353). -/
def State.readCodewords (s : State) (c : Nat) (cws : List Nat) : State × Option Nat :=
  (cws.foldl (fun (s : State) cw => (s.readNote (physOf c (8 * cw) / 8) (reqOf c) false).padDiverge c cw) s,
    (cws.find? (fun cw => (s.classAt (physOf c (8 * cw) / 8)).uncorrectable)).map (fun cw => 8 * cw))

/-- The cache that a fetch, or a load, looks in. -/
def CoreSt.cacheOf (k : CoreSt) (data : Bool) : SMap (List CacheLine) := if data then k.dcache else k.icache

/-- Putting another cache in its place. -/
def CoreSt.putCache (k : CoreSt) (data : Bool) (m : SMap (List CacheLine)) : CoreSt :=
  if data then { k with dcache := m } else { k with icache := m }

/-- What the codeword of a held line holds at an address (R311). -/
def CacheLine.classAt (l : CacheLine) (a : Nat) : GClass := l.errs.get (dflt .none) (a % 32 / 8)

/-- The line that an access hits: an error in its codeword is reported and counted as corrected, and an uncorrectable one
invalidates the line, which makes the access a miss (R311, R316, R325). -/
def State.cacheHit (s : State) (c : Nat) (data : Bool) (a : Nat) : State × Option CacheLine :=
  match cacheFind ((s.coreOf c).cacheOf data) (a / 32) with
  | none => (s, none)
  | some l =>
    if l.classAt a = .none then (s, some l)
    else
      let s := (s.raise (coreOn c) 0x00 0x34).gcode 4 false 1
      if (l.classAt a).uncorrectable then
        (s.modCore c (fun k => k.putCache data (cacheDrop (k.cacheOf data) (a / 32))), none)
      else (s, some l)

/-- The words of a line as a fill brings them: the D-cache takes what the core's own write buffer holds of the line with
it, since its words follow (R201, R203). -/
def State.lineWords (s : State) (c : Nat) (data : Bool) (line : Nat) : List Word :=
  (List.range 32).map (fun i =>
    let a := 32 * line + i
    if data then ((s.coreOf c).buffered a).getD (s.rd a) else s.rd a)

/-- A line for a cache, which becomes its set's most recently used: the one held, or the whole line filled from memory
(R201); or the first word of the codeword that is uncorrectable. -/
def State.lineFor (s : State) (c : Nat) (data : Bool) (a : Nat) : State × Except Nat CacheLine :=
  let touch := fun (s : State) (l : CacheLine) =>
    s.modCore c (fun k => k.putCache data (cacheTouch (k.cacheOf data) l))
  match s.cacheHit c data a with
  | (s, some l) => (touch s l, .ok l)
  | (s, none) =>
    match s.readCodewords c ((List.range 4).map (fun i => 4 * (a / 32) + i)) with
    | (s, some e) => (s, .error e)
    | (s, none) =>
      let l : CacheLine := { line := a / 32, words := s.lineWords c data (a / 32) }
      (touch s l, .ok l)

/-- A store that hits the D-cache updates the line and encodes the codeword afresh (R201, R311). -/
def State.cacheStore (s : State) (c : Nat) (r : List AWord) : State :=
  let a := (r.headD (0, 0)).1
  match s.cacheHit c true a with
  | (s, none) => s
  | (s, some l) =>
    s.modCore c (fun k => { k with
      dcache := cacheTouch k.dcache
        { l with
          words := r.foldl (fun ws w => ws.set (w.1 % 32) w.2) l.words
          errs := l.errs.set (dflt .none) (a % 32 / 8) .none } })

/-- The words of one codeword's run of a load, from the D-cache, memory or the write buffer. -/
def State.loadRun (s : State) (c ring : Nat) (as : List Nat) : State × Except Nat (List Word) :=
  let k := s.coreOf c
  let a := as.headD 0
  if as.all (fun x => (k.buffered x).isSome) then (s, .ok (as.map (fun x => (k.buffered x).getD 0)))
  else if spadLen ≤ a && (s.coreAttr c ring a .read).wt then
    match s.lineFor c true a with
    | (s, .error e) => (s, .error e)
    | (s, .ok l) => (s, .ok (as.map (fun x => (k.buffered x).getD (wordAt l.words (x % 32)))))
  else
    match s.readCodewords c [a / 8] with
    | (s, some e) => (s, .error e)
    | (s, none) => (s, .ok (as.map (fun x => (k.buffered x).getD (s.rd (physOf c x)))))

/-- The words of CSR space, read one by one (R10). -/
def State.loadCsr (s : State) : List Nat → State × List Word
  | [] => (s, [])
  | a :: as =>
    let x := s.csrGet (csrDie a) (csrBlk a) (csrOff a)
    let y := x.s.loadCsr as
    (y.1, x.v :: y.2)

/-- The runs of a load, one after another. -/
def State.loadRuns (s : State) (c ring : Nat) : List (List Nat) → Rd
  | [] => .ok s []
  | p :: ps =>
    if isCsr (p.headD 0) then
      let x := s.loadCsr p
      match x.1.loadRuns c ring ps with
      | .ok s ws => .ok s (x.2 ++ ws)
      | r => r
    else
      match s.loadRun c ring p with
      | (s, .error e) => .exn s { vec := 10, detail := 6, eaddr := e }
      | (s, .ok vs) =>
        match s.loadRuns c ring ps with
        | .ok s ws => .ok s (vs ++ ws)
        | r => r

/-- A load of words: its pieces are checked whole, it is held while a STRONG word waits for the write buffer, and then
its words are read in their order, those that follow one another in one aligned 8-word block together (R204, R259, R336
to R338). -/
def State.loadPieces (s : State) (c ring : Nat) (noCsr : Bool) (ps : List (List Nat)) (as : List Nat) : Rd :=
  match s.accessExn c ring .read noCsr false (fun _ => 0) ps with
  | some x => .exn s x
  | none =>
    if ps.any (fun p => p.any (s.isStrong c ring .read)) && !(s.coreOf c).wb.isEmpty then .hold
    else s.loadRuns c ring (runs 8 as)

/-- A load of n words from an address. -/
def State.load (s : State) (c ring : Nat) (noCsr : Bool) (a n : Nat) : Rd :=
  let as := wordsFrom a n
  s.loadPieces c ring noCsr (pieces as) as

/-! ### Stores (R202 to R206, R316, R320, R360) -/

/-- A write of a requester to the array: the line or codeword that it is merged with is uncorrectable; a whole line, or a
whole codeword of a pool, is merged with nothing (R306, R316). -/
def State.mergeUe (s : State) (req : Nat) (ws : List AWord) : State × Option Nat :=
  let a := (ws.headD (0, 0)).1
  match hbmStackOf a, poolOf a with
  | some n, _ => if s.dead n || ws.length = 32 then (s, none) else s.readCheck (a / 32 * 32) 32 req true
  | none, some _ => if ws.length = 8 then (s, none) else s.readCheck (a / 8 * 8) 8 req true
  | none, none => (s, none)

/-- Words of one run reach their target (R203), unless the write is lost (R205): the target is fenced
or dead, which gives none, or the words it is merged with are uncorrectable, which gives their codeword (R316, R320). -/
def State.putBlock (s : State) (req : Nat) (ws : List AWord) : State × Except (Option Nat) Unit :=
  let a := (ws.headD (0, 0)).1
  if s.lostAt a || (s.decodeRefuses true true a).isSome then
    (s, .error none)
  else
    match s.mergeUe req ws with
    | (s, some e) => (s, .error (some e))
    | (s, none) => (s.storeRunWords ws, .ok ())

/-- An entry of the write buffer reaches its target, or is lost (R205). -/
def State.putEntry (s : State) (c : Nat) (e : WbEntry) : State :=
  let ws := e.words.map (fun w => (w.1.toNat, w.2))
  match s.putBlock (reqOf c) ws with
  | (s, .ok _) => s
  | (s, .error _) => s.storeNotice c (ws.headD (0, 0)).1

/-- The write buffer of a core drains to its end. -/
def State.drainAll (s : State) (c : Nat) : State :=
  ((s.coreOf c).wb.foldl (fun (s : State) e => s.putEntry c e) s).modCore c (fun k => { k with wb := [] })

/-- A journal with one entry more, and whether it has overflowed: past 4,096 entries it records nothing until the next
checkpoint (R360). -/
def journalIn (j : List (Addr × Word)) (stop : Bool) (e : Addr × Word) : List (Addr × Word) × Bool :=
  if stop || decide (4096 ≤ j.length) then (j, true) else (e :: j, false)

/-- A core's journal takes the old value of a scratchpad word of it; an overflow clears CKVALID (R360). -/
def State.journalWord (s : State) (c a : Nat) : State :=
  let e : Addr × Word := (BitVec.ofNat 48 a, s.rd (spadBase c + a))
  s.modEng (coreEng c) (fun x =>
    if coreIdx c = 0 then
      let j := journalIn x.journal x.jstop e
      { x with ckValid := x.ckValid && !j.2, journal := j.1, jstop := j.2 }
    else
      let j := journalIn x.journalK x.jstopK e
      { x with ckValid := x.ckValid && !j.2, journalK := j.1, jstopK := j.2 })

/-- Words of one run of a core's scratchpad are written, with the old values in its journal. -/
def State.corePut (s : State) (c : Nat) (r : List AWord) : State :=
  (r.foldl (fun (s : State) w => s.journalWord c w.1) s).storeRunWords (r.map (fun w => (spadBase c + w.1, w.2)))

/-- Words of one run of a scratchpad are written: the checker of a locked engine makes the write in its own too (R353,
R360). -/
def State.spadPut (s : State) (c : Nat) (r : List AWord) : State :=
  if s.leads c then (s.corePut c r).corePut (c + 1) r else s.corePut c r

/-- Cutting words into runs that follow one another within one block, as a numbering of blocks says. -/
def runsBy (blk : Nat → Nat) : List AWord → List (List AWord)
  | [] => []
  | w :: ws =>
    match runsBy blk ws with
    | (v :: vs) :: rs => if blk w.1 = blk v.1 then (w :: v :: vs) :: rs else [w] :: (v :: vs) :: rs
    | rs => [w] :: rs

/-- Cutting a store into its write-buffer entries: words that follow one another in one aligned 8-word block (R203). -/
def storeRuns (ws : List AWord) : List (List AWord) := runsBy (fun a => a / 8) ws

/-- A run of a store goes through the write buffer (R202). -/
def State.isBuffered (s : State) (c ring : Nat) (r : List AWord) : Bool :=
  let a := (r.headD (0, 0)).1
  decide (spadLen ≤ a) && !(s.isStrong c ring .write a)

/-- A buffered run: an entry of the write buffer, and the D-cache line that it hits (R201, R203). -/
def State.bufferRun (s : State) (c : Nat) (ring : Nat) (r : List AWord) : State :=
  let wt := (s.coreAttr c ring (r.headD (0, 0)).1 .write).wt
  let s := s.modCore c (fun k => { k with wb := k.wb ++ [⟨r.map (fun w => (BitVec.ofNat 48 w.1, w.2)), false⟩] })
  if wt then s.cacheStore c r else s

/-- The youngest entry of the write buffer was on its way to a die that is being fenced: it is discarded (R31). -/
def State.lastLost (s : State) (c : Nat) : State :=
  match (s.coreOf c).wb.getLast? with
  | some e => (s.storeNotice c ((e.words.headD (0, 0)).1.toNat)).modCore c (fun k => { k with wb := k.wb.dropLast })
  | none => s

/-- One run of a store: a scratchpad word completes at once, a CSR word and a STRONG word when the target has
acknowledged it, every other takes an entry (R202, R204). -/
def State.storeRun (s : State) (c ring : Nat) (r : List AWord) : State × Option Exn :=
  let a := (r.headD (0, 0)).1
  if a < spadLen then (s.spadPut c r, none)
  else if isCsr a then (r.foldl (fun (s : State) w => s.csrSet (csrDie w.1) (csrBlk w.1) (csrOff w.1) w.2) s, none)
  else if s.isBuffered c ring r then
    (if s.fencing a then (s.bufferRun c ring r).lastLost c else s.bufferRun c ring r, none)
  else
    let wt := (s.coreAttr c ring a .write).wt
    let hit := fun (s : State) => if wt then s.cacheStore c r else s
    match s.putBlock (reqOf c) r with
    | (s, .ok _) => (hit s, none)
    | (s, .error none) => (hit (s.storeNotice c a), none)
    | (s, .error (some e)) => (s, some { vec := 10, detail := 6, eaddr := e, wr := true })

/-- The runs of a store, one after another. -/
def State.storeAll (s : State) (c ring : Nat) : List (List AWord) → Wr
  | [] => .ok s
  | r :: rs =>
    match s.storeRun c ring r with
    | (s, some x) => .exn s x
    | (s, none) => s.storeAll c ring rs

/-- The STRONG runs of a store read what they are merged with before any word of the store is written: the first codeword
that is uncorrectable stops the store whole (R219, R316). -/
def State.strongReads (s : State) (c ring : Nat) : List (List AWord) → State × Option Nat
  | [] => (s, none)
  | r :: rs =>
    let a := (r.headD (0, 0)).1
    if decide (a < spadLen) || isCsr a || s.isBuffered c ring r then s.strongReads c ring rs
    else
      match s.mergeUe (reqOf c) r with
      | (s, some e) => (s, some e)
      | (s, none) => s.strongReads c ring rs

/-- Entries of the write buffer (R200). -/
abbrev wbEntries : Nat := 8

/-- A store of words in the order in which they are written, checked whole in pieces: held while a STRONG word waits
for the write buffer or the entries it needs are not free; where it needs more entries than there are, it takes the
buffer empty and the first of them have drained when it retires (R203, R204, R336 to R338). -/
def State.storePieces (s : State) (c ring : Nat) (noCsr : Bool) (ps : List (List Nat)) (ws : List AWord) : Wr :=
  let val := fun a => ((ws.find? (fun w => w.1 == a)).map (fun w => w.2)).getD 0
  match s.accessExn c ring .write noCsr false val ps with
  | some x => .exn s x
  | none =>
    let rs := storeRuns ws
    let n := (rs.filter (s.isBuffered c ring)).length
    let used := (s.coreOf c).wb.length
    if ps.any (fun p => p.any (s.isStrong c ring .write)) && decide (used ≠ 0) then .hold
    else if decide (wbEntries < used + n) && decide (used ≠ 0) then .hold
    else
      match s.strongReads c ring rs with
      | (s, some e) => .exn s { vec := 10, detail := 6, eaddr := e, wr := true }
      | (_, none) =>
        match s.storeAll c ring rs with
        | .ok s =>
          let extra := (s.coreOf c).wb.length - wbEntries
          let old := (s.coreOf c).wb.take extra
          .ok ((old.foldl (fun (s : State) e => s.putEntry c e) s).modCore c (fun k => { k with wb := k.wb.drop extra }))
        | r => r

/-- A store of words from an address upward. -/
def State.storeAt (s : State) (c ring : Nat) (noCsr : Bool) (a : Nat) (ws : List Word) : Wr :=
  let as := wordsFrom a ws.length
  s.storePieces c ring noCsr (pieces as) (as.zip ws)

/-! ### Stack pushes (R213, R220) -/

/-- A push of n words would take A7 below the limit of its ring (R213). -/
def CoreSt.pushLimit (k : CoreSt) (bank ring n : Nat) : Bool :=
  let a7 := (k.aIn bank 7).toNat
  (List.range n).any (fun i => decide ((a7 + 2 ^ 48 - (i + 1)) % 2 ^ 48 < (k.slimOf ring).toNat))

/-- A push of words, given lowest address first: the highest is written first, each through −(A7), and A7 of the bank
takes the lowest address (R213, R220, R263). -/
def State.pushWords (s : State) (c bank ring detail : Nat) (ws : List Word) : Wr :=
  let k := s.coreOf c
  if k.pushLimit bank ring ws.length then .exn s { vec := 9, detail := detail, wr := true }
  else
    let a := ((k.aIn bank 7).toNat + 2 ^ 48 - ws.length) % 2 ^ 48
    let as := wordsFrom a ws.length
    match s.storePieces c ring false (pieces as) (as.zip ws).reverse with
    | .ok s => .ok (s.modCore c (fun k => k.setAIn bank 7 (BitVec.ofNat 48 a)))
    | r => r

/-! ### Fetches (R242, R244, R335) -/

/-- The instruction words of a codeword's run reach the core: from the I-cache where the region is WT, else from memory. -/
def State.fetchRun (s : State) (c ring : Nat) (a : Nat) : State × Option Nat :=
  if isCsr a then (s, none)
  else if spadLen ≤ a && (s.coreAttr c ring a .exec).wt then
    match s.lineFor c false a with
    | (s, .error e) => (s, some e)
    | (s, .ok _) => (s, none)
  else s.readCodewords c [a / 8]

/-- The fetch of n words: every word is checked for execution in the ring, then decoded, then read (R242, R316, R335). -/
def State.fetch (s : State) (c ring pc n : Nat) : State × Option Exn :=
  let as := wordsFrom pc n
  match s.accessExn c ring .exec false false (fun _ => 0) (as.map (fun a => [a])) with
  | some x => (s, some x)
  | none =>
    (runs 8 as).foldl (fun (x : State × Option Exn) r =>
      match x.2 with
      | some _ => x
      | none =>
        let y := x.1.fetchRun c ring (r.headD 0)
        (y.1, y.2.map (fun e => { vec := 10, detail := 6, eaddr := e }))) (s, none)

/-- The word that a core would fetch at an address. -/
def State.peekWord (s : State) (c ring a : Nat) : Word :=
  if spadLen ≤ a && (s.coreAttr c ring a .exec).wt then
    match cacheFind (s.coreOf c).icache (a / 32) with
    | some l => wordAt l.words (a % 32)
    | none => s.rd a
  else s.rd (physOf c a)

/-- The length of an instruction, from its first word (R240, R253). -/
def insnLen (w : Word) : Nat :=
  let n := w.toNat
  let ea := match bits n 5 3 with | 3 => 2 | 4 => 2 | 5 => 4 | 6 => if n / 1024 = 0x12 then 3 else 2 | _ => 1
  match n / 1024 with
  | 0x08 => 2 | 0x0C => 2
  | 0x10 => ea | 0x11 => ea | 0x12 => ea | 0x13 => ea | 0x14 => ea | 0x16 => ea | 0x17 => ea | 0x2E => ea
  | 0x15 => let b := bits n 2 0; if b = 1 || b = 4 || b = 5 then 2 else 1
  | 0x18 => 2 | 0x19 => 2 | 0x1A => 2 | 0x1B => 2 | 0x21 => 2 | 0x28 => 2 | 0x29 => 2 | 0x2D => 2
  | 0x2F => if bit n 9 then 2 else 4
  | 0x30 => 2 | 0x32 => 2
  | _ => 1

end Sys2Proof.Machine
end

