-- ==== Sys2Proof/Machine/Exc.lean ====
section
/-!
DEFINITION. Taking an exception or an interrupt (R215 to R221), double and triple faults (R229, R230), and the issue of
one instruction: the order of its causes (R217), its breakpoints (R494), its fetch and its retirement.
-/

namespace Sys2Proof.Machine

/-! ### Status copies (R209, R210, R223, R224) -/

/-- A saved status copy: SW, with RSM set where a block instruction is stopped, ORG 1 and the ring that was current as
ORIGIN (R209, R219). -/
def CoreSt.saved (k : CoreSt) (rsm : Bool) : Word :=
  let sw := k.sw &&& 0x1FFF
  (if rsm then setBit sw 9 true else sw) ||| BitVec.ofNat 16 (0x2000 + 0x4000 * k.ring)

/-- RING of a status copy (R208). -/
def swRing (w : Word) : Nat := bits w.toNat 12 11
/-- ORG of a status copy (R209). -/
def swOrg (w : Word) : Bool := w.getLsbD 13
/-- ORIGIN of a status copy (R209). -/
def swOrigin (w : Word) : Nat := bits w.toNat 15 14

/-- SW with a new ring. -/
def withRing (w : Word) (r : Nat) : Word := (w &&& 0xE7FF) ||| BitVec.ofNat 16 (0x800 * r)

/-- A status copy read from a stack that ring r owns: ORIGIN is the higher in number of its own and r (R224). -/
def confine (w : Word) (r : Nat) : Word := (w &&& 0x3FFF) ||| BitVec.ofNat 16 (0x4000 * max (swOrigin w) r)

/-- Words 1 to 3 of a frame, and the address they hold (R220). -/
def addrWords (a : Nat) : List Word := wordsLow 3 a
/-- The address in words, low word first. -/
def wordsAddr (ws : List Word) : Nat := ofWordsLow (fitW 3 ws)

/-! ### Vectors (R215) -/

/-- An entry of the vector table (R215). -/
structure VecEntry where
  addr : Nat
  ring : Nat
  push : Bool
  gms : Bool
deriving DecidableEq, Repr

/-- Four words of a table in the scratchpad, which no protection unit checks (R215, R226, R327); or the DETAIL and
EADDR with which they cannot be read. -/
def State.readTable (s : State) (c a : Nat) : State × Except (Nat × Nat) (List Word) :=
  if spadLen < a + 4 then (s, .error (1, a))
  else
    match s.readCodewords c [a / 8] with
    | (s, some e) => (s, .error (6, e))
    | (s, none) => (s, .ok (s.rds (spadBase c + a) 4))

/-- Reading entry v of the vector table, or the vector of the fault that stops it (R215, R229). -/
def State.readVector (s : State) (c v : Nat) : State × Except Nat VecEntry :=
  match s.readTable c ((s.coreOf c).vbr.toNat + 4 * v) with
  | (s, .error _) => (s, .error 10)
  | (s, .ok ws) =>
    let w := (wordAt ws 3).toNat
    if 16 ≤ w then (s, .error 3) else (s, .ok ⟨wordsAddr ws, bits w 1 0, bit w 2, bit w 3⟩)

/-! ### Faults of an entry (R229, R230) -/

/-- A triple fault: the engine, or the failing core of a split engine, is reset and TRIPLE_FAULT reported (R230); of a
locked engine whose cores have just diverged it is none (R374). -/
def State.tripleFault (s : State) (c : Nat) : State :=
  if (s.engOf (coreEng c)).state = .selftest then s
  else
    let s := s.raise (coreDie c) (coreBlk c) (1 + coreIdx c)
    (s.modCore c (fun k => { k with triples := satInc k.triples })).engReset c 1

/-- The fetch of a handler's first instruction, every word of it (R218, R229). -/
def State.fetchHandler (s : State) (c a : Nat) : State × Option Exn :=
  let ring := (s.coreOf c).ring
  match s.fetch c ring a 1 with
  | (s, some x) => (s, some x)
  | (s, none) => s.fetch c ring a (insnLen (s.peekWord c ring a))

/-- A fault stops the entry for a vector: DOUBLE_FAULT is entered in ring 0 on the double-fault bank, with what the
failed entry would have saved; a fault on the way there is a triple fault (R229, R230). -/
def State.doubleFault (s : State) (c vec fvec epc : Nat) (esw : Word) : State :=
  match s.readVector c 1 with
  | (s, .error _) => s.tripleFault c
  | (s, .ok e) =>
    let s := s.modCore c (fun k =>
      { (k.modBank 4 (fun b => { b with epc := BitVec.ofNat 48 epc, esw := esw, ecause := 1, eaddr := 0 })) with
        sw := setBit (setBit (withRing k.sw 0) 9 false) 8 true
        df := true
        dfCause := BitVec.ofNat 16 (vec + 64 * fvec)
        pc := BitVec.ofNat 48 e.addr })
    match s.fetchHandler c e.addr with
    | (s, some _) => s.tripleFault c
    | (s, none) => s

/-! ### Entry (R218 to R221) -/

/-- ECAUSE (R221). -/
def Exn.cause (x : Exn) : Word :=
  BitVec.ofNat 16 (x.vec + 64 * b2n x.part + 128 * b2n x.wr + 256 * x.detail)

/-- Pushing a frame onto A7 of a ring, waiting for the write buffer where the push needs it (R204, R220). -/
def State.pushFrame (s : State) (c bank ring detail : Nat) (ws : List Word) : Wr :=
  match s.pushWords c bank ring detail ws with
  | .hold => (s.drainAll c).pushWords c bank ring detail ws
  | r => r

/-- Steps 4 to 6 of an entry: bank h and SW are written and the handler's first instruction is fetched (R218). -/
def State.enterBank (s : State) (c h : Nat) (x : Exn) (epc : Nat) (esw : Word) (e : VecEntry) : State :=
  let s := s.modCore c (fun k =>
    let b := k.modBank h (fun b =>
      { b with epc := BitVec.ofNat 48 epc, esw := esw, ecause := x.cause, eaddr := BitVec.ofNat 48 x.eaddr })
    let sw := setBit (withRing k.sw h) 9 false
    { b with
      sw := if e.gms && decide (h ≤ 1) then setBit sw 8 true else sw
      pc := BitVec.ofNat 48 e.addr })
  match s.fetchHandler c e.addr with
  | (s, some f) => s.doubleFault c x.vec f.vec epc esw
  | (s, none) => s

/-- An entry into a handler, with the EPC and status copy it saves: steps 2 and 3, then the rest (R215, R218). -/
def State.enterWith (s : State) (c : Nat) (x : Exn) (epc : Nat) (esw : Word) : State :=
  let ring := (s.coreOf c).ring
  match s.readVector c x.vec with
  | (s, .error f) => s.doubleFault c x.vec f epc esw
  | (s, .ok e) =>
    let h := if x.vec = 5 then ring else min e.ring ring
    let b := (s.coreOf c).bankAt h
    if e.push || x.vec == 5 then
      match s.pushFrame c h h 0 (b.esw :: addrWords b.epc.toNat) with
      | .exn s f => s.doubleFault c x.vec f.vec epc esw
      | .hold => s
      | .ok s =>
        (s.modCore c (fun k => k.modBank h (fun b => { b with enest := b.enest + 1 }))).enterBank c h x epc esw e
    else
      let s := if swOrg b.esw then s.orReg (coreDie c) (coreBlk c) (coreOff c) 0x10 else s
      s.enterBank c h x epc esw e

/-- Taking an exception or an interrupt with its EPC: in the double-fault state it is a triple fault; WATCHDOG_WARN is
taken by its entry (R218, R219, R230, R436). -/
def State.takeExn (s : State) (c : Nat) (x : Exn) (epc : Nat) (rsm : Bool) : State :=
  let k := s.coreOf c
  if k.df then s.tripleFault c
  else
    let s := s.modCore c (fun k => { k with runst := .run, warn := if x.vec = 13 then false else k.warn, sel := none })
    s.enterWith c x epc (k.saved rsm)

/-! ### The issue of an instruction -/

/-- What an instruction comes to: it retires, with the DETAIL of an ARITH it raises or 0; it raises a precise
exception, for a block instruction with saved RSM; or it holds issue. -/
inductive Res where
  | ok (s : State) (arith : Nat)
  | exn (s : State) (x : Exn) (rsm : Bool)
  | hold
deriving DecidableEq, Repr

/-- A core is ready to issue: it runs, or it stands in WAIT with GM set and a cause pending (R234). -/
def State.ready (s : State) (c : Nat) : Bool :=
  s.issuing c ||
    (s.coreLive c && (s.coreOf c).runst == .wait && (s.engOf (coreEng c)).modeCmd.isNone &&
      (s.coreOf c).flag 8 && (s.asyncVec c).isSome)

/-- The breakpoints of a core that match an address, one bit each (R494, R499). -/
def State.bpHits (s : State) (c pc : Nat) : List Nat :=
  (List.range 4).filter (fun n =>
    let o := coreOff c + 0x30 + 4 * n
    s.flag (coreDie c) (coreBlk c) (o + 3) 0 && s.regN (coreDie c) (coreBlk c) o 3 == pc)

/-- An instruction breakpoint matches: it is recorded, and the core halts where HALTACT is 1 and an open session has it
in scope; otherwise DEBUG is raised (R494). -/
def State.breakAt (s : State) (c : Nat) (hits : List Nat) (pc : Nat) : State :=
  let o := 0x180 + 2 * engSlot (coreEng c) + coreIdx c
  let s := s.orReg (coreDie c) 0x0D o (BitVec.ofNat 16 (hits.foldl (fun a n => a + 2 ^ n) 0))
  let act := hits.any (fun n => s.flag (coreDie c) (coreBlk c) (coreOff c + 0x33 + 4 * n) 1)
  let inScope := match s.dbg.session with | some d => d.scope.getLsbD (coreEng c) | none => false
  if act && inScope then
    (s.modCore c (fun k => { k with runst := .halted, haltReq := false, haltedAt := s.now })).freezeWdt (wdtKey c)
  else s.takeExn c { vec := 14 } pc false

/-- CK1 cycles from the assertion of a line to its selection (R235). -/
abbrev selectCk1 : Nat := 2
/-- CK1 cycles from the selection of a line to the last boundary at which it is taken: 6 + w − 2, w at most 8 (R235). -/
abbrev heldCk1 : Nat := 12

/-- The selection that a core holds now (R236). -/
def State.held (s : State) (c : Nat) : Option Nat :=
  match (s.coreOf c).sel with
  | some (v, t) => if s.now ≤ t + heldCk1 then some v else none
  | none => none

/-- The vector that an entry at this boundary takes: a selected cause whose source has fallen keeps its entry; otherwise
the first of those that are pending (R217, R236). -/
def State.entryVec (s : State) (c : Nat) : Option Nat :=
  match s.held c with
  | some v => if s.asyncPending c v then s.asyncVec c else some v
  | none => s.asyncVec c

/-- The cause that has been pending long enough is selected before the next instruction issues, unless one is held; with
GM set nothing is (R235, R236; assumption 125). -/
def State.select (s : State) (c : Nat) : State :=
  let v := { s with now := s.now - selectCk1 }.asyncVec c
  let h := s.held c
  s.modCore c (fun k =>
    { k with sel := if k.flag 8 then none else if h.isSome then k.sel else v.map (fun v => (v, s.now)) })

/-- A management SPLIT or JOIN is answered once the first instruction has issued (R371). -/
def State.modeDone (s : State) (e : Nat) : State :=
  if (s.engOf e).modeWait then (s.modEng e (fun x => { x with modeWait := false })).finishMode 0 [] else s

/-- A core as it begins to issue: it runs, it has selected its pending cause, a resynchronisation of its engine is over,
and so is a change of its mode (R234, R236, R363, R371). -/
def State.started (s : State) (c : Nat) : State :=
  ((((s.select c).modCore c (fun k => { k with runst := .run, issuedAt := k.pc })).modEng (coreEng c) (fun x =>
    { x with resyncing := false, preSplit := none })).modeDone (coreEng c))

/-- The pc of a core as a number. -/
def State.pcOf (s : State) (c : Nat) : Nat := (s.coreOf c).pc.toNat

/-- The fetch of n words at a core's pc. -/
def State.fetched (s : State) (c n : Nat) : State × Option Exn :=
  (s.started c).fetch c (s.coreOf c).ring (s.pcOf c) n

/-- The state in which an instruction of n words has its effect: it has been fetched and the pc stands behind it. -/
def State.issued (s : State) (c n : Nat) : State :=
  (s.fetched c n).1.modCore c (fun k => { k with pc := BitVec.ofNat 48 (s.pcOf c + n) })

/-- What an instruction that issued at pc in state s comes to: it holds and the state stays, it raises, it retires, or
it retires and raises ARITH (R217, R246). -/
def State.settle (s : State) (c pc : Nat) : Res → State
  | .hold => s
  | .exn u x rsm => (u.takeExn c x pc rsm).takeHalt c
  | .ok u 0 => u.takeHalt c
  | .ok u (d + 1) => (u.takeExn c { vec := 8, detail := d + 1 } (u.pcOf c) false).takeHalt c

/-- The cause that stops an instruction which has been fetched before its own causes: an undefined encoding, a
reserved field, or a ring that may not issue it, in the order of R217. -/
def issueExn (illegal reserved : Bool) (maxRing ring : Nat) : Option Exn :=
  if illegal then some { vec := 2 }
  else if reserved then some { vec := 3 }
  else if maxRing < ring then some { vec := 4, detail := 1 }
  else none

/-- An instruction of n words issues in a core: breakpoints, the fetch, undefined and reserved encodings, the ring it
needs, then its own causes and effect, all in the order of R217. A core that is not ready takes nothing, and one that
holds issue stays as it is. The body runs with the pc at the next instruction. -/
def State.runInsn (s : State) (core : CoreId) (n : Nat) (illegal reserved : Bool) (maxRing : Nat)
    (body : State → Res) : State :=
  let c := core.toNat
  if !(s.ready c) then s
  else
    match (s.started c).bpHits c (s.pcOf c) with
    | b :: bs => (s.started c).breakAt c (b :: bs) (s.pcOf c)
    | [] =>
      match s.fetched c n with
      | (u, some x) => (u.takeExn c x (s.pcOf c) false).takeHalt c
      | (u, none) =>
        match issueExn illegal reserved maxRing (s.coreOf c).ring with
        | some x => (u.takeExn c x (s.pcOf c) false).takeHalt c
        | none => s.settle c (s.pcOf c) (body (s.issued c n))

/-- A change of one core's registers that retires without an exception. -/
def State.plain (s : State) (core : CoreId) (f : CoreSt → CoreSt) : Res := .ok (s.modCore core.toNat f) 0

/-! ### Asynchronous causes -/

/-- An interrupt that is selected before cycle 4 of a SPLIT cancels it: it is issued again after the return (R369). -/
def State.splitCancel (s : State) (c : Nat) : State :=
  let x := s.engOf (coreEng c)
  match x.preSplit with
  | some k =>
    if coreIdx c == 0 && x.state == .split && decide (s.now + 13 < x.splitAt) && !(k.flag 8) && (s.asyncVec c).isSome then
      s.unsplit (coreEng c) k
    else s
  | none => s

/-- An asynchronous cause is taken at the boundary: the core issues or waits, and GM is clear; the cause that the core
has selected is taken though its source has fallen since; with GM set a core in WAIT goes on (R217, R232 to R236). -/
def State.interrupt (s : State) (c : Nat) : State :=
  let s := s.splitCancel c
  let k := s.coreOf c
  if !(s.coreLive c) || (s.engOf (coreEng c)).modeCmd.isSome || !(k.runst == .run || k.runst == .wait) ||
      decide (s.now < k.resumeAt) then s
  else
    match s.entryVec c with
    | none => s
    | some v =>
      if k.flag 8 then s.modCore c (fun k => { k with runst := .run })
      else (s.takeExn c { vec := v } k.pc.toNat false).takeHalt c

/-- The oldest entry of a core's write buffer starts to drain (R203, R256). -/
def State.wbDrain (s : State) (c : Nat) : State :=
  s.modCore c (fun k =>
    match k.wb with
    | [] => k
    | e :: es => { k with wb := { e with draining := true } :: es })

/-- The entry that drains is acknowledged, or its target returns an error and it is lost (R205, R256); once the write
buffer of a core that stops for a JOIN is empty, the hand-over starts (R370). -/
def State.wbAck (s : State) (c : Nat) (err : Bool) : State :=
  match (s.coreOf c).wb with
  | [] => s
  | e :: es =>
    if !e.draining then s
    else
      let s := s.modCore c (fun k => { k with wb := es })
      let s := if err then s.storeNotice c ((e.words.headD (0, 0)).1.toNat) else s.putEntry c e
      let x := s.engOf (coreEng c)
      if es.isEmpty && coreIdx c == 1 && x.state == .handover && x.joinAt.isNone then
        s.modEng (coreEng c) (fun x => { x with joinAt := some s.now })
      else s

/-! ### The commands -/

/-- INTERRUPT_ENTRY (R217, R218, R235). -/
def execInterruptEntry (t : Nat) (c : CoreId) (s : State) : Host.Outcome State Fault Refusal :=
  .next ((s.to t).interrupt c.toNat)

/-- TIMER_LINE (R211, R232): from CYC = TCMP on the TIMER lines assert, which IPEND shows; a core in WAIT with GM set
goes on (R234). -/
def execTimerLine (t : Nat) (c : CoreId) (s : State) : Host.Outcome State Fault Refusal :=
  .next (let s := s.to t
    if (s.coreOf c.toNat).flag 8 && (s.coreOf c.toNat).runst == .wait then s.interrupt c.toNat else s)

/-- WRITE_BUFFER_DRAIN (R203, R256). -/
def execWriteBufferDrain (t : Nat) (c : CoreId) (s : State) : Host.Outcome State Fault Refusal :=
  .next ((s.to t).wbDrain c.toNat)

/-- WRITE_BUFFER_ACK (R205, R256). -/
def execWriteBufferAck (t : Nat) (c : CoreId) (err : Bool) (s : State) : Host.Outcome State Fault Refusal :=
  .next ((s.to t).wbAck c.toNat err)

/-- A first word has no meaning: its major, or a value in it, is undefined (R241, R270). Of a vector ALU word and a
block word, the word after it may be what is undefined. -/
def undefinedWord (w : Word) : Bool :=
  let n := w.toNat
  let m := bits n 5 3
  match n / 1024 with
  | 0x00 => true
  | 0x07 => bits n 1 0 != 0
  | 0x08 => decide (25 ≤ bits n 5 0)
  | 0x0A => let k := bits n 5 0; k == 0x07 || k == 0x13 || k == 0x17 || decide (0x28 ≤ k)
  | 0x0C => decide (2 ≤ bits n 1 0)
  | 0x10 => m == 7 | 0x12 => m == 7
  | 0x11 => decide (6 ≤ m) | 0x13 => decide (6 ≤ m) | 0x16 => decide (6 ≤ m) | 0x17 => decide (6 ≤ m)
  | 0x14 => m == 1 || m == 2 || decide (6 ≤ m)
  | 0x2E => m == 1 || m == 2 || decide (6 ≤ m)
  | 0x15 => decide (6 ≤ bits n 2 0)
  | 0x1B => true
  | 0x2A => decide (0x0D ≤ bits n 5 0)
  | 0x32 => true
  | j => (decide (0x0D ≤ j) && decide (j ≤ 0x0F)) || (decide (0x1C ≤ j) && decide (j ≤ 0x1F)) ||
      (decide (0x25 ≤ j) && decide (j ≤ 0x27)) || decide (0x33 ≤ j)

/-- ILLEGAL_OPCODE (R241, R242, R270): an undefined encoding with this first word issues; a word that has a meaning is
no such event. -/
def execIllegalOpcode (t : Nat) (c : CoreId) (word : Word) (s : State) : Host.Outcome State Fault Refusal :=
  .next (if undefinedWord word then (s.to t).runInsn c (insnLen word) true false 3 (fun _ => .hold) else s.to t)

end Sys2Proof.Machine
end

