-- ==== Sys2Proof/Machine/Flags.lean ====
section
/-!
DEFINITION. Flags and the arithmetic of the scalar instructions (R245 to R252): each operation as a change of a core's
registers, with the DETAIL of the ARITH it raises.
-/

namespace Sys2Proof.Machine

/-! ### Flags (R245) -/

/-- Writing Z and N from a result. -/
def CoreSt.setZN (k : CoreSt) (r : Word) : CoreSt := (k.setFlag 1 (r == 0)).setFlag 2 r.msb

/-- Writing C. -/
def CoreSt.setC (k : CoreSt) (b : Bool) : CoreSt := k.setFlag 0 b

/-- Writing V. -/
def CoreSt.setV' (k : CoreSt) (b : Bool) : CoreSt := k.setFlag 3 b

/-- The sticky SAT (R245). -/
def CoreSt.stickSat (k : CoreSt) (b : Bool) : CoreSt := if b then k.setFlag 5 true else k

/-- The sticky DZ (R245). -/
def CoreSt.stickDz (k : CoreSt) (b : Bool) : CoreSt := if b then k.setFlag 4 true else k

/-- ARITH, DETAIL 2: V was written 1 with OVT set (R246). -/
def CoreSt.ovt (k : CoreSt) : Nat := if k.flag 3 && k.flag 7 then 2 else 0

/-- A number lies outside the signed 16-bit range. -/
def outside16 (x : Int) : Bool := decide (x < -32768) || decide (32767 < x)

/-- Saturating to the signed 16-bit range. -/
def sat16 (x : Int) : Word := BitVec.ofInt 16 (max (-32768) (min 32767 x))

/-- What a scalar operation comes to: the core's registers after it, and the DETAIL of its ARITH, 0 for none. -/
abbrev Alu := CoreSt × Nat

/-- A scalar operation of two operands on Dd: the core, d, Dd and S. -/
abbrev AluOp := CoreSt → Nat → Word → Word → Alu

/-- Writing a result with Z and N. -/
def CoreSt.putZN (k : CoreSt) (d : Nat) (r : Word) : CoreSt := (k.setZN r).setD d r

/-! ### Sums and differences (R247) -/

/-- A sum with a carry in: its result and its C, Z, N, V. -/
def CoreSt.addFlags (k : CoreSt) (a b : Word) (cin : Nat) : CoreSt × Word :=
  let n := a.toNat + b.toNat + cin
  let r : Word := BitVec.ofNat 16 n
  (((k.setC (decide (65536 ≤ n))).setZN r).setV' (outside16 (a.toInt + b.toInt + cin)), r)

/-- A difference with a borrow in: C is not-borrow. -/
def CoreSt.subFlags (k : CoreSt) (a b : Word) (bin : Nat) : CoreSt × Word :=
  let r : Word := BitVec.ofInt 16 (a.toInt - b.toInt - bin)
  (((k.setC (decide (b.toNat + bin ≤ a.toNat))).setZN r).setV' (outside16 (a.toInt - b.toInt - bin)), r)

/-- ADD. -/
def opAdd : AluOp := fun k d a b => let x := k.addFlags a b 0; (x.1.setD d x.2, x.1.ovt)
/-- ADDC. -/
def opAddc : AluOp := fun k d a b => let x := k.addFlags a b (b2n (k.flag 0)); (x.1.setD d x.2, x.1.ovt)
/-- SUB. -/
def opSub : AluOp := fun k d a b => let x := k.subFlags a b 0; (x.1.setD d x.2, x.1.ovt)
/-- SUBB. -/
def opSubb : AluOp := fun k d a b => let x := k.subFlags a b (b2n (!k.flag 0)); (x.1.setD d x.2, x.1.ovt)
/-- CMP, which never raises ARITH (R246). -/
def opCmp : AluOp := fun k _ a b => ((k.subFlags a b 0).1, 0)

/-- A saturating result: Z and N from it, V 0, SAT where it saturated (R245). -/
def CoreSt.putSat (k : CoreSt) (d : Nat) (x : Int) : CoreSt :=
  ((k.setV' false).stickSat (outside16 x)).putZN d (sat16 x)

/-- ADDS. -/
def opAdds : AluOp := fun k d a b => (k.putSat d (a.toInt + b.toInt), 0)
/-- SUBS. -/
def opSubs : AluOp := fun k d a b => (k.putSat d (a.toInt - b.toInt), 0)

/-! ### Logic and moves (R247) -/

/-- AND. -/
def opAnd : AluOp := fun k d a b => (k.putZN d (a &&& b), 0)
/-- OR. -/
def opOr : AluOp := fun k d a b => (k.putZN d (a ||| b), 0)
/-- XOR. -/
def opXor : AluOp := fun k d a b => (k.putZN d (a ^^^ b), 0)
/-- TST. -/
def opTst : AluOp := fun k _ a b => (k.setZN (a &&& b), 0)
/-- MOV. -/
def opMov : AluOp := fun k d _ b => (k.setD d b, 0)

/-! ### Shifts (R247, R248, R251) -/

/-- A shift's result with its C, where it writes C. -/
abbrev Shifted := Word × Option Bool

/-- SHL by a count (R248). -/
def shlBy (a : Word) (n : Nat) : Shifted :=
  if n = 0 then (a, none) else (if 16 < n then 0 else a <<< n, some (decide (n ≤ 16) && a.getLsbD (16 - n)))

/-- SHR by a count (R248). -/
def shrBy (a : Word) (n : Nat) : Shifted :=
  if n = 0 then (a, none) else (if 16 < n then 0 else a >>> n, some (decide (n ≤ 16) && a.getLsbD (n - 1)))

/-- SAR by a count (R248). -/
def sarBy (a : Word) (n : Nat) : Shifted :=
  if n = 0 then (a, none) else (a.sshiftRight (min n 16), some (if n ≤ 16 then a.getLsbD (n - 1) else a.msb))

/-- ROL by a count (R248). -/
def rolBy (a : Word) (n : Nat) : Shifted :=
  let m := n % 16
  if m = 0 then (a, none) else (a.rotateLeft m, some ((a.rotateLeft m).getLsbD 0))

/-- ROR by a count (R248). -/
def rorBy (a : Word) (n : Nat) : Shifted :=
  let m := n % 16
  if m = 0 then (a, none) else (a.rotateRight m, some ((a.rotateRight m).getLsbD 15))

/-- A shift instruction: C where the count gives one, Z and N. -/
def opShift (f : Word → Nat → Shifted) : AluOp := fun k d a b =>
  let x := f a b.toNat
  ((match x.2 with | some c => k.setC c | none => k).putZN d x.1, 0)

/-- SHLS: the shifted value where it is Dd × 2^count, else the limit on Dd's side (R251). -/
def opShls : AluOp := fun k d a b => (k.putSat d (a.toInt * 2 ^ min b.toNat 16), 0)

/-! ### Products and quotients (R247, R252) -/

/-- MUL. -/
def opMul : AluOp := fun k d a b =>
  let p := a.toInt * b.toInt
  let k := (k.setV' (outside16 p)).putZN d (BitVec.ofInt 16 p)
  (k, k.ovt)

/-- MULU. -/
def opMulu : AluOp := fun k d a b =>
  let p := a.toNat * b.toNat
  ((k.setC (decide (65536 ≤ p))).putZN d (BitVec.ofNat 16 p), 0)

/-- The Q15 product before it is saturated (R247). -/
def mulq (a b : Word) : Int := (a.toInt * b.toInt + 16384) / 32768

/-- MULQ: V is not written (R247). -/
def opMulq : AluOp := fun k d a b =>
  (((k.stickSat (outside16 (mulq a b)))).putZN d (sat16 (mulq a b)), 0)

/-- Quotient and remainder into Dd and Dd + 1; Z and N follow the quotient. -/
def CoreSt.putDiv (k : CoreSt) (d : Nat) (q r : Word) : CoreSt := (k.putZN d q).setD (d + 1) r

/-- ARITH, DETAIL 1, of a division by zero (R246). -/
def CoreSt.dzt (k : CoreSt) : Nat := if k.flag 6 then 1 else 0

/-- The signed quotient of a division by zero (R252). -/
def divZero (a : Word) : Word := if a.msb then 0x8000 else 0x7FFF

/-- DIV. -/
def opDiv : AluOp := fun k d a b =>
  if b = 0 then (((k.stickDz true).setV' false).putDiv d (divZero a) a, k.dzt)
  else
    let q := Int.tdiv a.toInt b.toInt
    let k := (k.setV' (outside16 q)).putDiv d (BitVec.ofInt 16 q) (BitVec.ofInt 16 (Int.tmod a.toInt b.toInt))
    (k, k.ovt)

/-- DIVU. -/
def opDivu : AluOp := fun k d a b =>
  if b = 0 then ((k.stickDz true).putDiv d 0xFFFF a, k.dzt) else (k.putDiv d (a / b) (a % b), 0)

/-- DIVS. -/
def opDivs : AluOp := fun k d a b =>
  if b = 0 then (((k.stickDz true).setV' false).putDiv d (divZero a) a, k.dzt)
  else
    let q := Int.tdiv a.toInt b.toInt
    (((k.setV' false).stickSat (outside16 q)).putDiv d (sat16 q) (BitVec.ofInt 16 (Int.tmod a.toInt b.toInt)), 0)

/-- REM: V is not written (R252). -/
def opRem : AluOp := fun k d a b =>
  if b = 0 then ((k.stickDz true).putZN d a, k.dzt)
  else (k.putZN d (BitVec.ofInt 16 (Int.tmod a.toInt b.toInt)), 0)

/-! ### The unary group (R250, R252) -/

/-- A scalar operation of one operand: the core, d and Dd. -/
abbrev UnOp := CoreSt → Nat → Word → Alu

/-- NEG. -/
def opNeg : UnOp := fun k d a => let x := k.subFlags 0 a 0; (x.1.setD d x.2, x.1.ovt)
/-- NEGS. -/
def opNegs : UnOp := fun k d a => (k.putSat d (-a.toInt), 0)
/-- ABS: C is not written. -/
def opAbs : UnOp := fun k d a =>
  let n : Int := a.toInt.natAbs
  let k := (k.setV' (outside16 n)).putZN d (BitVec.ofInt 16 n)
  (k, k.ovt)
/-- ABSS. -/
def opAbss : UnOp := fun k d a => (k.putSat d (a.toInt.natAbs : Int), 0)
/-- NOT. -/
def opNot : UnOp := fun k d a => (k.putZN d (~~~a), 0)
/-- Leading zeros of a word. -/
def clz16 (a : Word) : Nat := ((List.range 16).takeWhile (fun i => !(a.getLsbD (15 - i)))).length
/-- Set bits of a word. -/
def popc16 (a : Word) : Nat := ((List.range 16).filter (fun i => a.getLsbD i)).length
/-- A count: it writes Z alone. -/
def CoreSt.putCount (k : CoreSt) (d n : Nat) : CoreSt := (k.setFlag 1 (n == 0)).setD d (BitVec.ofNat 16 n)
/-- CLZ. -/
def opClz : UnOp := fun k d a => (k.putCount d (clz16 a), 0)
/-- POPC. -/
def opPopc : UnOp := fun k d a => (k.putCount d (popc16 a), 0)

/-! ### Accumulators (R249, R250) -/

/-- The accumulator's sum with a signed product. -/
def macSum (k : CoreSt) (n : Nat) (a b : Word) : Int := (k.acc n).toInt + a.toInt * b.toInt

/-- MAC. -/
def CoreSt.mac (k : CoreSt) (n : Nat) (a b : Word) : CoreSt := k.setAcc n (BitVec.ofInt 40 (macSum k n a b))

/-- MACS. -/
def CoreSt.macs (k : CoreSt) (n : Nat) (a b : Word) : CoreSt :=
  let x := macSum k n a b
  (k.stickSat (decide (x < -(2 ^ 39)) || decide (2 ^ 39 - 1 < x))).setAcc n
    (BitVec.ofInt 40 (max (-(2 ^ 39)) (min (2 ^ 39 - 1) x)))

/-- The Q15 reading of an accumulator before it is saturated (R250). -/
def accQ (a : BitVec 40) : Int := (a.toInt + 16384) / 32768

/-- MOV Dd, ACk.x. -/
def CoreSt.fromAcc (k : CoreSt) (d n : Nat) : AccPart → CoreSt
  | .l => k.setD d ((k.acc n).extractLsb' 0 16)
  | .h => k.setD d ((k.acc n).extractLsb' 16 16)
  | .g => k.setD d (((k.acc n).extractLsb' 32 8).signExtend 16)
  | .q => (k.stickSat (outside16 (accQ (k.acc n)))).setD d (sat16 (accQ (k.acc n)))

/-- MOV ACk.x, Dd. -/
def CoreSt.toAcc (k : CoreSt) (v : Word) (n : Nat) : AccPart → CoreSt
  | .l => k.setAcc n ((k.acc n).extractLsb' 16 24 ++ v)
  | .h => k.setAcc n ((k.acc n).extractLsb' 32 8 ++ v ++ (k.acc n).extractLsb' 0 16)
  | .g => k.setAcc n (v.extractLsb' 0 8 ++ (k.acc n).extractLsb' 0 32)
  | .q => k

/-! ### Conditions (R262) -/

/-- The condition field of Bcc; cond 8 is reserved and never gets here. -/
def CoreSt.cond (k : CoreSt) (cc : Nat) : Bool :=
  let c := k.flag 0
  let z := k.flag 1
  let n := k.flag 2
  let v := k.flag 3
  let base := match cc % 8 with
    | 0 => true | 1 => z | 2 => !c | 3 => !c || z | 4 => n != v | 5 => z || n != v | 6 => n | _ => v
  if 8 ≤ cc then !base else base

end Sys2Proof.Machine
end

