-- ==== Sys2Proof/Machine/Alu.lean ====
section
/-!
DEFINITION. The scalar instructions (R247 to R252): two-operand and unary arithmetic and logic, multiply-accumulate, the
moves of accumulators and predicates, MOVI, EXT and INS.
-/

namespace Sys2Proof.Machine

/-- The value of S: Ds or imm16 (R247). -/
def CoreSt.src (k : CoreSt) : Src → Word
  | .reg r => k.dr r.toNat
  | .imm v => v

/-- Words of a two-operand instruction: Format A or Format I (R247). -/
def srcLen : Src → Nat
  | .reg _ => 1
  | .imm _ => 2

/-- A two-operand scalar instruction; where Dd must be even, an odd one is a reserved field (R247, R271). -/
def State.alu2 (s : State) (c : CoreId) (even : Bool) (d : Reg) (x : Src) (op : AluOp) : State :=
  s.runInsn c (srcLen x) false (even && d.getLsbD 0) 3 (fun s =>
    let k := s.coreOf c.toNat
    let r := op k d.toNat (k.dr d.toNat) (k.src x)
    .ok (s.modCore c.toNat (fun _ => r.1)) r.2)

/-- An instruction of the unary group on Dd (R250). -/
def State.alu1 (s : State) (c : CoreId) (d : Reg) (op : UnOp) : State :=
  s.runInsn c 1 false false 3 (fun s =>
    let k := s.coreOf c.toNat
    let r := op k d.toNat (k.dr d.toNat)
    .ok (s.modCore c.toNat (fun _ => r.1)) r.2)

/-- An instruction that changes one core's registers and raises nothing of its own. -/
def State.regInsn (s : State) (c : CoreId) (n : Nat) (illegal reserved : Bool) (f : CoreSt → CoreSt) : State :=
  s.runInsn c n illegal reserved 3 (fun s => s.plain c f)

/-- ADD (R247). -/
def execAdd (t : Nat) (c : CoreId) (d : Reg) (x : Src) (s : State) : Host.Outcome State Fault Refusal :=
  .next ((s.to t).alu2 c false d x opAdd)

/-- ADDC (R247). -/
def execAddc (t : Nat) (c : CoreId) (d : Reg) (x : Src) (s : State) : Host.Outcome State Fault Refusal :=
  .next ((s.to t).alu2 c false d x opAddc)

/-- SUB (R247). -/
def execSub (t : Nat) (c : CoreId) (d : Reg) (x : Src) (s : State) : Host.Outcome State Fault Refusal :=
  .next ((s.to t).alu2 c false d x opSub)

/-- SUBB (R247). -/
def execSubb (t : Nat) (c : CoreId) (d : Reg) (x : Src) (s : State) : Host.Outcome State Fault Refusal :=
  .next ((s.to t).alu2 c false d x opSubb)

/-- ADDS (R247). -/
def execAdds (t : Nat) (c : CoreId) (d : Reg) (x : Src) (s : State) : Host.Outcome State Fault Refusal :=
  .next ((s.to t).alu2 c false d x opAdds)

/-- SUBS (R247). -/
def execSubs (t : Nat) (c : CoreId) (d : Reg) (x : Src) (s : State) : Host.Outcome State Fault Refusal :=
  .next ((s.to t).alu2 c false d x opSubs)

/-- AND (R247). -/
def execAnd (t : Nat) (c : CoreId) (d : Reg) (x : Src) (s : State) : Host.Outcome State Fault Refusal :=
  .next ((s.to t).alu2 c false d x opAnd)

/-- OR (R247). -/
def execOr (t : Nat) (c : CoreId) (d : Reg) (x : Src) (s : State) : Host.Outcome State Fault Refusal :=
  .next ((s.to t).alu2 c false d x opOr)

/-- XOR (R247). -/
def execXor (t : Nat) (c : CoreId) (d : Reg) (x : Src) (s : State) : Host.Outcome State Fault Refusal :=
  .next ((s.to t).alu2 c false d x opXor)

/-- CMP (R247). -/
def execCmp (t : Nat) (c : CoreId) (d : Reg) (x : Src) (s : State) : Host.Outcome State Fault Refusal :=
  .next ((s.to t).alu2 c false d x opCmp)

/-- TST (R247). -/
def execTst (t : Nat) (c : CoreId) (d : Reg) (x : Src) (s : State) : Host.Outcome State Fault Refusal :=
  .next ((s.to t).alu2 c false d x opTst)

/-- MOV (R247). -/
def execMov (t : Nat) (c : CoreId) (d : Reg) (x : Src) (s : State) : Host.Outcome State Fault Refusal :=
  .next ((s.to t).alu2 c false d x opMov)

/-- SHL (R247). -/
def execShl (t : Nat) (c : CoreId) (d : Reg) (x : Src) (s : State) : Host.Outcome State Fault Refusal :=
  .next ((s.to t).alu2 c false d x (opShift shlBy))

/-- SHLS (R247). -/
def execShls (t : Nat) (c : CoreId) (d : Reg) (x : Src) (s : State) : Host.Outcome State Fault Refusal :=
  .next ((s.to t).alu2 c false d x opShls)

/-- SHR (R247). -/
def execShr (t : Nat) (c : CoreId) (d : Reg) (x : Src) (s : State) : Host.Outcome State Fault Refusal :=
  .next ((s.to t).alu2 c false d x (opShift shrBy))

/-- SAR (R247). -/
def execSar (t : Nat) (c : CoreId) (d : Reg) (x : Src) (s : State) : Host.Outcome State Fault Refusal :=
  .next ((s.to t).alu2 c false d x (opShift sarBy))

/-- ROL (R247). -/
def execRol (t : Nat) (c : CoreId) (d : Reg) (x : Src) (s : State) : Host.Outcome State Fault Refusal :=
  .next ((s.to t).alu2 c false d x (opShift rolBy))

/-- ROR (R247). -/
def execRor (t : Nat) (c : CoreId) (d : Reg) (x : Src) (s : State) : Host.Outcome State Fault Refusal :=
  .next ((s.to t).alu2 c false d x (opShift rorBy))

/-- MUL (R247). -/
def execMul (t : Nat) (c : CoreId) (d : Reg) (x : Src) (s : State) : Host.Outcome State Fault Refusal :=
  .next ((s.to t).alu2 c false d x opMul)

/-- MULU (R247). -/
def execMulu (t : Nat) (c : CoreId) (d : Reg) (x : Src) (s : State) : Host.Outcome State Fault Refusal :=
  .next ((s.to t).alu2 c false d x opMulu)

/-- MULQ (R247). -/
def execMulq (t : Nat) (c : CoreId) (d : Reg) (x : Src) (s : State) : Host.Outcome State Fault Refusal :=
  .next ((s.to t).alu2 c false d x opMulq)

/-- DIV (R247). -/
def execDiv (t : Nat) (c : CoreId) (d : Reg) (x : Src) (s : State) : Host.Outcome State Fault Refusal :=
  .next ((s.to t).alu2 c true d x opDiv)

/-- DIVU (R247). -/
def execDivu (t : Nat) (c : CoreId) (d : Reg) (x : Src) (s : State) : Host.Outcome State Fault Refusal :=
  .next ((s.to t).alu2 c true d x opDivu)

/-- DIVS (R247). -/
def execDivs (t : Nat) (c : CoreId) (d : Reg) (x : Src) (s : State) : Host.Outcome State Fault Refusal :=
  .next ((s.to t).alu2 c true d x opDivs)

/-- REM (R247). -/
def execRem (t : Nat) (c : CoreId) (d : Reg) (x : Src) (s : State) : Host.Outcome State Fault Refusal :=
  .next ((s.to t).alu2 c false d x opRem)

/-- NEG (R250). -/
def execNeg (t : Nat) (c : CoreId) (d : Reg) (s : State) : Host.Outcome State Fault Refusal :=
  .next ((s.to t).alu1 c d opNeg)

/-- NEGS (R250). -/
def execNegs (t : Nat) (c : CoreId) (d : Reg) (s : State) : Host.Outcome State Fault Refusal :=
  .next ((s.to t).alu1 c d opNegs)

/-- ABS (R250). -/
def execAbs (t : Nat) (c : CoreId) (d : Reg) (s : State) : Host.Outcome State Fault Refusal :=
  .next ((s.to t).alu1 c d opAbs)

/-- ABSS (R250). -/
def execAbss (t : Nat) (c : CoreId) (d : Reg) (s : State) : Host.Outcome State Fault Refusal :=
  .next ((s.to t).alu1 c d opAbss)

/-- NOT (R250). -/
def execNot (t : Nat) (c : CoreId) (d : Reg) (s : State) : Host.Outcome State Fault Refusal :=
  .next ((s.to t).alu1 c d opNot)

/-- CLZ (R250). -/
def execClz (t : Nat) (c : CoreId) (d : Reg) (s : State) : Host.Outcome State Fault Refusal :=
  .next ((s.to t).alu1 c d opClz)

/-- POPC (R250). -/
def execPopc (t : Nat) (c : CoreId) (d : Reg) (s : State) : Host.Outcome State Fault Refusal :=
  .next ((s.to t).alu1 c d opPopc)

/-- MAC (R249). -/
def execMac (t : Nat) (c : CoreId) (d ds : Reg) (k : BitVec 1) (s : State) : Host.Outcome State Fault Refusal :=
  .next ((s.to t).regInsn c 1 false false (fun x => x.mac k.toNat (x.dr d.toNat) (x.dr ds.toNat)))

/-- MACS (R249). -/
def execMacs (t : Nat) (c : CoreId) (d ds : Reg) (k : BitVec 1) (s : State) : Host.Outcome State Fault Refusal :=
  .next ((s.to t).regInsn c 1 false false (fun x => x.macs k.toNat (x.dr d.toNat) (x.dr ds.toNat)))

/-- MOV Dd, ACk.x (R250). -/
def execMovFromAcc (t : Nat) (c : CoreId) (d : Reg) (k : BitVec 1) (x : AccPart) (s : State) :
    Host.Outcome State Fault Refusal :=
  .next ((s.to t).regInsn c 1 false false (fun y => y.fromAcc d.toNat k.toNat x))

/-- MOV ACk.x, Dd (R250); minors 0x13 and 0x17, which part Q would spell, are undefined. -/
def execMovToAcc (t : Nat) (c : CoreId) (d : Reg) (k : BitVec 1) (x : AccPart) (s : State) :
    Host.Outcome State Fault Refusal :=
  .next ((s.to t).regInsn c 1 (x == .q) false (fun y => y.toAcc (y.dr d.toNat) k.toNat x))

/-- MOV Dd, Pp.h (R250). -/
def execMovFromPred (t : Nat) (c : CoreId) (d : Reg) (p : BitVec 2) (h : BitVec 1) (s : State) :
    Host.Outcome State Fault Refusal :=
  .next ((s.to t).regInsn c 1 false false (fun x =>
    x.setD d.toNat ((x.pr p.toNat).extractLsb' (16 * h.toNat) 16)))

/-- MOV Pp.h, Dd (R250). -/
def execMovToPred (t : Nat) (c : CoreId) (d : Reg) (p : BitVec 2) (h : BitVec 1) (s : State) :
    Host.Outcome State Fault Refusal :=
  .next ((s.to t).regInsn c 1 false false (fun x =>
    let v := x.dr d.toNat
    let w := x.pr p.toNat
    x.setP p.toNat (if h = 0 then w.extractLsb' 16 16 ++ v else v ++ w.extractLsb' 0 16)))

/-- MOVI (R251). -/
def execMovi (t : Nat) (c : CoreId) (d : Reg) (imm6 : BitVec 6) (s : State) : Host.Outcome State Fault Refusal :=
  .next ((s.to t).regInsn c 1 false false (fun x => x.setD d.toNat (imm6.signExtend 16)))

/-- The mask of the low n bits. -/
def lowMask (n : Nat) : Word := BitVec.ofNat 16 (2 ^ n - 1)

/-- EXT (R251). -/
def execExt (t : Nat) (c : CoreId) (d ds : Reg) (wm1 pos : BitVec 4) (rsv : BitVec 8) (s : State) :
    Host.Outcome State Fault Refusal :=
  .next ((s.to t).regInsn c 2 false (rsv != 0) (fun x =>
    x.putZN d.toNat ((x.dr ds.toNat >>> pos.toNat) &&& lowMask (wm1.toNat + 1))))

/-- INS (R251). -/
def execIns (t : Nat) (c : CoreId) (d ds : Reg) (wm1 pos : BitVec 4) (rsv : BitVec 8) (s : State) :
    Host.Outcome State Fault Refusal :=
  .next ((s.to t).regInsn c 2 false (rsv != 0) (fun x =>
    let m := lowMask (wm1.toNat + 1) <<< pos.toNat
    x.setD d.toNat ((x.dr d.toNat &&& ~~~m) ||| ((x.dr ds.toNat <<< pos.toNat) &&& m))))

end Sys2Proof.Machine
end

