-- ==== Sys2Proof/Machine/Operands.lean ====
section
/-!
DEFINITION. Effective addresses (R212, R213, R253) and the shapes of the instructions that load and store through them.
-/

namespace Sys2Proof.Machine

/-- Words of an instruction with an effective address: its first word and the extension words of its mode; imm is the
number of words that mode 6 takes (R253). -/
def eaLen (imm : Nat) : Ea → Nat
  | .ind _ => 1
  | .postInc _ => 1
  | .preDec _ => 1
  | .disp _ _ => 2
  | .index _ _ _ _ => 2
  | .abs _ _ => 4
  | .imm _ _ _ => 1 + imm

/-- A reserved field of an effective address is nonzero, or its scale code is reserved (R253, R271). -/
def eaReserved : Ea → Bool
  | .index _ sc _ rsv => decide (6 ≤ sc.toNat) || rsv != 0
  | .abs an _ => an != 0
  | _ => false

/-- Mode 6, which only LD and LDP have (R254). -/
def eaImm : Ea → Bool
  | .imm _ _ _ => true
  | _ => false

/-- Modes 0, 3, 4 and 5, which LEA and JMP take (R254, R262). -/
def eaPlain : Ea → Bool
  | .ind _ => true
  | .disp _ _ => true
  | .index _ _ _ _ => true
  | .abs _ _ => true
  | _ => false

/-- A 16-bit number sign-extended to an address. -/
def sext48 (w : Word) : Addr := w.signExtend 48

/-- The effective address for n words (R212). -/
def CoreSt.ea (k : CoreSt) (n : Nat) : Ea → Addr
  | .ind an => k.ar an.toNat
  | .postInc an => k.ar an.toNat
  | .preDec an => k.ar an.toNat - BitVec.ofNat 48 n
  | .disp an d => k.ar an.toNat + sext48 d
  | .index an sc dm _ => k.ar an.toNat + BitVec.ofNat 48 (2 ^ sc.toNat) * sext48 (k.dr dm.toNat)
  | .abs _ a => a
  | .imm _ _ _ => 0

/-- The pointer update of an effective address at retirement (R212). -/
def CoreSt.eaUpdate (k : CoreSt) (n : Nat) : Ea → CoreSt
  | .postInc an => k.setA an.toNat (k.ar an.toNat + BitVec.ofNat 48 n)
  | .preDec an => k.setA an.toNat (k.ar an.toNat - BitVec.ofNat 48 n)
  | _ => k

/-- −(A7) for n words would leave A7 below the limit of its ring (R213). -/
def CoreSt.eaLimit (k : CoreSt) (n : Nat) : Ea → Bool
  | .preDec an => an == 7 && decide ((k.ar 7 - BitVec.ofNat 48 n).toNat < (k.slimOf k.ring).toNat)
  | _ => false

/-- The immediate words of mode 6 (R253). -/
def eaWords (n : Nat) : Ea → List Word
  | .imm _ w0 w1 => [w0, w1].take n
  | _ => []

/-- Loading n words through an effective address (R254): its words go to their registers with the pointer update, or
the load has no effect. -/
def State.loadEa (s : State) (c : CoreId) (n : Nat) (noCsr : Bool) (e : Ea) (put : CoreSt → List Word → CoreSt) : Res :=
  let k := s.coreOf c.toNat
  if eaImm e then s.plain c (fun k => put k (eaWords n e))
  else if k.eaLimit n e then .exn s { vec := 9, detail := 1 } false
  else
    match s.load c.toNat k.ring noCsr (k.ea n e).toNat n with
    | .ok s ws => s.plain c (fun k => put (k.eaUpdate n e) ws)
    | .exn s x => .exn s x false
    | .hold => .hold

/-- Storing words through an effective address (R254). -/
def State.storeEa (s : State) (c : CoreId) (noCsr : Bool) (e : Ea) (ws : List Word) : Res :=
  let k := s.coreOf c.toNat
  let n := ws.length
  if k.eaLimit n e then .exn s { vec := 9, detail := 1, wr := true } false
  else
    match s.storeAt c.toNat k.ring noCsr (k.ea n e).toNat ws with
    | .ok s => s.plain c (fun k => k.eaUpdate n e)
    | .exn s x => .exn s x false
    | .hold => .hold

/-- A register pair from two words. -/
def CoreSt.setPair (k : CoreSt) (d : Nat) (ws : List Word) : CoreSt := (k.setD d (wordAt ws 0)).setD (d + 1) (wordAt ws 1)

/-- Replacing word w of an address (R258). -/
def withWord (a : Addr) (w : Nat) (v : Word) : Addr :=
  BitVec.ofNat 48 (ofWordsLow ((wordsLow 3 a.toNat).set w v))

/-- Word w of an address. -/
def addrWord (a : Addr) (w : Nat) : Word := wordAt (wordsLow 3 a.toNat) w

/-- CMPA: C is not-borrow, Z, and N is bit 47; V stays (R246, R258). -/
def CoreSt.cmpa (k : CoreSt) (a b : Addr) : CoreSt :=
  ((k.setC (decide (b.toNat ≤ a.toNat))).setFlag 1 (a == b)).setFlag 2 (a - b).msb

end Sys2Proof.Machine
end

