-- ==== Sys2Proof/Machine/LoadStore.lean ====
section
/-!
DEFINITION. The memory and address instructions (R253 to R259): loads, stores, LEA, the address group, and the strided,
gathering and scattering vector accesses.
-/

namespace Sys2Proof.Machine

/-- LD (R254). -/
def execLd (t : Nat) (c : CoreId) (d : Reg) (ea : Ea) (s : State) : Host.Outcome State Fault Refusal :=
  .next ((s.to t).runInsn c (eaLen 1 ea) false (eaReserved ea) 3 (fun s =>
    s.loadEa c 1 false ea (fun k ws => k.setD d.toNat (wordAt ws 0))))

/-- ST (R254). -/
def execSt (t : Nat) (c : CoreId) (r : Reg) (ea : Ea) (s : State) : Host.Outcome State Fault Refusal :=
  .next ((s.to t).runInsn c (eaLen 1 ea) (eaImm ea) (eaReserved ea) 3 (fun s =>
    s.storeEa c false ea [(s.coreOf c.toNat).dr r.toNat]))

/-- LDP (R254). -/
def execLdp (t : Nat) (c : CoreId) (d : Reg) (ea : Ea) (s : State) : Host.Outcome State Fault Refusal :=
  .next ((s.to t).runInsn c (eaLen 2 ea) false (d.getLsbD 0 || eaReserved ea) 3 (fun s =>
    s.loadEa c 2 false ea (fun k ws => k.setPair d.toNat ws)))

/-- STP (R254). -/
def execStp (t : Nat) (c : CoreId) (r : Reg) (ea : Ea) (s : State) : Host.Outcome State Fault Refusal :=
  .next ((s.to t).runInsn c (eaLen 2 ea) (eaImm ea) (r.getLsbD 0 || eaReserved ea) 3 (fun s =>
    let k := s.coreOf c.toNat
    s.storeEa c false ea [k.dr r.toNat, k.dr (r.toNat + 1)]))

/-- LEA (R254). -/
def execLea (t : Nat) (c : CoreId) (a : AReg) (rsv : BitVec 1) (ea : Ea) (s : State) :
    Host.Outcome State Fault Refusal :=
  .next ((s.to t).regInsn c (eaLen 1 ea) (!eaPlain ea) (rsv != 0 || eaReserved ea) (fun k =>
    k.setA a.toNat (k.ea 1 ea)))

/-- VLD (R254, R257). -/
def execVld (t : Nat) (c : CoreId) (v : Reg) (ea : Ea) (s : State) : Host.Outcome State Fault Refusal :=
  .next ((s.to t).runInsn c (eaLen 1 ea) (eaImm ea) (eaReserved ea) 3 (fun s =>
    s.loadEa c 32 true ea (fun k ws => k.setV v.toNat (ofLanes ws))))

/-- VST (R254, R257). -/
def execVst (t : Nat) (c : CoreId) (v : Reg) (ea : Ea) (s : State) : Host.Outcome State Fault Refusal :=
  .next ((s.to t).runInsn c (eaLen 1 ea) (eaImm ea) (eaReserved ea) 3 (fun s =>
    s.storeEa c true ea (lanes ((s.coreOf c.toNat).vr v.toNat))))

/-! ### Strided, gathering and scattering accesses (R259) -/

/-- Entering an address into an ascending list, where it does not stand there yet. -/
def insertUp (a : Nat) : List Nat → List Nat
  | [] => [a]
  | b :: bs => if a < b then a :: b :: bs else if a = b then b :: bs else b :: insertUp a bs

/-- The distinct addresses of an access in ascending order (R336). -/
def ascending (as : List Nat) : List Nat := as.foldr insertUp []

/-- The lanes that a predicate names. -/
def lanesOn (p : BitVec 32) : List Nat := (List.range 32).filter (fun n => p.getLsbD n)

/-- The word addresses of VGATH and VSCAT, lane by lane (R259). -/
def CoreSt.gatherAddrs (k : CoreSt) (a vi : Nat) (ns : List Nat) : List Nat :=
  ns.map (fun n => (k.ar a + (lane (k.vr vi) n).setWidth 48).toNat)

/-- Replacing lanes of a vector. -/
def setLanes (v : BitVec 512) (ns : List Nat) (ws : List Word) : BitVec 512 :=
  ofLanes ((ns.zip ws).foldl (fun ls x => ls.set x.1 x.2) (lanes v))

/-- VLDS (R257, R259). -/
def execVlds (t : Nat) (c : CoreId) (v : Reg) (a : AReg) (dm : Reg) (rsv0 : BitVec 3) (rsv1 : BitVec 12) (s : State) :
    Host.Outcome State Fault Refusal :=
  .next ((s.to t).runInsn c 2 false (rsv0 != 0 || rsv1 != 0) 3 (fun s =>
    let k := s.coreOf c.toNat
    let as := (List.range 32).map (fun n => (k.ar a.toNat + BitVec.ofNat 48 n * sext48 (k.dr dm.toNat)).toNat)
    match s.loadPieces c.toNat k.ring true (pieces (ascending as)) as with
    | .ok s ws => s.plain c (fun k => k.setV v.toNat (ofLanes ws))
    | .exn s x => .exn s x false
    | .hold => .hold))

/-- VGATH: each lane's word is a piece of its own (R257, R259, R336). -/
def execVgath (t : Nat) (c : CoreId) (v : Reg) (a : AReg) (p : BitVec 2) (vi : Reg) (rsv0 : BitVec 3) (rsv1 : BitVec 10)
    (s : State) : Host.Outcome State Fault Refusal :=
  .next ((s.to t).runInsn c 2 false (rsv0 != 0 || rsv1 != 0) 3 (fun s =>
    let k := s.coreOf c.toNat
    let ns := lanesOn (k.pr p.toNat)
    let as := k.gatherAddrs a.toNat vi.toNat ns
    match s.loadPieces c.toNat k.ring true (as.map (fun x => [x])) as with
    | .ok s ws => s.plain c (fun k => k.setV v.toNat (setLanes (k.vr v.toNat) ns ws))
    | .exn s x => .exn s x false
    | .hold => .hold))

/-- VSCAT (R257, R259, R336). -/
def execVscat (t : Nat) (c : CoreId) (v : Reg) (a : AReg) (p : BitVec 2) (vi : Reg) (rsv0 : BitVec 3) (rsv1 : BitVec 10)
    (s : State) : Host.Outcome State Fault Refusal :=
  .next ((s.to t).runInsn c 2 false (rsv0 != 0 || rsv1 != 0) 3 (fun s =>
    let k := s.coreOf c.toNat
    let ns := lanesOn (k.pr p.toNat)
    let as := k.gatherAddrs a.toNat vi.toNat ns
    match s.storePieces c.toNat k.ring true (as.map (fun x => [x])) (as.zip (ns.map (fun n => lane (k.vr v.toNat) n))) with
    | .ok s => s.plain c id
    | .exn s x => .exn s x false
    | .hold => .hold))

/-! ### The address group (R258) -/

/-- ADDA (R258). -/
def execAdda (t : Nat) (c : CoreId) (a : AReg) (x : AddaSrc) (s : State) : Host.Outcome State Fault Refusal :=
  .next (match x with
    | .reg dm => (s.to t).regInsn c 1 false false (fun k => k.setA a.toNat (k.ar a.toNat + sext48 (k.dr dm.toNat)))
    | .imm r v => (s.to t).regInsn c 2 false (r != 0) (fun k => k.setA a.toNat (k.ar a.toNat + sext48 v)))

/-- MOVA (R258). -/
def execMova (t : Nat) (c : CoreId) (o : MovaOp) (s : State) : Host.Outcome State Fault Refusal :=
  .next (match o with
    | .aFromA an am rsv => (s.to t).regInsn c 1 false (rsv != 0) (fun k => k.setA an.toNat (k.ar am.toNat))
    | .dFromA an d w rsv =>
      (s.to t).regInsn c 2 false (w == 3 || rsv != 0) (fun k => k.setD d.toNat (addrWord (k.ar an.toNat) w.toNat))
    | .aFromD an d w rsv =>
      (s.to t).regInsn c 2 false (w == 3 || rsv != 0) (fun k =>
        k.setA an.toNat (withWord (k.ar an.toNat) w.toNat (k.dr d.toNat))))

/-- CMPA (R258). -/
def execCmpa (t : Nat) (c : CoreId) (a b : AReg) (rsv : BitVec 1) (s : State) : Host.Outcome State Fault Refusal :=
  .next ((s.to t).regInsn c 1 false (rsv != 0) (fun k => k.cmpa (k.ar a.toNat) (k.ar b.toNat)))

end Sys2Proof.Machine
end

