-- ==== Sys2Proof/Machine/Vector.lean ====
section
/-!
DEFINITION. The vector ALU instructions (R260).
-/

namespace Sys2Proof.Machine

/-- A vector instruction under its predicate: reserved fields, and its change of the core's registers. -/
def State.vecInsn (s : State) (c : CoreId) (reserved : Bool) (f : CoreSt → CoreSt) : State :=
  s.regInsn c 2 false reserved f

/-- A lane-wise operation: lane n of Vd is written where Pp[n] is 1, from Vd, Va and Vb (R260). -/
def CoreSt.lanewise (k : CoreSt) (o : VArg) (f : Word → Word → Word → Word) : CoreSt :=
  let p := k.pr o.p.toNat
  let d := k.vr o.vd.toNat
  let a := k.vr o.va.toNat
  let b := k.vr o.vb.toNat
  k.setV o.vd.toNat (ofLanes ((List.range 32).map (fun n =>
    if p.getLsbD n then f (lane d n) (lane a n) (lane b n) else lane d n)))

/-- A lane-wise operation whose exact result saturates: SAT is set where any lane's does (R260). -/
def CoreSt.lanewiseSat (k : CoreSt) (o : VArg) (f : Word → Word → Int) : CoreSt :=
  let p := k.pr o.p.toNat
  let a := k.vr o.va.toNat
  let b := k.vr o.vb.toNat
  (k.lanewise o (fun _ x y => sat16 (f x y))).stickSat
    ((List.range 32).any (fun n => p.getLsbD n && outside16 (f (lane a n) (lane b n))))

/-- The condition of VCMP (R260). -/
def vcond (cc : Nat) (a b : Word) : Bool :=
  match cc with
  | 0 => a == b
  | 1 => a != b
  | 2 => decide (a.toInt < b.toInt)
  | 3 => decide (a.toInt ≤ b.toInt)
  | 4 => decide (a.toNat < b.toNat)
  | _ => decide (a.toNat ≤ b.toNat)

/-- VCMP on a core's registers (R260). -/
def CoreSt.vcmp (k : CoreSt) (o : VArg) : CoreSt :=
  let p := k.pr o.p.toNat
  let a := k.vr o.va.toNat
  let b := k.vr o.vb.toNat
  k.setP (o.vd.toNat % 4) (BitVec.ofNat 32 ((List.range 32).foldl (fun x n =>
    x + (if p.getLsbD n && vcond (o.x.toNat % 8) (lane a n) (lane b n) then 2 ^ n else 0)) 0))

/-- VSEL on a core's registers (R260). -/
def CoreSt.vsel (k : CoreSt) (o : VArg) : CoreSt :=
  let p := k.pr o.p.toNat
  k.setV o.vd.toNat (ofLanes ((List.range 32).map (fun n =>
    if p.getLsbD n then lane (k.vr o.va.toNat) n else lane (k.vr o.vb.toNat) n)))

/-- The lanes of Va that the predicate names, as signed numbers. -/
def CoreSt.reduced (k : CoreSt) (o : VArg) : List Int :=
  (lanesOn (k.pr o.p.toNat)).map (fun n => (lane (k.vr o.va.toNat) n).toInt)

/-- VRED on a core's registers: SUM, MIN, MAX or the saturated SUMS, with Z and N (R260). -/
def CoreSt.vred (k : CoreSt) (o : VArg) : CoreSt :=
  let xs := k.reduced o
  let sum := xs.foldl (fun a x => a + x) 0
  match o.x.toNat % 4 with
  | 0 => k.putZN o.vd.toNat (BitVec.ofInt 16 sum)
  | 1 => k.putZN o.vd.toNat (BitVec.ofInt 16 (xs.foldl (fun a x => min a x) 32767))
  | 2 => k.putZN o.vd.toNat (BitVec.ofInt 16 (xs.foldl (fun a x => max a x) (-32768)))
  | _ => (k.stickSat (outside16 sum)).putZN o.vd.toNat (sat16 sum)

/-- VPERM on a core's registers (R260). -/
def CoreSt.vperm (k : CoreSt) (o : VArg) : CoreSt :=
  let a := k.vr o.va.toNat
  k.lanewise o (fun _ _ b => lane a (b.toNat % 32))

/-- VBIN on a core's registers: every named lane counts into its bin, in lane order (R260). -/
def CoreSt.vbin (k : CoreSt) (o : VArg) : CoreSt :=
  let a := k.vr o.va.toNat
  let bins := (lanesOn (k.pr o.p.toNat)).map (fun n => (lane a n).toNat / 2 ^ (o.x.toNat % 16))
  k.setV o.vd.toNat (ofLanes (bins.foldl (fun (ls : List Word) b =>
    if b ≤ 31 then ls.set b (satInc (wordAt ls b)) else ls) (lanes (k.vr o.vd.toNat))))

/-- VADD (R260). -/
def execVadd (t : Nat) (c : CoreId) (o : VArg) (s : State) : Host.Outcome State Fault Refusal :=
  .next ((s.to t).vecInsn c (o.x != 0) (fun k => k.lanewise o (fun _ a b => a + b)))

/-- VSUB (R260). -/
def execVsub (t : Nat) (c : CoreId) (o : VArg) (s : State) : Host.Outcome State Fault Refusal :=
  .next ((s.to t).vecInsn c (o.x != 0) (fun k => k.lanewise o (fun _ a b => a - b)))

/-- VADDS (R260). -/
def execVadds (t : Nat) (c : CoreId) (o : VArg) (s : State) : Host.Outcome State Fault Refusal :=
  .next ((s.to t).vecInsn c (o.x != 0) (fun k => k.lanewiseSat o (fun a b => a.toInt + b.toInt)))

/-- VMUL (R260). -/
def execVmul (t : Nat) (c : CoreId) (o : VArg) (s : State) : Host.Outcome State Fault Refusal :=
  .next ((s.to t).vecInsn c (o.x != 0) (fun k => k.lanewise o (fun _ a b => a * b)))

/-- VMULQ (R260). -/
def execVmulq (t : Nat) (c : CoreId) (o : VArg) (s : State) : Host.Outcome State Fault Refusal :=
  .next ((s.to t).vecInsn c (o.x != 0) (fun k => k.lanewiseSat o mulq))

/-- VMAC (R260). -/
def execVmac (t : Nat) (c : CoreId) (o : VArg) (s : State) : Host.Outcome State Fault Refusal :=
  .next ((s.to t).vecInsn c (o.x != 0) (fun k => k.lanewise o (fun d a b => d + a * b)))

/-- VMIN (R260). -/
def execVmin (t : Nat) (c : CoreId) (o : VArg) (s : State) : Host.Outcome State Fault Refusal :=
  .next ((s.to t).vecInsn c (o.x != 0) (fun k => k.lanewise o (fun _ a b => if a.toInt ≤ b.toInt then a else b)))

/-- VMAX (R260). -/
def execVmax (t : Nat) (c : CoreId) (o : VArg) (s : State) : Host.Outcome State Fault Refusal :=
  .next ((s.to t).vecInsn c (o.x != 0) (fun k => k.lanewise o (fun _ a b => if a.toInt ≤ b.toInt then b else a)))

/-- VAND (R260). -/
def execVand (t : Nat) (c : CoreId) (o : VArg) (s : State) : Host.Outcome State Fault Refusal :=
  .next ((s.to t).vecInsn c (o.x != 0) (fun k => k.lanewise o (fun _ a b => a &&& b)))

/-- VOR (R260). -/
def execVor (t : Nat) (c : CoreId) (o : VArg) (s : State) : Host.Outcome State Fault Refusal :=
  .next ((s.to t).vecInsn c (o.x != 0) (fun k => k.lanewise o (fun _ a b => a ||| b)))

/-- VXOR (R260). -/
def execVxor (t : Nat) (c : CoreId) (o : VArg) (s : State) : Host.Outcome State Fault Refusal :=
  .next ((s.to t).vecInsn c (o.x != 0) (fun k => k.lanewise o (fun _ a b => a ^^^ b)))

/-- VSHL (R260). -/
def execVshl (t : Nat) (c : CoreId) (o : VArg) (s : State) : Host.Outcome State Fault Refusal :=
  .next ((s.to t).vecInsn c (o.x != 0) (fun k => k.lanewise o (fun _ a b => (shlBy a b.toNat).1)))

/-- VSHR (R260). -/
def execVshr (t : Nat) (c : CoreId) (o : VArg) (s : State) : Host.Outcome State Fault Refusal :=
  .next ((s.to t).vecInsn c (o.x != 0) (fun k => k.lanewise o (fun _ a b => (shrBy a b.toNat).1)))

/-- VSAR (R260). -/
def execVsar (t : Nat) (c : CoreId) (o : VArg) (s : State) : Host.Outcome State Fault Refusal :=
  .next ((s.to t).vecInsn c (o.x != 0) (fun k => k.lanewise o (fun _ a b => (sarBy a b.toNat).1)))

/-- VCMP (R260). -/
def execVcmp (t : Nat) (c : CoreId) (o : VArg) (s : State) : Host.Outcome State Fault Refusal :=
  .next ((s.to t).vecInsn c (decide (4 ≤ o.vd.toNat) || decide (6 ≤ o.x.toNat)) (fun k => k.vcmp o))

/-- VSEL (R260). -/
def execVsel (t : Nat) (c : CoreId) (o : VArg) (s : State) : Host.Outcome State Fault Refusal :=
  .next ((s.to t).vecInsn c (o.x != 0) (fun k => k.vsel o))

/-- VRED (R260). -/
def execVred (t : Nat) (c : CoreId) (o : VArg) (s : State) : Host.Outcome State Fault Refusal :=
  .next ((s.to t).vecInsn c (o.vb != 0 || decide (4 ≤ o.x.toNat)) (fun k => k.vred o))

/-- VPERM (R260). -/
def execVperm (t : Nat) (c : CoreId) (o : VArg) (s : State) : Host.Outcome State Fault Refusal :=
  .next ((s.to t).vecInsn c (o.x != 0) (fun k => k.vperm o))

/-- VBIN (R260). -/
def execVbin (t : Nat) (c : CoreId) (o : VArg) (s : State) : Host.Outcome State Fault Refusal :=
  .next ((s.to t).vecInsn c (o.vb != 0 || decide (16 ≤ o.x.toNat)) (fun k => k.vbin o))

end Sys2Proof.Machine
end

