-- ==== Sys2Proof/Machine/QueInsn.lean ====
section
/-!
DEFINITION. The queue instructions (R261, R281 to R284, R293).
-/

namespace Sys2Proof.Machine

/-- QUE_PORT of a core's port, as it is in force (R281). -/
def State.quePort (s : State) (c p : Nat) : Nat :=
  (s.live (coreDie c) 0x30 (0x1000 + 0x800 * coreIdx c + 0x40 * engSlot (coreEng c) + p)).toNat

/-- The queue that a port binds: die and index. -/
def portQueue (v : Nat) : Nat × Nat := (bits v 11 9, bits v 8 0)

/-- QUEUE with a cause, recorded in QUE_SYN of the core (R293, R297). -/
def State.queueExn (s : State) (c p cause : Nat) : Res :=
  .exn (s.setReg (coreDie c) 0x30 (0x2000 + 0x20 * coreIdx c + engSlot (coreEng c))
    (BitVec.ofNat 16 (p + 64 * cause + 0x8000))) { vec := 12 } false

/-- A push of flits on a port: its causes, the hold for credit, and the push (R283, R284, R293). -/
def State.portPush (s : State) (c p : Nat) (fs : List (List Word)) : Res :=
  let v := s.quePort c p
  let q := portQueue v
  let a : Agent := .core c
  if !bit v 14 then s.queueExn c p 1
  else if !bit v 13 then s.queueExn c p 2
  else if s.consFenced q.1 q.2 then s.queueExn c p 5
  else if s.credit q.1 q.2 a < fs.length then (if bit v 12 then s.queueExn c p 3 else .hold)
  else .ok (s.push q.1 q.2 a fs true false s.now) 0

/-- A flit moved into D0 to D7 (R261). -/
def CoreSt.putFlit (k : CoreSt) (ws : List Word) : CoreSt :=
  (List.range 8).foldl (fun k i => k.setD i (wordAt ws i)) k

/-- A pop or a peek of a port (R284, R285, R293). -/
def State.portTake (s : State) (c p : Nat) (pop : Bool) : Res :=
  let v := s.quePort c p
  let q := portQueue v
  if !bit v 14 then s.queueExn c p 1
  else if bit v 13 then s.queueExn c p 2
  else
    match s.head q.1 q.2 with
    | none => if bit v 12 then s.queueExn c p 4 else .hold
    | some f =>
      if f.poison then s.queueExn c p 6
      else
        let s := if pop then s.popHead q.1 q.2 else s
        .ok (s.modCore c (fun k => k.putFlit f.words)) 0

/-- QCRED of a port: the credits held, 0 where the consumer is fenced, or the flits pop-visible (R261, R283, R293). -/
def State.portCredit (s : State) (c p d : Nat) : Res :=
  let v := s.quePort c p
  let q := portQueue v
  if !bit v 14 then s.queueExn c p 1
  else
    let n :=
      if s.consFenced q.1 q.2 then 0
      else if bit v 13 then s.credit q.1 q.2 (.core c)
      else ((s.queueOf q.1 q.2).visible s.now).length
    .ok (s.modCore c (fun k => k.putZN d (BitVec.ofNat 16 n))) 0

/-- QPUSH (R261). -/
def execQpush (t : Nat) (c : CoreId) (p : BitVec 6) (rsv : BitVec 4) (s : State) : Host.Outcome State Fault Refusal :=
  .next ((s.to t).runInsn c 1 false (rsv != 0) 3 (fun s =>
    s.portPush c.toNat p.toNat [(List.range 8).map (fun i => (s.coreOf c.toNat).dr i)]))

/-- QPUSHV (R261): N flits from lanes 0 to 8N − 1, all or none. -/
def execQpushv (t : Nat) (c : CoreId) (p : BitVec 6) (v : Reg) (nm1 : BitVec 2) (rsv : BitVec 14) (s : State) :
    Host.Outcome State Fault Refusal :=
  .next ((s.to t).runInsn c 2 false (rsv != 0) 3 (fun s =>
    s.portPush c.toNat p.toNat (toFlits (nm1.toNat + 1) (lanes ((s.coreOf c.toNat).vr v.toNat)))))

/-- QPOP (R261). -/
def execQpop (t : Nat) (c : CoreId) (p : BitVec 6) (rsv : BitVec 4) (s : State) : Host.Outcome State Fault Refusal :=
  .next ((s.to t).runInsn c 1 false (rsv != 0) 3 (fun s => s.portTake c.toNat p.toNat true))

/-- QPEEK (R261). -/
def execQpeek (t : Nat) (c : CoreId) (p : BitVec 6) (rsv : BitVec 4) (s : State) : Host.Outcome State Fault Refusal :=
  .next ((s.to t).runInsn c 1 false (rsv != 0) 3 (fun s => s.portTake c.toNat p.toNat false))

/-- QCRED (R261). -/
def execQcred (t : Nat) (c : CoreId) (p : BitVec 6) (d : Reg) (s : State) : Host.Outcome State Fault Refusal :=
  .next ((s.to t).runInsn c 1 false false 3 (fun s => s.portCredit c.toNat p.toNat d.toNat))

end Sys2Proof.Machine
end

