-- ==== Sys2Proof/Machine/Branch.lean ====
section
/-!
DEFINITION. Control transfer (R262 to R264): branches, jumps and loops, CALLM and RETM, and TRAP with its gates (R226,
R227).
-/

namespace Sys2Proof.Machine

/-- Going to an address. -/
def CoreSt.goto (k : CoreSt) (a : Addr) : CoreSt := { k with pc := a }

/-- BR (R262). -/
def execBr (t : Nat) (c : CoreId) (disp : BitVec 10) (s : State) : Host.Outcome State Fault Refusal :=
  .next ((s.to t).regInsn c 1 false false (fun k => k.goto (k.pc + disp.signExtend 48)))

/-- Bcc (R262). -/
def execBcc (t : Nat) (c : CoreId) (cond : BitVec 4) (disp : Word) (rsv : BitVec 6) (s : State) :
    Host.Outcome State Fault Refusal :=
  .next ((s.to t).regInsn c 2 false (cond == 8 || rsv != 0) (fun k =>
    if k.cond cond.toNat then k.goto (k.pc + sext48 disp) else k))

/-- JMP (R262). -/
def execJmp (t : Nat) (c : CoreId) (ea : Ea) (rsv : BitVec 4) (s : State) : Host.Outcome State Fault Refusal :=
  .next ((s.to t).regInsn c (eaLen 1 ea) (!eaPlain ea) (rsv != 0 || eaReserved ea) (fun k => k.goto (k.ea 1 ea)))

/-- LOOP (R262). -/
def execLoop (t : Nat) (c : CoreId) (d : Reg) (disp : BitVec 6) (s : State) : Host.Outcome State Fault Refusal :=
  .next ((s.to t).regInsn c 1 false false (fun k =>
    let v := k.dr d.toNat - 1
    let k := k.setD d.toNat v
    if v = 0 then k else k.goto (k.pc + disp.signExtend 48)))

/-! ### CALLM and RETM (R263) -/

/-- The registers that a mask names, in ascending number. -/
def maskRegs (m : Word) : List Nat := (List.range 16).filter (fun n => m.getLsbD n)

/-- The target of CALLM (R263). -/
def CoreSt.callTarget (k : CoreSt) : CallTgt → Addr
  | .disp d _ => k.pc + d.signExtend 48
  | .reg an _ => k.ar an.toNat

/-- CALLM (R263): the frame is pushed whole or not at all. -/
def execCallm (t : Nat) (c : CoreId) (mask : Word) (tgt : CallTgt) (s : State) : Host.Outcome State Fault Refusal :=
  let n := match tgt with | .disp _ _ => 4 | .reg _ _ => 2
  let bad := match tgt with | .disp _ r => r != 0 | .reg _ r => r != 0
  .next ((s.to t).runInsn c n false bad 3 (fun s =>
    let k := s.coreOf c.toNat
    match s.pushWords c.toNat k.bankNo k.ring 2 (addrWords k.pc.toNat ++ (maskRegs mask).map k.dr) with
    | .ok s => s.plain c (fun k' => k'.goto (k.callTarget tgt))
    | .exn s x => .exn s x false
    | .hold => .hold))

/-- RETM (R263). -/
def execRetm (t : Nat) (c : CoreId) (mask : Word) (rsv : BitVec 10) (s : State) : Host.Outcome State Fault Refusal :=
  .next ((s.to t).runInsn c 2 false (rsv != 0) 3 (fun s =>
    let k := s.coreOf c.toNat
    let rs := maskRegs mask
    let n := 3 + rs.length
    match s.load c.toNat k.ring false (k.ar 7).toNat n with
    | .ok s ws =>
      s.plain c (fun k =>
        let k := (rs.zip (ws.drop 3)).foldl (fun k x => k.setD x.1 x.2) k
        (k.setA 7 (k.ar 7 + BitVec.ofNat 48 n)).goto (BitVec.ofNat 48 (wordsAddr ws)))
    | .exn s x => .exn s x false
    | .hold => .hold))

/-! ### TRAP (R226, R227, R264) -/

/-- A gate that has been read: the first check of R227 that fails, or the target with its ring and GMS. -/
def gateCheck (ring : Nat) (ws : List Word) : Except Nat (Nat × Nat × Bool) :=
  let w := (wordAt ws 3).toNat
  if !bit w 4 || decide (64 ≤ w) then .error 2
  else if bits w 3 2 < ring then .error 3
  else if ring < bits w 1 0 then .error 4
  else .ok (wordsAddr ws, bits w 1 0, bit w 5)

/-- A core that goes through a gate: the target ring, with GM set where GMS is 1 and that ring is 0 or 1, and the target
address (R227). -/
def CoreSt.throughGate (k : CoreSt) (a ring : Nat) (gms : Bool) : CoreSt :=
  { k with
    sw := if gms && decide (ring ≤ 1) then setBit (withRing k.sw ring) 8 true else withRing k.sw ring
    pc := BitVec.ofNat 48 a }

/-- What follows writes that succeed. -/
def Wr.andThen (r : Wr) (f : State → Res) : Res :=
  match r with
  | .ok s => f s
  | .exn s x => .exn s x false
  | .hold => .hold

/-- TRAP through a gate: the frame on the target ring's stack, then the target (R227). -/
def State.gateEnter (s : State) (c a ring : Nat) (gms : Bool) : Res :=
  (s.pushWords c ring ring 3 ((s.coreOf c).saved false :: addrWords (s.coreOf c).pc.toNat)).andThen (fun s =>
    .ok (s.modCore c (fun k => k.throughGate a ring gms)) 0)

/-- TRAP on a core (R227, R230). -/
def State.trap (s : State) (c n : Nat) : Res :=
  let k := s.coreOf c
  if k.df then .exn s { vec := 5 } false
  else if k.gtn.toNat ≤ n then .exn s { vec := 5, detail := 1 } false
  else
    match s.readTable c (k.gtb.toNat + 4 * n) with
    | (s, .error e) => .exn s { vec := 10, detail := e.1, eaddr := e.2 } false
    | (s, .ok ws) =>
      match gateCheck k.ring ws with
      | .error d => .exn s { vec := 5, detail := d } false
      | .ok g => s.gateEnter c g.1 g.2.1 g.2.2

/-- TRAP (R227, R264). -/
def execTrap (t : Nat) (c : CoreId) (n : BitVec 8) (rsv : BitVec 2) (s : State) : Host.Outcome State Fault Refusal :=
  .next ((s.to t).runInsn c 1 false (rsv != 0) 3 (fun s => s.trap c.toNat n.toNat))

end Sys2Proof.Machine
end

