-- ==== Sys2Proof/Machine/SysInsn.lean ====
section
/-!
DEFINITION. The system instructions (R211, R265, R266): MFS and MTS with every system register, the fences, WAIT, the
global mask, MPUSW, the returns (R222 to R228), DFCLR (R231), SPLIT and JOIN (R368).
-/

namespace Sys2Proof.Machine

/-! ### System registers (R211) -/

/-- What the table of R211 gives a number: its words, the least-privileged ring that may read it, and the one that may
write it. -/
structure SysReg where
  words : Nat
  read : Option Nat
  write : Option Nat
deriving DecidableEq, Repr

/-- The registers of a bank by their place k (R211). -/
def bankReg (k : Nat) : Option SysReg :=
  if k < 8 then some ⟨1, some 0, some 0⟩
  else if k ≤ 12 then some ⟨3, some 0, some 0⟩
  else if k = 13 then some ⟨1, some 0, some 0⟩
  else none

/-- The table of R211. -/
def sysReg (n : Nat) : Option SysReg :=
  match n with
  | 0x00 => some ⟨1, some 3, some 3⟩
  | 0x01 => some ⟨3, some 3, some 3⟩
  | 0x02 => some ⟨1, some 3, some 3⟩
  | 0x03 => some ⟨1, some 3, none⟩
  | 0x04 => some ⟨3, some 3, none⟩
  | 0x05 => some ⟨1, some 3, none⟩
  | 0x08 => some ⟨3, some 3, some 0⟩
  | 0x09 => some ⟨3, some 3, some 0⟩
  | 0x0A => some ⟨1, some 3, some 0⟩
  | 0x10 => some ⟨2, some 1, some 1⟩
  | 0x11 => some ⟨2, some 1, some 1⟩
  | 0x12 => some ⟨4, some 3, none⟩
  | 0x13 => some ⟨4, some 1, some 1⟩
  | 0x14 => some ⟨4, some 1, some 1⟩
  | 0x15 => some ⟨1, some 0, none⟩
  | 0x16 => some ⟨3, none, some 1⟩
  | 0x17 => some ⟨1, some 3, none⟩
  | _ =>
    if decide (0x0C ≤ n) && decide (n ≤ 0x0F) then some ⟨3, some 0, some 0⟩
    else if decide (0x40 ≤ n) && decide (n < 0x80) then
      (if n % 16 = 14 then some ⟨1, some 0, none⟩ else bankReg (n % 16))
    else if decide (0x80 ≤ n) && decide (n < 0x8E) then bankReg (n - 0x80)
    else none

/-- Place k of a bank (R211). -/
def CoreSt.bankRead (x : CoreSt) (bank k : Nat) : Nat :=
  if k < 8 then (x.dIn bank (8 + k)).toNat
  else if k < 12 then (x.aIn bank (k - 4)).toNat
  else if k = 12 then (x.bankAt bank).epc.toNat
  else if k = 13 then (x.bankAt bank).esw.toNat
  else (x.bankAt bank).enest.toNat

/-- ENGID of a core (R211). -/
def State.engId (s : State) (c : Nat) : Nat :=
  coreEng c + 128 * b2n (s.splitShown (coreEng c)) + 256 * coreIdx c

/-- The value of a system register (R211). -/
def State.sysRead (s : State) (c n : Nat) : Nat :=
  let k := s.coreOf c
  let b := k.bankAt k.bankNo
  match n with
  | 0x00 => k.sw.toNat
  | 0x01 => b.epc.toNat
  | 0x02 => b.esw.toNat
  | 0x03 => b.ecause.toNat
  | 0x04 => b.eaddr.toNat
  | 0x05 => (k.bankAt k.ring).enest.toNat
  | 0x08 => k.vbr.toNat
  | 0x09 => k.gtb.toNat
  | 0x0A => k.gtn.toNat
  | 0x10 => k.ien.toNat
  | 0x11 => (s.ipendAll c).toNat
  | 0x12 => s.cyc c % 2 ^ 64
  | 0x13 => k.tcmp.toNat
  | 0x14 => k.snAddr.toNat + 2 ^ 48 * (k.snCount.toNat + 0x8000 * b2n k.snMulti)
  | 0x15 => k.dfCause.toNat
  | 0x17 => s.engId c
  | _ =>
    if decide (0x0C ≤ n) && decide (n ≤ 0x0F) then (k.slimOf (n - 0x0C)).toNat
    else if decide (0x40 ≤ n) && decide (n < 0x80) then k.bankRead ((n - 0x40) / 16) (n % 16)
    else if decide (0x80 ≤ n) && decide (n < 0x8E) then k.bankRead 4 (n - 0x80)
    else 0

/-- The bits of a mask from a new word, the others from the old one. -/
def mixBits (m old new : Word) : Word := (old &&& ~~~m) ||| (new &&& m)

/-- A write to SW from a ring (R210); GM does not change in the double-fault state (R229). -/
def CoreSt.writeSw (k : CoreSt) (v : Word) : CoreSt :=
  { k with sw := mixBits (if decide (k.ring ≤ 1) && !k.df then 0x01FF else 0x00FF) k.sw v }

/-- A write to an ESW from a ring (R210). -/
def eswWrite (ring : Nat) (old v : Word) : Word :=
  let m : Word := 0x1AFF ||| (if ring ≤ 1 then 0x0100 else 0) ||| (if ring = 0 then 0x0400 else 0) |||
    (if ring ≤ swOrigin v then 0xC000 else 0)
  mixBits m old v

/-- Writing place k of a bank from ring 0 (R211). -/
def CoreSt.bankWrite (x : CoreSt) (bank k v : Nat) : CoreSt :=
  if k < 8 then x.setDIn bank (8 + k) (BitVec.ofNat 16 v)
  else if k < 12 then x.setAIn bank (k - 4) (BitVec.ofNat 48 v)
  else if k = 12 then x.modBank bank (fun b => { b with epc := BitVec.ofNat 48 v })
  else if k = 13 then x.modBank bank (fun b => { b with esw := eswWrite x.ring b.esw (BitVec.ofNat 16 v) })
  else x

/-- VBR and GTB hold a multiple of 256 in the scratchpad range (R211). -/
def tableBaseOk (v : Nat) : Bool := decide (v < spadLen) && v % 256 == 0

/-- A write of a value that a system register cannot hold is dropped (R211). -/
def sysRefused (n v : Nat) : Bool :=
  match n with
  | 0x08 => !tableBaseOk v
  | 0x09 => !tableBaseOk v
  | 0x0A => decide (256 < v)
  | _ => false

/-- CACHEOP: an address's lines, or every line, of both caches are invalid (R211). -/
def CoreSt.cacheOp (k : CoreSt) (v : Nat) : CoreSt :=
  if v = 2 ^ 48 - 1 then { k with icache := [], dcache := [] }
  else { k with icache := cacheDrop k.icache (v / 32), dcache := cacheDrop k.dcache (v / 32) }

/-- The SOFT lines of a core (R232, R238). -/
def State.softLines (s : State) (c : Nat) : BitVec 32 :=
  BitVec.ofNat 32 ((List.range 32).foldl (fun a i => a + (if bits (s.intSel c i) 1 0 = 3 then 2 ^ i else 0)) 0)

/-- Writing a system register whole (R210, R211, R232, R205). -/
def State.sysPut (s : State) (c n v : Nat) : State :=
  let soft := s.softLines c
  s.modCore c (fun k =>
    match n with
    | 0x00 => k.writeSw (BitVec.ofNat 16 v)
    | 0x01 => k.modBank k.bankNo (fun b => { b with epc := BitVec.ofNat 48 v })
    | 0x02 => k.modBank k.bankNo (fun b => { b with esw := eswWrite k.ring b.esw (BitVec.ofNat 16 v) })
    | 0x08 => { k with vbr := BitVec.ofNat 48 v }
    | 0x09 => { k with gtb := BitVec.ofNat 48 v }
    | 0x0A => { k with gtn := BitVec.ofNat 16 v }
    | 0x10 => { k with ien := BitVec.ofNat 32 v }
    | 0x11 => { k with soft := k.soft &&& ~~~(BitVec.ofNat 32 v &&& soft) }
    | 0x13 => { k with tcmp := BitVec.ofNat 64 v }
    | 0x14 => { k with snAddr := 0, snCount := 0, snMulti := false }
    | 0x16 => k.cacheOp v
    | _ =>
      if decide (0x0C ≤ n) && decide (n ≤ 0x0F) then
        { k with slim := k.slim.set (dflt 0) (n - 0x0C) (BitVec.ofNat 48 v) }
      else if decide (0x40 ≤ n) && decide (n < 0x80) then k.bankWrite ((n - 0x40) / 16) (n % 16) v
      else if decide (0x80 ≤ n) && decide (n < 0x8E) then k.bankWrite 4 (n - 0x80) v
      else k)

/-- A whole write: dropped with ENG_STATUS.RSVD and SYSREG_RSVD where the register cannot hold the value (R211). -/
def State.sysWrite (s : State) (c n v : Nat) : State :=
  if sysRefused n v then (s.orReg (coreDie c) (coreBlk c) (coreOff c) 0x8000).raise (coreDie c) (coreBlk c) 3
  else s.sysPut c n v

/-- The value that the lower words of a register keep where they have not been written: what the register holds, but 0
for IPEND and CACHEOP, whose writes are no values of theirs. -/
def State.sysBase (s : State) (c n : Nat) : Nat := if n = 0x11 || n = 0x16 then 0 else s.sysRead c n

/-- A write of word w of a system register of some words: a lower word is held, the highest writes the register (R10,
R211). -/
def State.sysWriteWord (s : State) (c n w words : Nat) (v : Word) : State :=
  if w + 1 < words then
    s.modCore c (fun k => { k with sysHeld := k.sysHeld.set (dflt none) (4 * n + w) (some v) })
  else
    let base := wordsLow words (s.sysBase c n)
    let ws := (List.range w).map (fun i => ((s.coreOf c).sysHeld.get (dflt none) (4 * n + i)).getD (wordAt base i))
    let s := s.modCore c (fun k =>
      { k with sysHeld := (List.range w).foldl (fun m i => m.set (dflt none) (4 * n + i) none) k.sysHeld })
    s.sysWrite c n (ofWordsLow (ws ++ [v]))

/-- The fields of MFS and MTS that raise RESERVED_FIELD (R211, R265). -/
def sysReserved (o : SysArg) : Bool :=
  o.rsv0 != 0 || o.rsv1 != 0 ||
  match sysReg o.num.toNat with
  | none => true
  | some r =>
    if o.a = 1 then o.w != 0 || r.words != 3 || o.reg.getLsbD 3 else decide (r.words ≤ o.w.toNat)

/-- A ring may not make an access that the table allows a ring, or no ring at all (R211). -/
def ringRefused (ring : Nat) : Option Nat → Bool
  | some r => decide (r < ring)
  | none => true

/-- MFS (R265). -/
def execMfs (t : Nat) (c : CoreId) (o : SysArg) (s : State) : Host.Outcome State Fault Refusal :=
  .next ((s.to t).runInsn c 2 false (sysReserved o) 3 (fun s =>
    let r := (sysReg o.num.toNat).getD ⟨1, none, none⟩
    if ringRefused (s.coreOf c.toNat).ring r.read then .exn s { vec := 4, detail := 2 } false
    else
      let v := s.sysRead c.toNat o.num.toNat
      s.plain c (fun k =>
        if o.a = 1 then k.setA (o.reg.toNat % 8) (BitVec.ofNat 48 v)
        else k.setD o.reg.toNat (wordAt (wordsLow r.words v) o.w.toNat))))

/-- MTS (R265). -/
def execMts (t : Nat) (c : CoreId) (o : SysArg) (s : State) : Host.Outcome State Fault Refusal :=
  .next ((s.to t).runInsn c 2 false (sysReserved o) 3 (fun s =>
    let r := (sysReg o.num.toNat).getD ⟨1, none, none⟩
    let k := s.coreOf c.toNat
    if ringRefused k.ring r.write then .exn s { vec := 4, detail := 2 } false
    else if o.a = 1 then .ok (s.sysWrite c.toNat o.num.toNat (k.ar (o.reg.toNat % 8)).toNat) 0
    else .ok (s.sysWriteWord c.toNat o.num.toNat o.w.toNat r.words (k.dr o.reg.toNat)) 0))

/-! ### The system group (R266) -/

/-- An instruction of the system group. -/
def State.sysInsn (s : State) (c : CoreId) (rsv : BitVec 4) (ring : Nat) (body : State → Res) : State :=
  s.runInsn c 1 false (rsv != 0) ring body

/-- An instruction that waits as FENCE does: it holds until the write buffer is empty (R204, R266). -/
def State.fenced (s : State) (c : CoreId) (body : State → Res) : Res :=
  if (s.coreOf c.toNat).wb.isEmpty then body s else .hold

/-- NOP (R266). -/
def execNop (t : Nat) (c : CoreId) (rsv : BitVec 4) (s : State) : Host.Outcome State Fault Refusal :=
  .next ((s.to t).sysInsn c rsv 3 (fun s => .ok s 0))

/-- FENCE (R204, R266). -/
def execFence (t : Nat) (c : CoreId) (rsv : BitVec 4) (s : State) : Host.Outcome State Fault Refusal :=
  .next ((s.to t).sysInsn c rsv 3 (fun s => s.fenced c (fun s => .ok s 0)))

/-- SYNC (R266): as FENCE; the next fetch is made afresh, as every fetch of the model is. -/
def execSync (t : Nat) (c : CoreId) (rsv : BitVec 4) (s : State) : Host.Outcome State Fault Refusal :=
  .next ((s.to t).sysInsn c rsv 3 (fun s => s.fenced c (fun s => .ok s 0)))

/-- CHK (R266, R355, R358): in a locked engine the signature window closes and a checkpoint is taken, which stands once
its copy is complete; a split core records nothing. -/
def execChk (t : Nat) (c : CoreId) (rsv : BitVec 4) (s : State) : Host.Outcome State Fault Refusal :=
  .next ((s.to t).sysInsn c rsv 1 (fun s => s.fenced c (fun s =>
    let e := coreEng c.toNat
    if s.isSplit e then .ok s 0
    else .ok ((s.modEng e (fun x => { x with windowAt := s.now })).chkCkpt e) 0)))

/-- WAIT (R234). -/
def execWait (t : Nat) (c : CoreId) (rsv : BitVec 4) (s : State) : Host.Outcome State Fault Refusal :=
  .next ((s.to t).sysInsn c rsv 2 (fun s => s.plain c (fun k => { k with runst := .wait })))

/-- GMSET (R266). -/
def execGmset (t : Nat) (c : CoreId) (rsv : BitVec 4) (s : State) : Host.Outcome State Fault Refusal :=
  .next ((s.to t).sysInsn c rsv 1 (fun s => s.plain c (fun k => k.setFlag 8 true)))

/-- GMCLR: no effect in the double-fault state (R229, R266). -/
def execGmclr (t : Nat) (c : CoreId) (rsv : BitVec 4) (s : State) : Host.Outcome State Fault Refusal :=
  .next ((s.to t).sysInsn c rsv 1 (fun s => s.plain c (fun k => if k.df then k else k.setFlag 8 false)))

/-- MPUSW (R266, R340). -/
def execMpusw (t : Nat) (c : CoreId) (rsv : BitVec 4) (s : State) : Host.Outcome State Fault Refusal :=
  .next ((s.to t).sysInsn c rsv 0 (fun s => s.fenced c (fun s => s.plain c (fun k => k.setFlag 10 (!k.flag 10)))))

/-! ### Returns (R222 to R228) -/

/-- SW as a return restores it from a status copy: RING and RSM, and what the executing ring may write; MPUS comes
back in a RETE of ring 0 alone (R223, R225, R340). -/
def CoreSt.restored (k : CoreSt) (w : Word) (rete : Bool) : Word :=
  mixBits (0x1AFF ||| (if k.ring ≤ 1 then 0x0100 else 0) ||| (if rete && k.ring = 0 then 0x0400 else 0)) k.sw w &&&
    0x1FFF

/-- The frame at A7 of the ring that executes is read (R222, R228). -/
def State.popFrame (s : State) (c : Nat) : Rd :=
  let k := s.coreOf c
  s.load c k.ring false (k.ar 7).toNat 4

/-- RETE's last step on a bank whose frames are nested: the frame read becomes the bank's EPC and ESW (R222, R224). -/
def CoreSt.takeFrame (k : CoreSt) (ring : Nat) (ws : List Word) : CoreSt :=
  (k.modBank ring (fun b =>
    { b with
      epc := BitVec.ofNat 48 (wordsAddr (ws.drop 1))
      esw := confine (wordAt ws 0) ring
      enest := b.enest - 1 })).setAIn ring 7 (k.aIn ring 7 + 4)

/-- RETE on a core (R222, R223, R230). -/
def State.rete (s : State) (c : Nat) : Res :=
  let k := s.coreOf c
  let r := k.ring
  let b := k.bankAt r
  if k.df then .exn s { vec := 5 } false
  else if !swOrg b.esw then .exn s { vec := 5, detail := 5 } false
  else if swRing b.esw < swOrigin b.esw then .exn s { vec := 5, detail := 6 } false
  else
    let back : CoreSt → CoreSt := fun k => { k with pc := b.epc, sw := k.restored b.esw true }
    if b.enest = 0 then
      .ok (s.modCore c (fun k => back (k.modBank r (fun b => { b with esw := setBit b.esw 13 false })))) 0
    else
      match s.popFrame c with
      | .ok s ws => .ok (s.modCore c (fun k => back (k.takeFrame r ws))) 0
      | .exn s x => .exn s x false
      | .hold => .hold

/-- RETG on a core (R223, R224, R228, R230). -/
def State.retg (s : State) (c : Nat) : Res :=
  let k := s.coreOf c
  if k.df then .exn s { vec := 5 } false
  else
    match s.popFrame c with
    | .ok s ws =>
      let w := confine (wordAt ws 0) k.ring
      if !swOrg w then .exn s { vec := 5, detail := 5 } false
      else if swRing w < swOrigin w then .exn s { vec := 5, detail := 6 } false
      else
        .ok (s.modCore c (fun k =>
          { (k.setA 7 (k.ar 7 + 4)) with pc := BitVec.ofNat 48 (wordsAddr (ws.drop 1)), sw := k.restored w false })) 0
    | .exn s x => .exn s x false
    | .hold => .hold

/-- RETE (R222). -/
def execRete (t : Nat) (c : CoreId) (rsv : BitVec 4) (s : State) : Host.Outcome State Fault Refusal :=
  .next ((s.to t).sysInsn c rsv 3 (fun s => s.rete c.toNat))

/-- RETG (R228). -/
def execRetg (t : Nat) (c : CoreId) (rsv : BitVec 4) (s : State) : Host.Outcome State Fault Refusal :=
  .next ((s.to t).sysInsn c rsv 3 (fun s => s.retg c.toNat))

/-- The end of the double-fault state: ring 0's EPC and ESW take the double-fault bank's (R231). -/
def State.dfClear (s : State) (c : Nat) : State :=
  let k := s.coreOf c
  let s := if swOrg (k.bankAt 0).esw then s.orReg (coreDie c) (coreBlk c) (coreOff c) 0x10 else s
  s.modCore c (fun k =>
    { (k.modBank 0 (fun b => { b with epc := (k.bankAt 4).epc, esw := (k.bankAt 4).esw })) with df := false })

/-- DFCLR (R214, R231): outside the double-fault state PRIVILEGE, DETAIL 3 (R221). -/
def execDfclr (t : Nat) (c : CoreId) (rsv : BitVec 4) (s : State) : Host.Outcome State Fault Refusal :=
  .next ((s.to t).sysInsn c rsv 0 (fun s =>
    if (s.coreOf c.toNat).df then .ok (s.dfClear c.toNat) 0 else .exn s { vec := 4, detail := 3 } false))

/-! ### SPLIT and JOIN (R368 to R370) -/

/-- What SPLIT writes to D0 (R368). -/
def State.splitResult (s : State) (c : Nat) : Word :=
  let e := coreEng c
  if s.isSplit e then 3 else if !s.canSwitch e then 4 else if (s.coreOf c).df then 3 else 0

/-- What JOIN writes to D0 (R368). -/
def State.joinResult (s : State) (c : Nat) : Word :=
  let e := coreEng c
  if !s.isSplit e || coreIdx c == 1 then 3
  else if !s.canSwitch e then 4
  else if (s.coreOf c).df || (s.coreOf (2 * e + 1)).runst == .halted then 3
  else 0

/-- SPLIT (R266, R368, R369). -/
def execSplit (t : Nat) (c : CoreId) (rsv : BitVec 4) (s : State) : Host.Outcome State Fault Refusal :=
  .next ((s.to t).sysInsn c rsv 0 (fun s => s.fenced c (fun s =>
    let r := s.splitResult c.toNat
    let k := s.coreOf c.toNat
    let s := s.modCore c.toNat (fun k => k.setD 0 r)
    .ok (if r = 0 then s.splitNow (coreEng c.toNat) { k with pc := k.issuedAt } else s) 0)))

/-- JOIN (R266, R368, R370). -/
def execJoin (t : Nat) (c : CoreId) (rsv : BitVec 4) (s : State) : Host.Outcome State Fault Refusal :=
  .next ((s.to t).sysInsn c rsv 0 (fun s => s.fenced c (fun s =>
    let r := s.joinResult c.toNat
    let s := s.modCore c.toNat (fun k => k.setD 0 r)
    .ok (if r = 0 then s.joinNow (coreEng c.toNat) else s) 0)))

end Sys2Proof.Machine
end

