-- ==== Sys2Proof/Machine/Block.lean ====
section
/-!
DEFINITION. The block instructions (R237, R267 to R269): their elements, their stops and their completion.
-/

namespace Sys2Proof.Machine

/-- What a block instruction is in (R237): some elements are done and it goes on, an element faults, or an element
holds issue. -/
inductive Blk where
  | ok (s : State)
  | exn (s : State) (x : Exn)
  | hold
deriving DecidableEq, Repr

/-- What stops an element, which is one access: the protection unit over its source pieces and then its destination
pieces, then the decoders in the same order (R336, R338). -/
def State.elementExn (s : State) (c ring : Nat) (src dst : List Nat) : Option Exn :=
  let u := s.coreUnit c ring
  let later := !src.isEmpty
  match s.mpuCheck u .read false (pieces src) with
  | some r => some ⟨7, r.detail, r.addr, r.part, false⟩
  | none =>
    match s.mpuCheck u .write later (pieces dst) with
    | some r => some ⟨7, r.detail, r.addr, r.part, true⟩
    | none =>
      match refusedPiece (fun a => s.coreRefuses c false true a 0) false (pieces src) with
      | some r => some ⟨10, r.detail, r.addr, r.part, false⟩
      | none =>
        match refusedPiece (fun a => s.coreRefuses c true true a 0) later (pieces dst) with
        | some r => some ⟨10, r.detail, r.addr, r.part, true⟩
        | none => none

/-- Words of the next element: what is left of the aligned 8-word block of its pointer, at most the count (R267). -/
def elementLen (dc : Word) (ptr : Addr) : Nat := min dc.toNat (8 - ptr.toNat % 8)

/-- Reading the source of an element. -/
def State.elementRead (s : State) (c : Nat) (as : List Nat) : Rd :=
  s.loadPieces c (s.coreOf c).ring true (pieces as) as

/-- Writing the destination of an element, with its registers. -/
def State.elementWrite (s : State) (c : Nat) (a : Nat) (ws : List Word) (f : CoreSt → CoreSt) : Blk :=
  match s.storeAt c (s.coreOf c).ring true a ws with
  | .ok s => .ok (s.modCore c f)
  | .exn s x => .exn s x
  | .hold => .hold

/-- One element of BMOV (R267). -/
def State.bmovElement (s : State) (c : Nat) (o : BlockArg) : Blk :=
  let k := s.coreOf c
  let d := k.ar o.ad.toNat
  let a := k.ar o.as_.toNat
  let m := elementLen (k.dr o.dc.toNat) d
  let src := wordsFrom a.toNat m
  match s.elementExn c k.ring src (wordsFrom d.toNat m) with
  | some x => .exn s x
  | none =>
    match s.elementRead c src with
    | .exn s x => .exn s x
    | .hold => .hold
    | .ok s ws =>
      s.elementWrite c d.toNat ws (fun k =>
        ((k.setA o.as_.toNat (a + BitVec.ofNat 48 m)).setA o.ad.toNat (d + BitVec.ofNat 48 m)).setD o.dc.toNat
          (k.dr o.dc.toNat - BitVec.ofNat 16 m))

/-- One element of BFILL: where Dx is Dc itself, each word takes the count as it then stands (R267). -/
def State.bfillElement (s : State) (c : Nat) (o : BlockArg) : Blk :=
  let k := s.coreOf c
  let d := k.ar o.ad.toNat
  let m := elementLen (k.dr o.dc.toNat) d
  let x := k.dr o.dx.toNat
  let ws := (List.range m).map (fun i => if o.dx = o.dc then x - BitVec.ofNat 16 i else x)
  match s.elementExn c k.ring [] (wordsFrom d.toNat m) with
  | some x => .exn s x
  | none =>
    s.elementWrite c d.toNat ws (fun k =>
      (k.setA o.ad.toNat (d + BitVec.ofNat 48 m)).setD o.dc.toNat (k.dr o.dc.toNat - BitVec.ofNat 16 m))

/-- The running value of BCRC: Dx and Dx + 1, or Dx alone for a CRC of 16 bits (R268). -/
def CoreSt.running (k : CoreSt) (o : BlockArg) : BitVec 32 :=
  if o.poly = 1 then (k.dr o.dx.toNat).setWidth 32 else k.dr (o.dx.toNat + 1) ++ k.dr o.dx.toNat

/-- Writing the running value of BCRC. -/
def CoreSt.setRunning (k : CoreSt) (o : BlockArg) (v : BitVec 32) : CoreSt :=
  let k := k.setD o.dx.toNat (v.extractLsb' 0 16)
  if o.poly = 1 then k else k.setD (o.dx.toNat + 1) (v.extractLsb' 16 16)

/-- One element of BCRC (R267, R268). -/
def State.bcrcElement (s : State) (c : Nat) (o : BlockArg) : Blk :=
  let k := s.coreOf c
  let a := k.ar o.as_.toNat
  let m := elementLen (k.dr o.dc.toNat) a
  let src := wordsFrom a.toNat m
  match s.elementExn c k.ring src [] with
  | some x => .exn s x
  | none =>
    match s.elementRead c src with
    | .exn s x => .exn s x
    | .hold => .hold
    | .ok s ws =>
      .ok (s.modCore c (fun k =>
        let n := k.dr o.dc.toNat - BitVec.ofNat 16 m
        let k := k.setRunning o (polyFold o.poly.toNat (k.running o) (bytesOf ws))
        (k.setA o.as_.toNat (a + BitVec.ofNat 48 m)).setD o.dc.toNat n))

/-- At most n elements, until the count is 0, an element faults, or one holds issue and stops the run before it. -/
def State.elements (s : State) (c dc : Nat) (f : State → Blk) : Nat → Blk
  | 0 => .ok s
  | n + 1 =>
    if (s.coreOf c).dr dc = 0 then .ok s
    else
      match f s with
      | .ok s => s.elements c dc f n
      | .exn s x => .exn s x
      | .hold => .ok s

/-- A block instruction: it initialises where SW.RSM is 0, performs n elements, and completes where the count has
reached 0; otherwise it is stopped at an element boundary, with SW.RSM set and the pc on it (R237, R267). -/
def State.blockRun (s : State) (c : Nat) (o : BlockArg) (n : Nat) (init fin : CoreSt → CoreSt) (f : State → Blk) : Res :=
  let k0 := s.coreOf c
  let s := if k0.flag 9 then s else s.modCore c init
  match s.elements c o.dc.toNat f n with
  | .exn s x => .exn s x true
  | .hold => .hold
  | .ok s =>
    if (s.coreOf c).dr o.dc.toNat = 0 then .ok (s.modCore c (fun k => (fin k).setFlag 9 false)) 0
    else .ok (s.modCore c (fun k => { (k.setFlag 9 true) with pc := k0.pc - 2 })) 0

/-- The reserved fields that every block instruction has (R267, R271). -/
def blockReserved (o : BlockArg) : Bool := o.rsvHi != 0 || o.rsvLo != 0

/-- BMOV (R267). -/
def execBmov (t : Nat) (c : CoreId) (o : BlockArg) (n : Nat) (s : State) : Host.Outcome State Fault Refusal :=
  .next ((s.to t).runInsn c 2 false (blockReserved o || o.raw != 0 || o.poly != 0 || o.dx != 0) 3 (fun s =>
    s.blockRun c.toNat o n id id (fun s => s.bmovElement c.toNat o)))

/-- BFILL (R267). -/
def execBfill (t : Nat) (c : CoreId) (o : BlockArg) (n : Nat) (s : State) : Host.Outcome State Fault Refusal :=
  .next ((s.to t).runInsn c 2 false (blockReserved o || o.raw != 0 || o.poly != 0 || o.as_ != 0) 3 (fun s =>
    s.blockRun c.toNat o n id id (fun s => s.bfillElement c.toNat o)))

/-- BCRC: with RAW 0 it loads the initial value when it begins and applies the final XOR when it completes (R268). -/
def execBcrc (t : Nat) (c : CoreId) (o : BlockArg) (n : Nat) (s : State) : Host.Outcome State Fault Refusal :=
  let init := fun (k : CoreSt) => if o.raw = 0 then k.setRunning o (polyInit o.poly.toNat) else k
  let fin := fun (k : CoreSt) => if o.raw = 0 then k.setRunning o (polyFinal o.poly.toNat (k.running o)) else k
  .next ((s.to t).runInsn c 2 false (blockReserved o || o.poly == 3 || o.ad != 0 || o.dx.getLsbD 0) 3 (fun s =>
    s.blockRun c.toNat o n init fin (fun s => s.bcrcElement c.toNat o)))

end Sys2Proof.Machine
end

