-- ==== Sys2Proof/Machine/Verdict.lean ====
section
/-!
DEFINITION. The commands of the Verdict Gate (R147 to R158).
-/

namespace Sys2Proof.Machine

/-- VERDICT_FLIT_POP: one CK4 edge of the Gate (R147, R149 to R154, R162). -/
def execVerdictFlitPop (t : Nat) (voterDiffer : Bool) (s : State) : Host.Outcome State Fault Refusal :=
  .next ((s.to t).gateEdge voterDiffer)

/-- DEADLINE (R148, R150, R151). -/
def execDeadline (t : Nat) (voterDiffer : Bool) (s : State) : Host.Outcome State Fault Refusal :=
  .next ((s.to t).deadlineEdge voterDiffer)

/-- VETO_TOGGLE: a half-period of 7,500 CK4 ends (R156). -/
def execVetoToggle (t : Nat) (s : State) : Host.Outcome State Fault Refusal :=
  .next { s.to t with vdg := { s.vdg with veto := s.vdg.veto.tick (s.to t).now (7500 * ck4) } }

/-- VDG_PIN: a VETO pad has differed from its commanded level for 8 CK4, none of them among the 4 CK4 that follow a
commanded change (R158). -/
def execVdgPin (t : Nat) (s : State) : Host.Outcome State Fault Refusal :=
  .next (if (s.vdg.veto.settle (s.to t).now).changedAt + 12 * ck4 ≤ (s.to t).now then (s.to t).raise 0 0x08 2 else s.to t)

end Sys2Proof.Machine
end

