-- ==== Sys2Proof/Machine/Crumb.lean ====
section
/-!
DEFINITION. The commands of the Crumb tray that come about without a register write (R402, R403, R411,
R417, R420 to R422).
-/

namespace Sys2Proof.Machine

/-- A line is declared broken: it is ignored until the next reset, its source is latched as reported, and
LINE_FAULT of its die with it (R403). RSVD_WRITE is the source with a line from each die (R428); the tray's other own
sources but the Trifle's have no line (R401). Of a broken RSVD_WRITE line no block is known: a free value. -/
def State.breakLine (s : State) (die blk src : Nat) : State :=
  let rsvd := blk == 3 && src == 1
  let fid : Word := if rsvd then 0x0181 else faultId die blk src
  let key := lineKey die fid
  let own := die == 0 && blk == 3 && decide (src < 0x71) && !rsvd
  if s.crb.broken.contains key || own || !raised fid then s
  else
    let x := s.draw
    let b : Byte := if rsvd then (Config.freeWord x.1).setWidth 8 else BitVec.ofNat 8 blk
    let s := if rsvd then x.2 else s
    let T := edgeUp s ck4 s.now
    let same := s.crb.inflight.filter (fun r => r.latchAt == T && !(r.fid == fid && r.die.toNat == die))
    let s := { s with crb := { s.crb with
      broken := s.crb.broken ++ [key]
      inflight := s.crb.inflight.filter (fun r => r.latchAt != T) } }
    s.latchCycle T none (same.filter (fun r => !(s.lineBroken r)) ++
      [⟨fid, T, false, BitVec.ofNat 3 die, b, s.lostFenced fid⟩,
        ⟨BitVec.ofNat 16 (0x0190 + die), T, false, 0, 0x03, false⟩])

/-- FAULT_REPORT: the next latch cycle, with the second classifier's decision where it differs (R402, R411 to
R416, R424, R425). -/
def execFaultReport (t : Nat) (other : OtherClass) (s : State) : Host.Outcome State Fault Refusal :=
  .next ((s.to t).takeReports other)

/-- LINE_BREAK (R403). -/
def execLineBreak (t : Nat) (die : DieAddr) (blk : Byte) (src : BitVec 7) (s : State) :
    Host.Outcome State Fault Refusal :=
  .next ((s.to t).breakLine die.toNat blk.toNat src.toNat)

/-- GRACE_EXPIRY: the running grace timer that expires first has come to its end (R417). -/
def execGraceExpiry (t : Nat) (s : State) : Host.Outcome State Fault Refusal :=
  .next (match (s.to t).firstGrace with
    | some (n, g) => if g.due ≤ (s.to t).now then (s.to t).graceExpire n g else s.to t
    | none => s.to t)

/-- EOUT_TOGGLE: a half-period of 3,750 CK4 ends (R420). -/
def execEoutToggle (t : Nat) (s : State) : Host.Outcome State Fault Refusal :=
  .next { s.to t with crb := { s.crb with eout := s.crb.eout.tick (s.to t).now (3750 * ck4) } }

/-- EPULSE_END: the 16,500 CK4 of the pulse have passed (R421). -/
def execEpulseEnd (t : Nat) (s : State) : Host.Outcome State Fault Refusal :=
  .next (match s.crb.pulseEnd with
    | some e =>
      if e ≤ (s.to t).now then { s.to t with crb := { s.crb with pulseEnd := none, pulsed := true } } else s.to t
    | none => s.to t)

/-- EOUT_PIN: an EOUT pad has differed from its commanded level for 8 CK4, none of them among the 4 CK4 that follow a
commanded change (R422). -/
def execEoutPin (t : Nat) (s : State) : Host.Outcome State Fault Refusal :=
  .next (if (s.crb.eout.settle (s.to t).now).changedAt + 12 * ck4 ≤ (s.to t).now then (s.to t).raiseOwn 0x0183 false 0
    else s.to t)

end Sys2Proof.Machine
end

