-- ==== Sys2Proof/Machine/Dbg.lean ====
section
/-!
DEFINITION. Debug: tokens and sessions (R489 to R491), the rights and denials of debug accesses (R480, R492, R493),
register and memory accesses (R373, R498), and DBG_AP (R488).
-/

namespace Sys2Proof.Machine

/-! ### Signers (R475) -/

/-- The key that a SIGNER word names: the vendor root, the owner key or a valid authority root (R474, R475). -/
def State.signerKey (s : State) (w : Word) : Option PubKey :=
  match bits w.toNat 1 0 with
  | 0 => some Config.vendorRoot
  | 1 => s.cus.owner.map (fun ws => (wordsW256 ws, wordsW256 (ws.drop 16)))
  | 2 => s.authRoot (bits w.toNat 3 2)
  | _ => none

/-! ### Sessions (R489 to R491) -/

/-- A session opens, in place of one that is open: counted, and DBG_OPEN raised (R491, R500). -/
def State.dbgOpen (s : State) (rights : BitVec 5) (scope : BitVec 128) (signer : Word) : State :=
  { s.raise 0 0x0D 2 with
    dbg := { s.dbg with
      session := some ⟨rights, scope, signer, false⟩
      sessions := satInc s.dbg.sessions } }

/-- The engines that VDG_PRODn names, as committed or as staged (R490). -/
def State.prodEngines (s : State) : List Nat :=
  (List.range s.nProd).map s.prodEngine ++ (List.range (s.fld 0 0x08 0 2 1)).map (fun n => s.fld 0 0x08 (4 + n) 6 0)

/-- The outcome of a token (R490): its codes are met in ascending order. -/
def State.tokenCode (s : State) (ws : List Word) : BitVec 3 :=
  let signer := wordAt ws 8
  let kind := bits signer.toNat 1 0
  let rights := wordAt ws 9
  let scope := ofWordsLow ((ws.drop 10).take 8)
  let owner := kind = 1
  if ofWordsLow (ws.take 4) ≠ (Config.dieUid 0).toNat then 1
  else if s.dbg.nonce.map (fun n => n.toNat) ≠ some (ofWordsLow ((ws.drop 4).take 4)) then 2
  else if s.life = 0 || s.life = 3 || !(kind == 1 || kind == 2) || decide (16 ≤ signer.toNat) then 3
  else if !verifyOpt (s.signerKey signer) (sha (ws.take 20)) (ws.drop 20) then 4
  else if decide (32 ≤ rights.toNat) || rights.getLsbD 4 || (owner && rights.getLsbD 3) ||
      (owner && s.life = 2 && rights.getLsbD 2) then 5
  else if owner && s.life = 2 && s.prodEngines.any (fun e => bit scope e) then 6
  else 0

/-- A token of 52 words is submitted: its outcome, the session it opens, and a new nonce (R489, R490). -/
def State.dbgToken (s : State) (ws : List Word) : State :=
  let ws := fitW 52 ws
  let code := s.tokenCode ws
  let s := { s with dbg := { s.dbg with tokRes := code, nonce := none, ir := 0x11 } }
  if code = 0 then
    s.dbgOpen ((wordAt ws 9).setWidth 5) (BitVec.ofNat 128 (ofWordsLow ((ws.drop 10).take 8))) (wordAt ws 8)
  else s

/-- DBG_NONCE: a new nonce is drawn where the last one has been used (R489). -/
def State.dbgNonce (s : State) : State :=
  match s.dbg.nonce with
  | some n => { s with dbg := { s.dbg with ir := 0x10, capture := n } }
  | none =>
    let x := s.draw
    let n := Config.freeNonce x.1
    { x.2 with dbg := { x.2.dbg with ir := 0x10, nonce := some n, capture := n } }

/-! ### Denials and errors (R480, R492, R493) -/

/-- A right of the open session. -/
def DbgSession.may (d : DbgSession) (i : Nat) : Bool := d.rights.getLsbD i

/-- A debug access meets a locked word: reads of the black box are allowed (R478, R480, R514). -/
def State.dbgLocked (s : State) (write : Bool) (a : Nat) : Bool :=
  inRange a 0x00F100000000 0x10000 || inRange a 0x00F100100000 0x200000 ||
  (write && inRange a 0x00F100300000 0x80800) ||
  (List.range 8).any (fun n =>
    let b := 0x30 + 6 * n
    s.flagL 0 0x0B (b + 5) 0 && inRange a (s.liveN 0 0x0B b 3) (256 * s.liveN 0 0x0B (b + 3) 2))

/-- The core that DBG_MCTRL names for the scratchpad range; none where DIE names no compute die (R498). -/
def State.dbgCore (s : State) : Option Nat :=
  let v := (s.reg 0 0x0D 0x14).toNat
  if isCompute (bits v 11 9) then some (2 * engAt (bits v 11 9) (bits v 7 3) + bits v 8 8) else none

/-- A core is in the scope of a session. -/
def DbgSession.has (d : DbgSession) (c : Nat) : Bool := d.scope.getLsbD (coreEng c)

/-- The core is halted by debug. -/
def State.isHalted (s : State) (c : Nat) : Bool := (s.coreOf c).runst == .halted

/-- The reason for which a session is denied a write to a register (R492): with CSR any, with HALT those of the engine
control blocks in its scope. -/
def dbgCsrDenied (d : DbgSession) (a : Nat) : Option Nat :=
  let blk := csrBlk a
  if d.may 2 then none
  else if d.may 0 && isCompute (csrDie a) && decide (0x10 ≤ blk) && decide (blk ≤ 0x2F) then
    (if d.has (2 * engAt (csrDie a) (blk - 0x10)) then none else some 3)
  else some 2

/-- The reason for which a debug memory access is denied, where it is (R480, R492, R493). -/
def State.dbgDenied (s : State) (write : Bool) (a : Nat) : Option Nat :=
  if s.dbgLocked write a then some 1
  else
    match s.dbg.session with
    | none => some 5
    | some d =>
      if isCsr a then (if write then dbgCsrDenied d a else none)
      else if !d.may 1 then some 2
      else if spadLen ≤ a then none
      else
        match s.dbgCore with
        | none => some 3
        | some c => if !d.has c then some 3 else if write && !s.isHalted c then some 4 else none

/-- A denied access: DENIED of the die's DBG block, the count, the reason and DBG_DENY; the first of a session is
entered in the biscuit tin with its address or offset (R493, R504). -/
def State.dbgDeny (s : State) (die reason at_ : Nat) : State :=
  let s := (s.orReg die 0x0D 0 2).raise 0 0x0D 1
  let s := { s with dbg := { s.dbg with
    denyCnt := satInc s.dbg.denyCnt, denyInfo := BitVec.ofNat 3 reason, apDenied := true } }
  match s.dbg.session with
  | some d =>
    if d.denied then s
    else
      let s := { s with dbg := { s.dbg with session := some { d with denied := true } } }
      s.bbxReq 0x0D ([BitVec.ofNat 16 reason, BitVec.ofNat 16 die] ++ wordsLow 3 at_ ++ [d.rights.setWidth 16, d.signer])
  | none => s

/-- A debug access that ends in an error: ERR (R492). -/
def State.dbgErr (s : State) (die : Nat) : State := s.orReg die 0x0D 0 4

/-- What a debug read gave. -/
def State.dbgAns (s : State) (v : Word) : State := { s with dbg := { s.dbg with apData := v } }

/-! ### Memory accesses (R291, R492, R498) -/

/-- A debug read of a word that no rule denies. -/
def State.dbgRead (s : State) (a : Nat) : State :=
  if isCsr a then
    if (s.csrRefuses .debug false a 0).isSome || s.fld 0 0x0D 0x14 2 1 ≠ 0 then s.dbgErr 0
    else
      let x := s.csrGet (csrDie a) (csrBlk a) (csrOff a)
      x.s.dbgAns x.v
  else if (s.decodeRefuses true false a).isSome then s.dbgErr 0
  else
    let p := if a < spadLen then physOf (s.dbgCore.getD 0) a else a
    let x := if s.flag 0 0x0D 0x14 1 then s.readCheck (p / 32 * 32) 32 0x107 false else s.readCheck p 1 0x107 false
    if (s.classAt (p / 8)).uncorrectable then x.1.dbgErr 0 else x.1.dbgAns (s.rd p)

/-- A debug write enters the replay queue of 64 entries: it reaches the checker 8 CK1 later, or 8 CK1 after the entry frees
that it waits for (R373). -/
def replayIn (q : List Nat) (now : Nat) : List Nat :=
  let q := q.filter (fun t => decide (now < t))
  q ++ [(if q.length < 64 then now else q.getD (q.length - 64) now) + 8]

/-- CKVALID of a core's engine clears at a debug write; a register's is replayed into the checker (R373). -/
def State.dbgTouch (s : State) (c : Nat) (replayed : Bool) : State :=
  if s.isSplit (coreEng c) then s
  else s.modEng (coreEng c) (fun x =>
    { x with ckValid := false, replay := if replayed then replayIn x.replay s.now else x.replay })

/-- A debug write of a word that no rule denies. -/
def State.dbgWrite (s : State) (a : Nat) (v : Word) : State :=
  if isCsr a then
    if (s.csrRefuses .debug true a v).isSome || s.fld 0 0x0D 0x14 2 1 ≠ 0 then s.dbgErr 0
    else s.csrSet (csrDie a) (csrBlk a) (csrOff a) v
  else if (s.decodeRefuses true true a).isSome then s.dbgErr 0
  else if a < spadLen then
    let c := s.dbgCore.getD 0
    (s.spadStore c [(a, v)]).dbgTouch c false
  else
    match s.putBlock 0x107 [(a, v)] with
    | (s, .ok _) => s
    | (s, .error _) => s.dbgErr 0

/-- One debug access at DBG_MADDR, which INC advances after it (R498). -/
def State.dbgMem (s : State) (write : Bool) (v : Word) : State :=
  let a := s.regN 0 0x0D 0x10 3
  let s :=
    match s.dbgDenied write a with
    | some r => s.dbgDeny 0 r a
    | none => if write then s.dbgWrite a v else s.dbgRead a
  if s.flag 0 0x0D 0x14 0 then s.setRegs 0 0x0D 0x10 (wordsLow 3 ((a + 1) % 2 ^ 48)) else s

/-! ### Register accesses (R373, R498) -/

/-- A value's word w. -/
def nthWord (v w : Nat) : Word := BitVec.ofNat 16 (v / 2 ^ (16 * w))

/-- A value with word w replaced. -/
def putWord (v w : Nat) (x : Word) : Nat :=
  v - (nthWord v w).toNat * 2 ^ (16 * w) + x.toNat * 2 ^ (16 * w)

/-- A core's register by REG of DBG_RSEL, the wide ones whole (R498); system registers apart. -/
def CoreSt.dbgReg (k : CoreSt) (r : Nat) : Nat :=
  if r < 0x110 then (k.dr (r - 0x100)).toNat
  else if r < 0x118 then (k.ar (r - 0x110)).toNat
  else if r < 0x11C then (k.pr (r - 0x118)).toNat
  else if r < 0x11E then (k.acc (r - 0x11C)).toNat
  else if r = 0x11E then k.pc.toNat
  else (lane (k.vr ((r - 0x200) / 32)) (r % 32)).toNat

/-- Writing a core's register by REG. -/
def CoreSt.setDbgReg (k : CoreSt) (r v : Nat) : CoreSt :=
  if r < 0x110 then k.setD (r - 0x100) (BitVec.ofNat 16 v)
  else if r < 0x118 then k.setA (r - 0x110) (BitVec.ofNat 48 v)
  else if r < 0x11C then k.setP (r - 0x118) (BitVec.ofNat 32 v)
  else if r < 0x11E then k.setAcc (r - 0x11C) (BitVec.ofNat 40 v)
  else if r = 0x11E then k.goto (BitVec.ofNat 48 v)
  else
    let n := (r - 0x200) / 32
    k.setV n (ofLanes ((lanes (k.vr n)).set (r % 32) (BitVec.ofNat 16 v)))

/-- A debug write of a system register: SW takes bits 12:0 and an ESW all its bits, whatever the ring; every other as
MTS would write it (R210, R492). -/
def State.dbgSysWrite (s : State) (c n w : Nat) (v : Word) : State :=
  match sysReg n with
  | none => s
  | some r =>
    if r.write.isNone || decide (r.words ≤ w) then s
    else if n = 0x00 then s.modCore c (fun k => { k with sw := v &&& 0x1FFF })
    else if n = 0x02 then s.modCore c (fun k => k.modBank k.bankNo (fun b => { b with esw := v }))
    else if n = 0x8D then s.modCore c (fun k => k.modBank 4 (fun b => { b with esw := v }))
    else if decide (0x40 ≤ n) && decide (n < 0x80) && n % 16 == 13 then
      s.modCore c (fun k => k.modBank ((n - 0x40) / 16) (fun b => { b with esw := v }))
    else s.sysWriteWord c n w r.words v

/-- The reason for which a session is denied an access to a core's registers (R492, R493). -/
def State.dbgCoreDenied (s : State) (c : Nat) : Option Nat :=
  match s.dbg.session with
  | none => some 5
  | some d => if !d.may 0 then some 2 else if !d.has c then some 3 else none

/-- One access to the register word that DBG_RSEL of a die selects, in a halted core (R373, R498). -/
def State.dbgRegister (s : State) (die : Nat) (write : Bool) (v : Word) : State :=
  let sel := (s.reg die 0x0D 0x10).toNat
  let r := s.fld die 0x0D 0x11 9 0
  let w := bits sel 7 6
  let c := 2 * engAt die (bits sel 4 0) + bits sel 5 5
  match s.dbgCoreDenied c with
  | some n => s.dbgDeny die n 0x12
  | none =>
    if !s.isHalted c || s.noCore c then s.dbgDeny die 4 0x12
    else if write then
      (if r < 0x100 then s.dbgSysWrite c r w v
        else s.modCore c (fun k => k.setDbgReg r (putWord (k.dbgReg r) w v))).dbgTouch c true
    else s.dbgAns (nthWord (if r < 0x100 then s.sysRead c r else (s.coreOf c).dbgReg r) w)

/-! ### Halt, step and resume (R372, R492, R498) -/

/-- A request on a core in scope, or on the Trifle where the die is the hub; the offset is that of DBG_HALT. -/
def State.dbgRun (s : State) (die slot core : Nat) (f : Nat → State → State) (g : State → State) : State :=
  let c := 2 * engAt die slot + core
  if die = 0 then
    match s.dbg.session with
    | none => s.dbgDeny 0 5 0x100
    | some d => if d.may 4 then g s else s.dbgDeny 0 2 0x100
  else if !(isCompute die) then s.dbgErr die
  else
    match s.dbgCoreDenied c with
    | some n => s.dbgDeny die n (0x100 + 2 * slot + core)
    | none => if s.noCore c then s else f c s

/-- HALT: taken at the next instruction boundary; TWD0 and TWD1 freeze with the Trifle (R372, R492). -/
def State.dbgHalt (s : State) (die slot core : Nat) : State :=
  s.dbgRun die slot core
    (fun c s => if s.isHalted c then s else (s.modCore c (fun k => { k with haltReq := true })).takeHalt c)
    (fun s =>
      if s.dbg.trifleHalted then s
      else ({ s with dbg := { s.dbg with trifleHalted := true } }.freezeWdt 0).freezeWdt 1)

/-- STEP: a halted core issues one instruction and halts again (R372, R498); the Trifle stays halted. -/
def State.dbgStep (s : State) (die slot core : Nat) : State :=
  s.dbgRun die slot core
    (fun c s => if s.isHalted c then s.unhalt c true else s) id

/-- RESUME (R372, R498). -/
def State.dbgResume (s : State) (die slot core : Nat) : State :=
  s.dbgRun die slot core (fun c s => s.resumeCore c)
    (fun s =>
      if s.dbg.trifleHalted then
        { s with dbg := { s.dbg with trifleHalted := false } }.thawTrifle
      else s)

/-! ### DBG_CTRL and DBG_AP (R488, R490, R491) -/

/-- DBG_CTRL.OPEN: in MANUFACTURE a session with every right and every engine (R490). -/
def State.dbgCtrlOpen (s : State) : State :=
  if s.life = 0 then s.dbgOpen 0x1F (BitVec.allOnes 128) 0 else s

/-- A write to DBG_CTRL. -/
def State.dbgCtrl (s : State) (v : Word) : State :=
  let s := if v.getLsbD 0 then s.dbgCtrlOpen else s
  if v.getLsbD 1 then s.dbgClose else s

/-- A write to DBG_HALTs.c: HALT, STEP and RESUME. -/
def State.dbgHaltWrite (s : State) (die slot core : Nat) (v : Word) : State :=
  let s := if v.getLsbD 0 then s.dbgHalt die slot core else s
  let s := if v.getLsbD 1 then s.dbgStep die slot core else s
  if v.getLsbD 2 then s.dbgResume die slot core else s

/-- An access of DBG_AP to a register of a DBG block: those that act, and every other as a CSR access; a read that is denied
or ends in an error gives 0 (R488, R492, R493, R498). -/
def State.apInner (s : State) (die off : Nat) (write : Bool) (v : Word) : State :=
  let a := csrBase + die * 0x1000000 + 0x0D0000 + off
  let s := if write then s else s.dbgAns 0
  if (s.decodeRefuses false write a).isSome then s.dbgErr 0
  else if die = 0 && off == 0x13 then s.dbgMem write v
  else if die ≠ 0 && off == 0x12 then s.dbgRegister die write v
  else if write && die == 0 && off == 1 then s.dbgCtrl v
  else if write && decide (0x100 ≤ off) && decide (off < 0x140) then
    s.dbgHaltWrite die ((off - 0x100) / 2) (off % 2) v
  else if write then s.csrSet die 0x0D off v
  else
    let x := s.csrGet die 0x0D off
    x.s.dbgAns x.v

/-- One access of DBG_AP: none in RETIRED, where the instruction selects BYPASS (R487). -/
def State.apAccess (s : State) (die off : Nat) (write : Bool) (v : Word) : State :=
  if s.life = 3 then { s with dbg := { s.dbg with ir := 0xFF } }
  else { s with dbg := { s.dbg with ir := 0x12, apDenied := false } }.apInner die off write v

/-- What DBG_AP captures: the data of the previous read, and bit 36 where that access was denied (R488). -/
def DbgSt.apCapture (d : DbgSt) : BitVec 64 := BitVec.ofNat 64 (d.apData.toNat + 2 ^ 36 * b2n d.apDenied)

/-- DBG_AP: Capture-DR, then the access at Update-DR, none where bits 39:36 are nonzero (R488). -/
def State.dbgAp (s : State) (dr : BitVec 40) : State :=
  let n := dr.toNat
  let s := { s with dbg := { s.dbg with capture := s.dbg.apCapture } }
  if bits n 39 36 ≠ 0 then s else s.apAccess (bits n 34 32) (bits n 31 16) (bit n 35) (BitVec.ofNat 16 n)

/-! ### The TAP (R487) -/

/-- The TAP selects an instruction: what Capture-DR loads. -/
def State.tapSelect (s : State) (ir : BitVec 8) (capture : BitVec 64) : State :=
  { s with dbg := { s.dbg with ir := ir, capture := capture } }

/-- Instructions of the TAP that are not BYPASS (R487). -/
def tapCodes : List (BitVec 8) := [0x01, 0x02, 0x03, 0x04, 0x05, 0x10, 0x11, 0x12]

/-- EXTEST, CLAMP and HIGHZ are allowed: the BOUNDARY right, in BOOT or LOADED (R487). The Gate then holds STOP, as
it does in both states. -/
def State.boundaryOk (s : State) : Bool :=
  s.cfg.state.open && (match s.dbg.session with | some d => d.may 3 | none => false)

/-- A boundary instruction, or BYPASS where it is not allowed. -/
def State.boundaryInsn (s : State) (ir : BitVec 8) (shifted : Option (List Bool)) : State :=
  if s.boundaryOk then
    let s := s.tapSelect ir 0
    match shifted with
    | some b => { s with dbg := { s.dbg with boundary := b } }
    | none => s
  else s.tapSelect 0xFF 0

/-! ### The commands -/

/-- TAP_RESET (R487, R491): TRST_N low, or Test-Logic-Reset. -/
def execTapReset (t : Nat) (trst : Bool) (s : State) : Host.Outcome State Fault Refusal :=
  .next (let s := s.to t
    (if trst then s.dbgClose else s).tapSelect 0x01 0x1A8C11D7)

/-- BYPASS (R487): every code that is no other instruction. -/
def execBypass (t : Nat) (code : BitVec 8) (s : State) : Host.Outcome State Fault Refusal :=
  .next (if tapCodes.contains code then s.to t else (s.to t).tapSelect 0xFF 0)

/-- IDCODE (R487). -/
def execIdcode (t : Nat) (s : State) : Host.Outcome State Fault Refusal := .next ((s.to t).tapSelect 0x01 0x1A8C11D7)

/-- SAMPLE_PRELOAD (R487). -/
def execSamplePreload (t : Nat) (shifted : List Bool) (s : State) : Host.Outcome State Fault Refusal :=
  .next (let s := (s.to t).tapSelect 0x02 0
    { s with dbg := { s.dbg with boundary := shifted } })

/-- EXTEST (R487). -/
def execExtest (t : Nat) (shifted : List Bool) (s : State) : Host.Outcome State Fault Refusal :=
  .next ((s.to t).boundaryInsn 0x03 (some shifted))

/-- CLAMP (R487). -/
def execClamp (t : Nat) (s : State) : Host.Outcome State Fault Refusal := .next ((s.to t).boundaryInsn 0x04 none)

/-- HIGHZ (R487). -/
def execHighz (t : Nat) (s : State) : Host.Outcome State Fault Refusal := .next ((s.to t).boundaryInsn 0x05 none)

/-- DBG_NONCE (R487, R489). -/
def execDbgNonce (t : Nat) (s : State) : Host.Outcome State Fault Refusal :=
  .next (if (s.to t).life = 3 then (s.to t).tapSelect 0xFF 0 else (s.to t).dbgNonce)

/-- DBG_TOKEN (R487, R489, R490). -/
def execDbgToken (t : Nat) (words : List Word) (s : State) : Host.Outcome State Fault Refusal :=
  .next (if (s.to t).life = 3 then (s.to t).tapSelect 0xFF 0 else (s.to t).dbgToken words)

/-- DBG_AP (R488). -/
def execDbgAp (t : Nat) (dr : BitVec 40) (s : State) : Host.Outcome State Fault Refusal :=
  .next ((s.to t).dbgAp dr)

/-- DBG_CTRL_OPEN (R490): a write of DBG_CTRL.OPEN through DBG_AP. -/
def execDbgCtrlOpen (t : Nat) (s : State) : Host.Outcome State Fault Refusal :=
  .next ((s.to t).apAccess 0 1 true 1)

/-- DBG_CTRL_CLOSE (R491). -/
def execDbgCtrlClose (t : Nat) (s : State) : Host.Outcome State Fault Refusal :=
  .next ((s.to t).apAccess 0 1 true 2)

/-- DEBUG_HALT (R372, R492). -/
def execDebugHalt (t : Nat) (die : DieAddr) (slot : BitVec 5) (core : BitVec 1) (s : State) :
    Host.Outcome State Fault Refusal := .next ((s.to t).dbgHalt die.toNat slot.toNat core.toNat)

/-- DEBUG_STEP (R372, R492). -/
def execDebugStep (t : Nat) (die : DieAddr) (slot : BitVec 5) (core : BitVec 1) (s : State) :
    Host.Outcome State Fault Refusal := .next ((s.to t).dbgStep die.toNat slot.toNat core.toNat)

/-- DEBUG_RESUME (R372, R492). -/
def execDebugResume (t : Nat) (die : DieAddr) (slot : BitVec 5) (core : BitVec 1) (s : State) :
    Host.Outcome State Fault Refusal := .next ((s.to t).dbgResume die.toNat slot.toNat core.toNat)

/-- DBG_MEMORY_ACCESS: an access to DBG_MDATA through DBG_AP (R492, R498). -/
def execDbgMemoryAccess (t : Nat) (wr : Bool) (v : Word) (s : State) : Host.Outcome State Fault Refusal :=
  .next ((s.to t).apAccess 0 0x13 wr v)

/-- DBG_REGISTER_ACCESS: an access to DBG_RDATA of a die through DBG_AP (R373, R498). -/
def execDbgRegisterAccess (t : Nat) (die : DieAddr) (wr : Bool) (v : Word) (s : State) :
    Host.Outcome State Fault Refusal := .next ((s.to t).apAccess die.toNat 0x12 wr v)

end Sys2Proof.Machine
end

