-- ==== Sys2Proof/Machine/Dma.lean ====
section
/-!
DEFINITION. Bursts of the DMA channels (R326, R336, R341, R344, R397).
-/

namespace Sys2Proof.Machine

/-- A die has a DMA channel of this number: four on a compute die, two on a port die (R326). -/
def dmaExists (die ch : Nat) : Bool := isCompute die || ((die == 5 || die == 6) && decide (ch < 2))

/-- The HBM requester code of a DMA channel (R302). -/
def dmaReq (die ch : Nat) : Nat := if die ≤ 4 then 0x110 + 4 * (die - 1) + ch else 0x120 + 2 * (die - 5) + ch

/-- The DETAIL with which an address of a burst is refused after its unit has allowed it (R42, R291). -/
def State.dmaRefuses (s : State) (b : Burst) (k : Access) (a : Nat) : Option Nat :=
  if isCsr a then
    let x := s.attrOf (s.dieUnit b.die.toNat b.ch.toNat) k a
    if x.wt || x.relaxed then some 5 else s.csrRefuses (.dma b.die b.ch) (k == .write) a 0
  else s.decodeRefuses false (k == .write) a

/-- The words that a run of source words gives: a codeword that is uncorrectable gives free values (assumption 18). -/
def State.dmaRun (s : State) (req : Nat) (as : List Nat) : State × List Word :=
  let a := as.headD 0
  if isCsr a then s.loadCsr as
  else
    match s.readCheck a as.length req false with
    | (s, none) => (s, as.map s.rd)
    | (s, some _) =>
      let x := s.draw
      (x.2, (List.range as.length).map (fun i => Config.freeCell x.1 i))

/-- Reading the source of a burst, one run in one aligned 8-word block after another. -/
def State.dmaRead (s : State) (req : Nat) : List (List Nat) → State × List Word
  | [] => (s, [])
  | p :: ps =>
    let x := s.dmaRun req p
    let y := x.1.dmaRead req ps
    (y.1, x.2 ++ y.2)

/-- A run of the destination is written. -/
def State.dmaPut (s : State) (req : Nat) (r : List AWord) : State :=
  let a := (r.headD (0, 0)).1
  if isCsr a then r.foldl (fun (s : State) w => s.csrSet (csrDie w.1) (csrBlk w.1) (csrOff w.1) w.2) s
  else (s.putBlock req r).1

/-- Words that a port DMA channel moves are folded into the CRC channel attached to it (R397). -/
def State.dmaFold (s : State) (die ch : Nat) (ws : List Word) : State :=
  if (die == 5 || die == 6) && s.flag die 0x46 (calcOff ch) 3 then
    s.calcDma die ch ws
  else s

/-- The block in which one write of a burst stands: a line of HBM, so that a whole line is written as one (R306), or an
aligned 8-word block. -/
def dmaBlock (a : Nat) : Nat := if (hbmStackOf a).isSome then 4 * (a / 32) else a / 8

/-- The burst itself. -/
def State.dmaMove (s : State) (b : Burst) : State :=
  let die := b.die.toNat
  let req := dmaReq die b.ch.toNat
  let x := s.dmaRead req (runs 8 (wordsFrom b.src.toNat b.n))
  let s := (runsBy dmaBlock ((wordsFrom b.dst.toNat b.n).zip x.2)).foldl (fun (s : State) r => s.dmaPut req r) x.1
  s.dmaFold die b.ch.toNat x.2

/-- A burst: all source pieces and then all destination pieces are checked, and a violation refuses it whole; a channel
that a violation has stopped takes no burst until VALID is cleared; an address that a decoder refuses lets the burst
make no access (R336, R338, R344). -/
def State.dmaBurst (s : State) (b : Burst) : State :=
  let die := b.die.toNat
  let ch := b.ch.toNat
  let u := s.dieUnit die ch
  let src := pieces (wordsFrom b.src.toNat b.n)
  let dst := pieces (wordsFrom b.dst.toNat b.n)
  if !(dmaExists die ch) || (s.die die).fenced then s
  else
    match s.mpuCheck u .read false src with
    | some r => s.mpuViol die ch r false
    | none =>
      match s.mpuCheck u .write (!src.isEmpty) dst with
      | some r => s.mpuViol die ch r true
      | none =>
        if s.flag die 0x31 (0x104 + 0x100 * ch) 15 then s
        else if (refusedPiece (s.dmaRefuses b .read) false src).isSome then s
        else if (refusedPiece (s.dmaRefuses b .write) false dst).isSome then s
        else s.dmaMove b

/-- DMA_BURST (R344). -/
def execDmaBurst (t : Nat) (b : Burst) (s : State) : Host.Outcome State Fault Refusal :=
  .next ((s.to t).dmaBurst b)

end Sys2Proof.Machine
end

