-- ==== Sys2Proof/Machine/RegWrite.lean ====
section
/-!
DEFINITION. The commands that are writes of registers by a master (R6, R8, R10, R11): the Trifle's and a core's own
exceptions apart, a refused write is dropped.
-/

namespace Sys2Proof.Machine

/-- The address of a CSR word (R43). -/
def csrAddr (die blk off : Nat) : Nat := csrBase + die * 0x1000000 + blk * 0x10000 + off

/-- Words written to consecutive CSR words. -/
def State.csrSets (s : State) (a : Nat) : List Word → State
  | [] => s
  | w :: ws => (s.csrSet (csrDie a) (csrBlk a) (csrOff a) w).csrSets (a + 1) ws

/-- A core's write: held while its write buffer drains, for it is STRONG; refused, it is an exception of the store that
the core issues; otherwise the words are written, and the store retires by its own command (R204, R217, R338). -/
def State.coreWrite (s : State) (c a : Nat) (ws : List Word) : State :=
  let as := wordsFrom a ws.length
  let k := s.coreOf c
  let val := fun x => wordAt ws (x - a)
  if !(s.ready c) || !k.wb.isEmpty then s
  else
    match s.accessExn c k.ring .write false false val (pieces as) with
    | some x => s.takeExn c x k.pc.toNat false
    | none => s.csrSets a ws

/-- A write of CSR words by a master; a DMA channel that a violation has stopped makes none (R6, R8, R9, R42, R344,
R492). -/
def State.masterWrite (s : State) (m : Master) (a : Nat) (ws : List Word) : State :=
  let as := wordsFrom a ws.length
  if !(as.all isCsr) then s
  else
    match m with
    | .core c => s.coreWrite c.toNat a ws
    | .dma die ch =>
      let u := s.dieUnit die.toNat ch.toNat
      if !(dmaExists die.toNat ch.toNat) then s
      else
        match s.mpuCheck u .write false (pieces as) with
        | some r => s.mpuViol die.toNat ch.toNat r true
        | none =>
          if s.flag die.toNat 0x31 (0x104 + 0x100 * ch.toNat) 15 then s
          else if as.any (fun x => (s.csrRefuses m true x (wordAt ws (x - a))).isSome) then s
          else s.csrSets a ws
    | .trifle => if as.any (fun x => (s.csrRefuses m true x (wordAt ws (x - a))).isSome) then s else s.csrSets a ws
    | .debug =>
      match as.findSome? (fun x => s.dbgDenied true x) with
      | some r => s.dbgDeny 0 r a
      | none =>
        if as.any (fun x => (s.csrRefuses m true x (wordAt ws (x - a))).isSome) then s.dbgErr 0 else s.csrSets a ws

/-- A register-write command at a time. -/
def State.regWrite (s : State) (t : Nat) (m : Master) (a : Nat) (ws : List Word) : State :=
  (s.to t).masterWrite m a ws

/-- REGISTER_WRITE (R6, R8, R10, R567). -/
def execRegisterWrite (t : Nat) (m : Master) (addr : Addr) (v : Word) (s : State) :
    Host.Outcome State Fault Refusal :=
  .next (s.regWrite t m addr.toNat [v])

/-- DIE_FENCE (R39). -/
def execDieFence (t : Nat) (m : Master) (v : Word) (s : State) : Host.Outcome State Fault Refusal :=
  .next (s.regWrite t m (csrAddr 0 0x00 0x22) [v])

/-- CFG_CTRL_LOAD (R77, R87, R88): a write with LOAD 1. -/
def execCfgCtrlLoad (t : Nat) (m : Master) (v : Word) (s : State) : Host.Outcome State Fault Refusal :=
  .next (s.regWrite t m (csrAddr 0 0x02 0) [v ||| 2])

/-- CFG_CTRL_EN (R80, R87, R88): a write with EN 1. -/
def execCfgCtrlEn (t : Nat) (m : Master) (v : Word) (s : State) : Host.Outcome State Fault Refusal :=
  .next (s.regWrite t m (csrAddr 0 0x02 0) [v ||| 1])

/-- LAT_PCTRL_GO (R135): a write with GO 1. -/
def execLatPctrlGo (t : Nat) (m : Master) (v : Word) (s : State) : Host.Outcome State Fault Refusal :=
  .next (s.regWrite t m (csrAddr 0 0x07 0x18) [v ||| 1])

/-- TIME_ADJ (R166). -/
def execTimeAdj (t : Nat) (m : Master) (v : BitVec 32) (s : State) : Host.Outcome State Fault Refusal :=
  .next (s.regWrite t m (csrAddr 0 0x47 8) (wordsLow 2 v.toNat))

/-- TIME_STEP (R168). -/
def execTimeStep (t : Nat) (m : Master) (v : BitVec 80) (s : State) : Host.Outcome State Fault Refusal :=
  .next (s.regWrite t m (csrAddr 0 0x47 0xA) (wordsLow 5 v.toNat))

/-- TIME_SYNC (R169). -/
def execTimeSync (t : Nat) (m : Master) (v : BitVec 32) (s : State) : Host.Outcome State Fault Refusal :=
  .next (s.regWrite t m (csrAddr 0 0x47 0x12) (wordsLow 2 v.toNat))

/-- ENG_SWINT (R232, R238). -/
def execEngSwint (t : Nat) (m : Master) (c : CoreId) (v : BitVec 32) (s : State) : Host.Outcome State Fault Refusal :=
  .next (s.regWrite t m (csrAddr (coreDie c.toNat) (coreBlk c.toNat) (coreOff c.toNat + 6)) (wordsLow 2 v.toNat))

/-- QUE_DROP (R294, R295). -/
def execQueDrop (t : Nat) (m : Master) (die : DieAddr) (v : Word) (s : State) : Host.Outcome State Fault Refusal :=
  .next (s.regWrite t m (csrAddr die.toNat 0x30 5) [v])

/-- HBM_INJT_ARM (R319): a write with ARM 1. -/
def execHbmInjtArm (t : Nat) (m : Master) (v : Word) (s : State) : Host.Outcome State Fault Refusal :=
  .next (s.regWrite t m (csrAddr 0 0x05 0x20) [v ||| 0x8000])

/-- MPU_SYNINFO_CLEAR (R344, R347): a write of MPU_SYNINFOu with VALID 1, at its address. -/
def execMpuSyninfoClear (t : Nat) (m : Master) (addr : Addr) (v : Word) (s : State) :
    Host.Outcome State Fault Refusal :=
  .next (s.regWrite t m addr.toNat [v ||| 0x8000])

/-- LKS_INJ_ARM (R374, R380): a write with ARM 1. -/
def execLksInjArm (t : Nat) (m : Master) (die : DieAddr) (v : Word) (s : State) : Host.Outcome State Fault Refusal :=
  .next (s.regWrite t m (csrAddr die.toNat 0x32 3) [v ||| 0x8000])

/-- CVU_CALC_START (R397): a write with START 1. -/
def execCvuCalcStart (t : Nat) (m : Master) (p1 : Bool) (n : BitVec 2) (v : Word) (s : State) :
    Host.Outcome State Fault Refusal :=
  .next (s.regWrite t m (csrAddr (pd (portNo p1)) 0x46 (calcOff n.toNat)) [v ||| 4])

/-- CVU_CALC_DATA (R397). -/
def execCvuCalcData (t : Nat) (m : Master) (p1 : Bool) (n : BitVec 2) (v : Word) (s : State) :
    Host.Outcome State Fault Refusal :=
  .next (s.regWrite t m (csrAddr (pd (portNo p1)) 0x46 (calcOff n.toNat + 1)) [v])

/-- CVU_INJ_ARM (R398): a write with ARM 1. -/
def execCvuInjArm (t : Nat) (m : Master) (p1 : Bool) (v : Word) (s : State) : Host.Outcome State Fault Refusal :=
  .next (s.regWrite t m (csrAddr (pd (portNo p1)) 0x46 8) [v ||| 0x8000])

/-- ETH_MBXGO (R523). -/
def execEthMbxgo (t : Nat) (m : Master) (p1 : Bool) (v : Word) (s : State) : Host.Outcome State Fault Refusal :=
  .next (s.regWrite t m (csrAddr (pd (portNo p1)) 0x40 4) [v])

/-- ETH_MBXPOP (R539). -/
def execEthMbxpop (t : Nat) (m : Master) (p1 : Bool) (v : Word) (s : State) : Host.Outcome State Fault Refusal :=
  .next (s.regWrite t m (csrAddr (pd (portNo p1)) 0x40 7) [v])

/-- ETH_SACTL_INSTALL (R524): a write with INSTALL 1. -/
def execEthSactlInstall (t : Nat) (m : Master) (p1 : Bool) (v : Word) (s : State) :
    Host.Outcome State Fault Refusal :=
  .next (s.regWrite t m (csrAddr (pd (portNo p1)) 0x40 0x210) [v ||| 8])

/-- MSI_DTX (R531). -/
def execMsiDtx (t : Nat) (m : Master) (v : Word) (s : State) : Host.Outcome State Fault Refusal :=
  .next (s.regWrite t m (csrAddr 5 0x43 3) [v])

/-- MSI_DRX_REMOVE (R542). -/
def execMsiDrxRemove (t : Nat) (m : Master) (v : Word) (s : State) : Host.Outcome State Fault Refusal :=
  .next (s.regWrite t m (csrAddr 5 0x43 4) [v])

/-- CARD_ACTIVATE (R532): a write with ACT 1. -/
def execCardActivate (t : Nat) (m : Master) (p1 : Bool) (v : Word) (s : State) : Host.Outcome State Fault Refusal :=
  .next (s.regWrite t m (csrAddr (pd (portNo p1)) 0x44 2) [v ||| 1])

/-- CARD_DEACTIVATE (R532): a write with DEACT 1. -/
def execCardDeactivate (t : Nat) (m : Master) (p1 : Bool) (v : Word) (s : State) : Host.Outcome State Fault Refusal :=
  .next (s.regWrite t m (csrAddr (pd (portNo p1)) 0x44 2) [v ||| 2])

/-- CARD_TX (R532). -/
def execCardTx (t : Nat) (m : Master) (p1 : Bool) (v : Word) (s : State) : Host.Outcome State Fault Refusal :=
  .next (s.regWrite t m (csrAddr (pd (portNo p1)) 0x44 6) [v])

/-- CARD_RX_REMOVE (R542). -/
def execCardRxRemove (t : Nat) (m : Master) (p1 : Bool) (v : Word) (s : State) : Host.Outcome State Fault Refusal :=
  .next (s.regWrite t m (csrAddr (pd (portNo p1)) 0x44 7) [v])

/-- SPIU_TX (R533). -/
def execSpiuTx (t : Nat) (m : Master) (p1 : Bool) (u : BitVec 1) (v : Word) (s : State) :
    Host.Outcome State Fault Refusal :=
  .next (s.regWrite t m (csrAddr (pd (portNo p1)) 0x45 (0x102 + 0x40 * u.toNat)) [v])

/-- SPIU_RX_REMOVE (R542). -/
def execSpiuRxRemove (t : Nat) (m : Master) (p1 : Bool) (u : BitVec 1) (v : Word) (s : State) :
    Host.Outcome State Fault Refusal :=
  .next (s.regWrite t m (csrAddr (pd (portNo p1)) 0x45 (0x103 + 0x40 * u.toNat)) [v])

/-- SPIU_CS (R542). -/
def execSpiuCs (t : Nat) (m : Master) (p1 : Bool) (u : BitVec 1) (v : Word) (s : State) :
    Host.Outcome State Fault Refusal :=
  .next (s.regWrite t m (csrAddr (pd (portNo p1)) 0x45 (0x105 + 0x40 * u.toNat)) [v])

/-- SPIU_UTX (R535). -/
def execSpiuUtx (t : Nat) (m : Master) (p1 : Bool) (v : Word) (s : State) : Host.Outcome State Fault Refusal :=
  .next (s.regWrite t m (csrAddr (pd (portNo p1)) 0x45 0x302) [v])

/-- SPIU_URX_REMOVE (R542). -/
def execSpiuUrxRemove (t : Nat) (m : Master) (p1 : Bool) (v : Word) (s : State) : Host.Outcome State Fault Refusal :=
  .next (s.regWrite t m (csrAddr (pd (portNo p1)) 0x45 0x303) [v])

/-- CRB_ACK (R417). -/
def execCrbAck (t : Nat) (m : Master) (v : Word) (s : State) : Host.Outcome State Fault Refusal :=
  .next (s.regWrite t m (csrAddr 0 0x03 8) [v])

/-- CRB_LATCH_CLEAR (R412, R427): i is the number of the CRB_LATCH word, modulo 4,096. -/
def execCrbLatchClear (t : Nat) (m : Master) (i : Nat) (v : Word) (s : State) : Host.Outcome State Fault Refusal :=
  .next (s.regWrite t m (csrAddr 0 0x03 (0x1000 + i % 0x1000)) [v])

/-- CRB_LOGPOP (R427). -/
def execCrbLogpop (t : Nat) (m : Master) (v : Word) (s : State) : Host.Outcome State Fault Refusal :=
  .next (s.regWrite t m (csrAddr 0 0x03 0x25) [v])

/-- CRB_INJ_REPORT (R425): a write of CRB_INJC with MODE 0 and ARM 1. -/
def execCrbInjReport (t : Nat) (m : Master) (v : Word) (s : State) : Host.Outcome State Fault Refusal :=
  .next (s.regWrite t m (csrAddr 0 0x03 0xA) [(v &&& 0x7FFC) ||| 0x8000])

/-- CRB_INJ_DRY (R425): a write of CRB_INJC with MODE 1 and ARM 1. -/
def execCrbInjDry (t : Nat) (m : Master) (v : Word) (s : State) : Host.Outcome State Fault Refusal :=
  .next (s.regWrite t m (csrAddr 0 0x03 0xA) [(v &&& 0x7FFC) ||| 0x8001])

/-- CRB_INJ_LINE (R425): a write of CRB_INJC with MODE 2 and ARM 1. -/
def execCrbInjLine (t : Nat) (m : Master) (v : Word) (s : State) : Host.Outcome State Fault Refusal :=
  .next (s.regWrite t m (csrAddr 0 0x03 0xA) [(v &&& 0x7FFC) ||| 0x8002])

/-- CRB_INJ_CANCEL (R425): a write of CRB_INJC with ARM 0. -/
def execCrbInjCancel (t : Nat) (m : Master) (v : Word) (s : State) : Host.Outcome State Fault Refusal :=
  .next (s.regWrite t m (csrAddr 0 0x03 0xA) [v &&& 0x7FFF])

/-- WDT_SERVICE (R429, R432). -/
def execWdtService (t : Nat) (m : Master) (w : WdtId) (v : Word) (s : State) : Host.Outcome State Fault Refusal :=
  .next (s.regWrite t m (csrAddr (wdtDie (wdtNo w)) 0x04 (wdtOff (wdtNo w) + 6)) [v])

/-- WDT_CHECKIN (R429, R433). -/
def execWdtCheckin (t : Nat) (m : Master) (w : WdtId) (v : Word) (s : State) : Host.Outcome State Fault Refusal :=
  .next (s.regWrite t m (csrAddr (wdtDie (wdtNo w)) 0x04 (wdtOff (wdtNo w) + 6)) [v])

/-- BBX_FWDATA (R512): a write of the last word; the others are REGISTER_WRITE. -/
def execBbxFwdata (t : Nat) (m : Master) (v : Word) (s : State) : Host.Outcome State Fault Refusal :=
  .next (s.regWrite t m (csrAddr 0 0x0C 0x1F) [v])

end Sys2Proof.Machine
end

