-- ==== Sys2Proof/Machine/Mgmt.lean ====
section
/-!
DEFINITION. Management commands: the order in which a request is evaluated (R92 to R96, R453, R458), the commands
of The Structure Image (R97 to R99), SPLIT and JOIN (R371), and the reads of the biscuit tin and the field record
(R513).
-/

namespace Sys2Proof.Machine

/-! ### Evaluation (R92 to R96) -/

/-- The transports that are served: all by firmware; MSPI alone by the ROM in recovery and where it has halted
(R453, R458); none once the Trifle has stopped (R377). -/
def State.mgmtServed (s : State) (port : MgmtPort) : Bool :=
  !s.trf.stopped &&
  match s.boot.phase with
  | .firmware => true
  | .recovery => port == .mspi
  | .halted => port == .mspi
  | _ => false

/-- The commands that this manual defines (R97, R189, R371, R464, R475, R513). -/
def mgmtCommands : List Word :=
  [0x01, 0x02, 0x03, 0x10, 0x11, 0x12, 0x20, 0x21, 0x40, 0x41, 0x42, 0x43, 0x44, 0x50, 0x51, 0x52, 0x53, 0x60, 0x61,
    0x62, 0x63, 0x64, 0x65, 0x66, 0x67, 0x68, 0x69, 0x6A, 0x70, 0x71]

/-- The commands that the ROM serves in recovery (R458). -/
def recoveryCommands : List Word := [0x01, 0x02, 0x50, 0x51, 0x52, 0x53]

/-- What one command finds in the orders 2 to 5 of R94; `signed` where it carries a signature block under R96. -/
structure MgmtFound where
  signed : Bool := false
  badArg : Bool
  noAuth : Bool := false
  busy : Bool := false
  notNow : Bool := false
deriving DecidableEq, Repr

/-- The STATUS of a request, 0 where it is executed (R94). -/
def State.mgmtStatus (s : State) (f : MgmtFound) : Word :=
  if f.badArg then 2 else if f.noAuth then 4
  else if f.busy || s.cfg.running.isSome || s.cfg.job.isSome then 5
  else if f.notNow then 3 else 0

/-- The nonce has served its request, once that has passed order 2 (R96). -/
def State.useNonce (s : State) (f : MgmtFound) : State :=
  if f.signed && !f.badArg then { s with cfg := { s.cfg with nonce := none } } else s

/-- A NOT_NOW response counts, and changes nothing else (R95). -/
def State.countNotNow (s : State) : State :=
  { s.fldAdd32 12 1 with cfg := { (s.fldAdd32 12 1).cfg with notNow := satInc s.cfg.notNow } }

/-- The responses on MSPI that SDO has not yet sent (R534). -/
def State.mspiPending (s : State) : List MgmtResp :=
  (s.cfg.responses.filter (fun r => r.port == .mspi)).drop s.cfg.mspiOut

/-- RDY_N is low: a response is pending on MSPI (R534). -/
def State.mspiReady (s : State) : Bool := !s.mspiPending.isEmpty

/-- The CS_N low period in which a frame arrives on MSPI sends the response that is pending (R534). -/
def State.mspiPeriod (s : State) (port : MgmtPort) : State :=
  if port = .mspi && s.mspiReady then { s with cfg := { s.cfg with mspiOut := s.cfg.mspiOut + 1 } } else s

/-- A request is evaluated, and the command executed where nothing stands against it (R94, R453, R458). -/
def State.mgmt (s : State) (cmd : Word) (q : MgmtReq) (f : MgmtFound) (run : State → State) : State :=
  if !s.mgmtServed q.port || (s.boot.phase == .halted && cmd != 1) then s
  else
    let f := { f with notNow := f.notNow || (s.boot.phase == .recovery && !recoveryCommands.contains cmd) }
    let st := s.mgmtStatus f
    let s := (s.mspiPeriod q.port).useNonce f
    if st = 0 then run s
    else if st = 3 then s.countNotNow.respond q.port cmd q.seq 3 []
    else s.respond q.port cmd q.seq st []

/-- The OK response with its results (R92, R94). -/
def State.answer (s : State) (cmd : Word) (q : MgmtReq) (results : List Word) : State :=
  s.respond q.port cmd q.seq 0 results

/-- A command that goes on after its request: it answers when it has finished (R93). -/
def State.begun (s : State) (cmd : Word) (q : MgmtReq) : State :=
  { s with cfg := { s.cfg with running := some ⟨q.port, cmd, q.seq⟩ } }

/-- Four words of a 64-bit value, low word first. -/
def words64 (x : BitVec 64) : List Word := wordsLow 4 x.toNat

/-- The arguments before the signature block of R96. -/
def reqBody (q : MgmtReq) : List Word := q.args.take (q.args.length - 32)

/-- The signature block that ends the arguments (R96). -/
def reqSig (q : MgmtReq) : List Word := q.args.drop (q.args.length - 32)

/-- The words that CMD, SEQ and LEN give a signature, between the nonce and the arguments (R96, R190). -/
def reqLead (q : MgmtReq) (cmd : Word) : List Word := [cmd, q.seq, BitVec.ofNat 16 q.args.length]

/-- The signature block of a request verifies with a key over the nonce, CMD, SEQ, LEN and the arguments before it
(R96). -/
def State.reqSigned (s : State) (key : Option PubKey) (cmd : Word) (q : MgmtReq) : Bool :=
  match s.cfg.nonce with
  | none => false
  | some n => verifyOpt key (sha (words64 n ++ reqLead q cmd ++ (reqBody q))) (reqSig q)

/-- The number of argument words is not the one the command takes. -/
def wrongLen (q : MgmtReq) (n : Nat) : Bool := q.args.length != n

/-- Argument word i. -/
def reqArg (q : MgmtReq) (i : Nat) : Nat := (wordAt q.args i).toNat

/-- A 32-bit argument, low word first. -/
def reqArg32 (q : MgmtReq) (i : Nat) : Nat := (wordAt q.args (i + 1) ++ wordAt q.args i).toNat

/-! ### The commands of R97 -/

/-- GET_STATUS (R97). -/
def State.getStatus (s : State) (q : MgmtReq) : State :=
  s.mgmt 0x01 q { badArg := wrongLen q 0 } (fun (s : State) =>
    s.answer 0x01 q ([s.cfgStatus, s.cfg.reason] ++ lowHigh s.cfg.detail ++ lowHigh s.cfg.imgVer))

/-- GET_NONCE: a fresh nonce, which takes the place of the last one (R96, R97). -/
def State.getNonce (s : State) (q : MgmtReq) : State :=
  s.mgmt 0x02 q { badArg := wrongLen q 0 } (fun (s : State) =>
    let x := s.draw
    let n := Config.freeNonce x.1
    ({ x.2 with cfg := { x.2.cfg with nonce := some n } }).answer 0x02 q (words64 n))

/-- GET_DIGEST (R97). -/
def State.getDigest (s : State) (q : MgmtReq) : State :=
  s.mgmt 0x03 q { badArg := wrongLen q 0 } (fun (s : State) => s.answer 0x03 q (w256Words s.cfg.digest))

/-- LOAD_IMAGE, in BOOT and LOADED but not in RETIRED (R97, R99). -/
def State.loadImage (s : State) (q : MgmtReq) : State :=
  s.mgmt 0x10 q
    { signed := true, badArg := wrongLen q 33 || decide (1 < reqArg q 0), noAuth := !s.reqSigned s.ownerKey 0x10 q,
      notNow := !s.cfg.state.open || s.life == 3 }
    (fun (s : State) => (s.begun 0x10 q).loadGo (reqArg q 0 == 1) false)

/-- ENABLE, in LOADED but not in RETIRED, nor with a dead stack (R97, R99, R453). -/
def State.enable (s : State) (q : MgmtReq) : State :=
  s.mgmt 0x11 q
    { signed := true, badArg := wrongLen q 32, noAuth := !s.reqSigned s.ownerKey 0x11 q,
      notNow := s.cfg.state != .loaded || s.life == 3 || s.stackFailed }
    (fun (s : State) => (s.begun 0x11 q).checkGo)

/-- DISABLE, in RUN at attested speed 0 (R97 to R99). -/
def State.disableCmd (s : State) (q : MgmtReq) : State :=
  s.mgmt 0x12 q
    { signed := true, badArg := wrongLen q 32, noAuth := !s.reqSigned s.ownerKey 0x12 q,
      notNow := s.cfg.state != .run || s.moving }
    (fun (s : State) => s.disable.answer 0x12 q [])

/-! ### SPLIT and JOIN (R371) -/

/-- The engine is not in a state in which it can change to a mode (R371). -/
def State.modeNotNow (s : State) (e : Nat) (toSplit : Bool) : Bool :=
  let x := s.engOf e
  !s.cfg.state.operates || x.state != (if toSplit then .locked else .split) || s.inResync e ||
    (s.coreOf (2 * e)).runst == .halted || (s.coreOf (2 * e + 1)).runst == .halted

/-- The management commands SPLIT and JOIN (R371): the cores stop, and the reset in the new mode follows once the
write buffers are empty. -/
def State.modeCommand (s : State) (cmd : Word) (toSplit : Bool) (q : MgmtReq) : State :=
  let e := reqArg q 0
  s.mgmt cmd q
    { signed := true,
      badArg := wrongLen q 33 || decide (128 ≤ e) || s.gatedEng e || !s.canSwitch e,
      noAuth := !s.reqSigned s.ownerKey cmd q, notNow := s.modeNotNow e toSplit }
    (fun (s : State) => (s.begun cmd q).modEng e (fun x => { x with modeCmd := some ⟨toSplit⟩ }))

/-! ### Reading the biscuit tin and the field record (R513) -/

/-- The entry n where a valid copy of it stands at its place and can be read (R316, R505, R507, R513). -/
def State.tinEntry (s : State) (n : Nat) : Option (List Word) :=
  let p := 32 * bbxPos n
  match bestEntry (s.storeRead (bbxA + p) 32) (s.storeRead (bbxB + p) 32) with
  | some ws => if entrySeq ws = n then some ws else none
  | none => none

/-- The sequence numbers, ascending, that the tin can hold from one asked for: the pinned entries and the last
4,096 of the ring (R505, R513). -/
def State.tinRange (s : State) (first : Nat) : List Nat :=
  let top := if s.bbx.full then 2 ^ 32 else s.bbx.next.toNat
  let from_ := max first (max 32 (top - 4096))
  ((List.range (min 32 top)).filter (fun n => decide (first ≤ n))) ++ (List.range (top - from_)).map (fun i => from_ + i)

/-- The entries that GET_BBX returns (R513). -/
def State.tinFrom (s : State) (first count : Nat) : List (List Word) :=
  if s.nvGone then [] else ((s.tinRange first).filterMap s.tinEntry).take count

/-- A word that no rule gives: the number asked for comes back with nothing at it (R191, R513). -/
def State.freeWords (s : State) (n : Nat) : List Word × State :=
  let x := s.draw
  ((List.range n).map (Config.freeCell x.1), x.2)

/-- GET_BBX (R513). -/
def State.getBbx (s : State) (q : MgmtReq) : State :=
  let c := reqArg q 2
  s.mgmt 0x70 q { badArg := wrongLen q 3 || c == 0 || decide (16 < c), notNow := !s.bbx.ready } (fun (s : State) =>
    let es := s.tinFrom (reqArg32 q 0) c
    match es with
    | [] => let x := s.freeWords 2; x.2.answer 0x70 q (x.1 ++ [0])
    | e :: _ => s.answer 0x70 q ([wordAt e 2, wordAt e 3, BitVec.ofNat 16 es.length] ++ es.flatten))

/-- GET_FIELD (R513). -/
def State.getField (s : State) (q : MgmtReq) : State :=
  let off := reqArg q 0
  let c := reqArg q 1
  s.mgmt 0x71 q
    { badArg := wrongLen q 2 || decide (639 < off) || c == 0 || decide (640 < off + c), notNow := !s.bbx.ready }
    (fun (s : State) => s.answer 0x71 q ((List.range c).map (fun i => s.fldWord (off + i))))

/-! ### The commands -/

/-- MGMT_FRAME_BAD: the frame is discarded without a response; CMD_FRAME goes with each increment of CFG_CMDERR
(R91, R93). -/
def execMgmtFrameBad (t : Nat) (port : MgmtPort) (s : State) : Host.Outcome State Fault Refusal :=
  let s := s.to t
  .next (if !s.mgmtServed port then s
    else
      let s := s.mspiPeriod port
      if s.cfg.cmdErr = 0xFFFF then s
      else ({ s with cfg := { s.cfg with cmdErr := satInc s.cfg.cmdErr } }).raise 0 0x02 2)

/-- UNKNOWN_COMMAND (R94). -/
def execUnknownCommand (t : Nat) (cmd : Word) (req : MgmtReq) (s : State) : Host.Outcome State Fault Refusal :=
  let s := s.to t
  .next (if mgmtCommands.contains cmd || !s.mgmtServed req.port || s.boot.phase == .halted then s
    else (s.mspiPeriod req.port).respond req.port cmd req.seq 1 [])

/-- GET_STATUS (R97). -/
def execGetStatus (t : Nat) (req : MgmtReq) (s : State) : Host.Outcome State Fault Refusal :=
  .next ((s.to t).getStatus req)

/-- GET_NONCE (R96, R97). -/
def execGetNonce (t : Nat) (req : MgmtReq) (s : State) : Host.Outcome State Fault Refusal :=
  .next ((s.to t).getNonce req)

/-- GET_DIGEST (R97). -/
def execGetDigest (t : Nat) (req : MgmtReq) (s : State) : Host.Outcome State Fault Refusal :=
  .next ((s.to t).getDigest req)

/-- LOAD_IMAGE (R77, R97, R99). -/
def execLoadImage (t : Nat) (req : MgmtReq) (s : State) : Host.Outcome State Fault Refusal :=
  .next ((s.to t).loadImage req)

/-- ENABLE (R80, R97, R99). -/
def execEnable (t : Nat) (req : MgmtReq) (s : State) : Host.Outcome State Fault Refusal :=
  .next ((s.to t).enable req)

/-- DISABLE (R97 to R99). -/
def execDisable (t : Nat) (req : MgmtReq) (s : State) : Host.Outcome State Fault Refusal :=
  .next ((s.to t).disableCmd req)

/-- SPLIT_COMMAND (R371). -/
def execSplitCommand (t : Nat) (req : MgmtReq) (s : State) : Host.Outcome State Fault Refusal :=
  .next ((s.to t).modeCommand 0x20 true req)

/-- JOIN_COMMAND (R371). -/
def execJoinCommand (t : Nat) (req : MgmtReq) (s : State) : Host.Outcome State Fault Refusal :=
  .next ((s.to t).modeCommand 0x21 false req)

/-- GET_BBX (R513). -/
def execGetBbx (t : Nat) (req : MgmtReq) (s : State) : Host.Outcome State Fault Refusal :=
  .next ((s.to t).getBbx req)

/-- GET_FIELD (R513). -/
def execGetField (t : Nat) (req : MgmtReq) (s : State) : Host.Outcome State Fault Refusal :=
  .next ((s.to t).getField req)

end Sys2Proof.Machine
end

