-- ==== Sys2Proof/Machine/Custody.lean ====
section
/-!
DEFINITION. The custody commands (R471 to R476).
-/

namespace Sys2Proof.Machine

/-! ### OTP (R473) -/

/-- Programming OTP words from an offset: bits are only ever set. A program that fails leaves some of them set,
free ones (R473). -/
def State.otpProgram (s : State) (w : Nat) (new : List Word) (ok : Bool) : State :=
  let old := s.rds (otpBase + w) new.length
  if ok then s.wrs (otpBase + w) (List.zipWith (fun o n => o ||| n) old new)
  else
    let x := s.freeWords new.length
    x.2.wrs (otpBase + w) (List.zipWith (fun o n => o ||| n) old (List.zipWith (fun f n => f &&& n) x.1 new))

/-- A nonzero word that no rule gives: lifecycle marks, PRESENT and REVOKED (R471, R473). -/
def State.markWord (s : State) : Word × State :=
  let x := s.draw
  let w := Config.freeWord x.1
  (if w = 0 then 1 else w, x.2)

/-- Programming a mark. -/
def State.otpMark (s : State) (w : Nat) (ok : Bool) : State :=
  let x := s.markWord
  x.2.otpProgram w [x.1] ok

/-- A change of lifecycle closes the debug session (R471, R491). -/
def State.lifeMark (s : State) (n : Nat) (ok : Bool) : State :=
  let s' := s.otpMark n ok
  if s'.life = s.life then s' else s'.dbgClose

/-- The answer of a command that programs OTP: BAD_ARG, with OTP_ERR, where that failed (R473). -/
def State.otpAnswer (s : State) (cmd : Word) (q : MgmtReq) (ok : Bool) (results : List Word) : State :=
  if ok then s.answer cmd q results else (s.raise 0 0x0B 3).respond q.port cmd q.seq 2 []

/-! ### Signers (R474, R475) -/

/-- Kind of a SIGNER word: 0 vendor, 1 owner, 2 authority. -/
def signerKind (q : MgmtReq) : Nat := bits (reqArg q 0) 1 0

/-- SIGNER has nonzero reserved bits (R475). -/
def signerBad (q : MgmtReq) : Bool := decide (16 ≤ reqArg q 0)

/-- The signer's kind is accepted, its key is there and its signature verifies (R475). -/
def State.custodyAuth (s : State) (kinds : List Nat) (cmd : Word) (q : MgmtReq) : Bool :=
  kinds.contains (signerKind q) && s.reqSigned (s.signerKey (wordAt q.args 0)) cmd q

/-- An authorised custody command: `len` argument words, SIGNER and signature block among them (R475). -/
def State.custody (s : State) (cmd : Word) (q : MgmtReq) (len : Nat) (kinds : List Nat) (badArg noAuth notNow : Bool)
    (run : State → State) : State :=
  s.mgmt cmd q
    { signed := true, badArg := wrongLen q len || (signerBad q) || badArg,
      noAuth := noAuth || !s.custodyAuth kinds cmd q, notNow := notNow } run

/-- The lifecycle is PROVISIONED or SEALED. -/
def State.inService (s : State) : Bool := s.life == 1 || s.life == 2

/-- A root is valid (R474). -/
def State.rootValid (s : State) (i : Nat) : Bool := (s.authRoot i).isSome

/-- The 32 words of a public key: X then Y (R473). -/
def keyWords (k : PubKey) : List Word := w256Words k.1 ++ w256Words k.2

/-- The ledger public key of the present enrolment (R474). -/
def State.ledgerPub (s : State) : PubKey := pubOf (Config.ledgerKey s.cus.enrols).toNat

/-- The PUF is enrolled: helper data for a new device key (R474, R476). -/
def State.enrolPuf (s : State) : State :=
  { s with cus := { s.cus with enrols := s.cus.enrols + 1, helper := true, keyOk := true } }

/-! ### The commands of R475 -/

/-- GET_CUSTODY (R475). -/
def State.getCustody (s : State) (q : MgmtReq) : State :=
  s.mgmt 0x60 q { badArg := wrongLen q 0 } (fun (s : State) =>
    s.answer 0x60 q ([s.view 0 0x0B 0, s.view 0 0x0B 1] ++ lowHigh (BitVec.ofNat 32 s.sealEpoch) ++
      lowHigh (BitVec.ofNat 32 s.fwCounter) ++ words64 (Config.dieUid 0)))

/-- GET_LCERT (R475). -/
def State.getLcert (s : State) (q : MgmtReq) : State :=
  s.mgmt 0x61 q { badArg := wrongLen q 1 || decide (3 < reqArg q 0) } (fun (s : State) =>
    s.answer 0x61 q (s.certWords (reqArg q 0)))

/-- Programming one root of those that ENROL names: its key, then PRESENT (R473, R476). -/
def State.writeRoot (s : State) (q : MgmtReq) (ok : Bool) (i : Nat) : State :=
  if bit (reqArg q 1) i then
    (s.otpProgram (0x10 + 0x40 * i) ((q.args.drop (2 + 32 * i)).take 32) ok).otpMark (0x10 + 0x40 * i + 32) ok
  else s

/-- No root is present (R475). -/
def State.noRoot (s : State) : Bool := [0, 1, 2, 3].all (fun i => s.otp (0x10 + 0x40 * i + 32) == 0)

/-- ENROL (R475, R476). -/
def State.enrol (s : State) (q : MgmtReq) (ok : Bool) : State :=
  s.custody 0x62 q 162 [0] (decide (16 ≤ reqArg q 1)) false (s.life != 0 || !s.noRoot) (fun (s : State) =>
    let s := [0, 1, 2, 3].foldl (fun (s : State) i => s.writeRoot q ok i) s.enrolPuf
    s.otpAnswer 0x62 q ok (keyWords s.ledgerPub))

/-- The lowest empty certificate slot (R476). -/
def State.emptyCert (s : State) : Option Nat := [0, 1, 2, 3].find? (fun n => !s.certWritten n)

/-- The certificate is not one for this device: DIE_UID or key differ, its root is invalid, or its signature fails
(R475). With KEYOK 0 there is no key to differ from. -/
def State.certWrong (s : State) (c : List Word) : Bool :=
  c.take 4 != words64 (Config.dieUid 0) || (s.cus.keyOk && certKeyWords c != keyWords s.ledgerPub) ||
    !verifyOpt (s.authRoot (wordAt c 36).toNat) (sha (c.take 44)) (c.drop 44)
where
  /-- The key words of a certificate (R183). -/
  certKeyWords (c : List Word) : List Word := (c.drop 4).take 32

/-- INSTALL_LCERT (R475, R476). -/
def State.installLcert (s : State) (q : MgmtReq) (ok : Bool) : State :=
  s.mgmt 0x63 q
    { badArg := wrongLen q 76 || s.certWrong q.args || s.emptyCert.isNone, notNow := s.life == 3 || !s.cus.keyOk }
    (fun (s : State) =>
      let n := s.emptyCert.getD 0
      (s.otpProgram (certOff n) q.args ok).otpAnswer 0x63 q ok [BitVec.ofNat 16 n])

/-- SET_OWNER (R475, R477). -/
def State.setOwner (s : State) (q : MgmtReq) : State :=
  s.custody 0x64 q 65 (if s.life = 0 then [0] else [1, 2]) false false (s.life == 3) (fun (s : State) =>
    ({ s with cus := { s.cus with owner := some ((q.args.drop 1).take 32) } }).answer 0x64 q [])

/-- PROVISION (R475, R476). -/
def State.provision (s : State) (q : MgmtReq) (ok : Bool) : State :=
  s.custody 0x65 q 33 [0] false false
    (s.life != 0 || !([0, 1, 2, 3].any s.rootValid) || !([0, 1, 2, 3].any s.certWritten) || s.cus.owner.isNone)
    (fun (s : State) => (s.lifeMark 1 ok).otpAnswer 0x65 q ok [])

/-- SEAL (R475, R476). -/
def State.sealDevice (s : State) (q : MgmtReq) (ok : Bool) : State :=
  s.custody 0x66 q 33 [2] false false (s.life != 1 || !s.cfg.state.open) (fun (s : State) =>
    (s.lifeMark 2 ok).otpAnswer 0x66 q ok [])

/-- ADVANCE_EPOCH (R473, R475). -/
def State.advanceEpoch (s : State) (q : MgmtReq) (ok : Bool) : State :=
  let epoch := reqArg32 q 1
  s.custody 0x67 q 35 [2] (decide (epoch ≤ s.sealEpoch) || decide (32768 < epoch)) false (!s.inService) (fun (s : State) =>
    (s.otpProgram 0x800 (otpSet (epoch - s.sealEpoch) (s.rds (otpBase + 0x800) 0x800)) ok).otpAnswer 0x67 q ok [])

/-- REVOKE_ROOT (R474, R475): one that names an empty or revoked root fails as a signature does. -/
def State.revokeRoot (s : State) (q : MgmtReq) (ok : Bool) : State :=
  let i := reqArg q 1
  s.custody 0x68 q 34 [2]
    (decide (3 < i) || !(([0, 1, 2, 3].filter (fun k => k != i)).any s.rootValid) ||
      ((signerKind q) == 2 && bits (reqArg q 0) 3 2 == i))
    (!s.rootValid i) (!s.inService) (fun (s : State) => (s.otpMark (0x10 + 0x40 * i + 33) ok).otpAnswer 0x68 q ok [])

/-- REENROL (R475, R484). -/
def State.reenrol (s : State) (q : MgmtReq) : State :=
  s.custody 0x69 q 33 [2] false false (!s.inService || !s.cus.zeroed) (fun (s : State) =>
    let s := s.enrolPuf
    ({ s with cus := { s.cus with zeroed := false } }).answer 0x69 q (keyWords s.ledgerPub))

/-- The secret part of the key store is erased: the session keys of the ports (R474, R476). -/
def State.eraseSessionKeys (s : State) : State :=
  (List.range 2).foldl (fun (s : State) p => s.modPdie p (fun d => { d with sa := [], saKey := [] })) s

/-- The last records of the ledger: CONFIG cause 5, and the close that follows it (R187, R476). -/
def State.ledgerEnds (s : State) : State :=
  let s := s.configRecord 5 s.cfg.stagedSlot
  { s with ldg := { s.ldg with closeCause := some 6, frozen := true } }

/-- RETIRE (R475, R476). -/
def State.retire (s : State) (q : MgmtReq) (ok : Bool) : State :=
  s.custody 0x6A q 33 (if s.life = 0 then [0, 2] else [2]) false false (s.life == 3 || s.moving) (fun (s : State) =>
    let s := if s.cfg.state = .run then s.disable else s
    let s := s.ledgerEnds.eraseSessionKeys
    (s.lifeMark 3 ok).otpAnswer 0x6A q ok [])

/-! ### Execution -/

/-- GET_CUSTODY (R475). -/
def execGetCustody (t : Nat) (req : MgmtReq) (s : State) : Host.Outcome State Fault Refusal :=
  .next ((s.to t).getCustody req)

/-- GET_LCERT (R475). -/
def execGetLcert (t : Nat) (req : MgmtReq) (s : State) : Host.Outcome State Fault Refusal :=
  .next ((s.to t).getLcert req)

/-- ENROL (R475, R476). -/
def execEnrol (t : Nat) (req : MgmtReq) (otpOk : Bool) (s : State) : Host.Outcome State Fault Refusal :=
  .next ((s.to t).enrol req otpOk)

/-- INSTALL_LCERT (R475, R476). -/
def execInstallLcert (t : Nat) (req : MgmtReq) (otpOk : Bool) (s : State) : Host.Outcome State Fault Refusal :=
  .next ((s.to t).installLcert req otpOk)

/-- SET_OWNER (R475). -/
def execSetOwner (t : Nat) (req : MgmtReq) (s : State) : Host.Outcome State Fault Refusal :=
  .next ((s.to t).setOwner req)

/-- PROVISION (R475, R476). -/
def execProvision (t : Nat) (req : MgmtReq) (otpOk : Bool) (s : State) : Host.Outcome State Fault Refusal :=
  .next ((s.to t).provision req otpOk)

/-- SEAL (R475, R476). -/
def execSealDevice (t : Nat) (req : MgmtReq) (otpOk : Bool) (s : State) : Host.Outcome State Fault Refusal :=
  .next ((s.to t).sealDevice req otpOk)

/-- ADVANCE_EPOCH (R475). -/
def execAdvanceEpoch (t : Nat) (req : MgmtReq) (otpOk : Bool) (s : State) : Host.Outcome State Fault Refusal :=
  .next ((s.to t).advanceEpoch req otpOk)

/-- REVOKE_ROOT (R475). -/
def execRevokeRoot (t : Nat) (req : MgmtReq) (otpOk : Bool) (s : State) : Host.Outcome State Fault Refusal :=
  .next ((s.to t).revokeRoot req otpOk)

/-- REENROL (R475, R476). -/
def execReenrol (t : Nat) (req : MgmtReq) (s : State) : Host.Outcome State Fault Refusal :=
  .next ((s.to t).reenrol req)

/-- RETIRE (R475, R476). -/
def execRetire (t : Nat) (req : MgmtReq) (otpOk : Bool) (s : State) : Host.Outcome State Fault Refusal :=
  .next ((s.to t).retire req otpOk)

end Sys2Proof.Machine
end

