-- ==== Sys2Proof/Machine/Gnomi.lean ====
section
/-!
DEFINITION. The Gnomi read-out of the ledger (R188 to R191).
-/

namespace Sys2Proof.Machine

/-- A Gnomi command starts the 60 s of the open session anew (R190). -/
def State.gnomiHeard (s : State) : State :=
  { s with ldg := { s.ldg with session := s.ldg.session.map (fun g => { g with lastCmd := s.now }) } }

/-- The seconds in three words of a certificate, low word first (R188). -/
def certSecs (c : List Word) (i : Nat) : Nat := ofWordsLow ((c.drop i).take 3)

/-- An inspector certificate verifies with the OTP root it names, and is valid now (R188). -/
def State.inspectorOk (s : State) (c : List Word) : Bool :=
  verifyOpt (s.authRoot (wordAt c 36).toNat) (sha (c.take 44)) ((c.drop 44).take 32) &&
    decide (certSecs c 37 ≤ s.timeSec.toNat) && decide (s.timeSec.toNat ≤ certSecs c 40) && s.time.tq != .unset

/-- The key of an inspector certificate (R188). -/
def certKey (c : List Word) : PubKey := (wordsW256 (c.drop 4), wordsW256 (c.drop 20))

/-- The signature of GNOMI_OPEN verifies over the HELLO nonce, CMD, SEQ, LEN and the certificate (R190). -/
def State.openSigned (s : State) (q : MgmtReq) : Bool :=
  match s.ldg.helloNonce with
  | none => false
  | some n => verifyBlock (certKey q.args) (sha (words64 n ++ reqLead q 0x41 ++ (reqBody q))) (reqSig q)

/-- A Gnomi session with a right is open (R188, R190). -/
def State.gnomiMay (s : State) (right : Nat) : Bool :=
  match s.ldg.session with
  | none => false
  | some g => g.rights.getLsbD right

/-- The records held in MRAM from a SEQ on, ascending, at most `count` (R184, R191). -/
def State.heldFrom (s : State) (first count : Nat) : List (List Word) :=
  if s.nvGone then [] else (s.ldg.copyA.ring.reverse.filter (fun r => decide (first ≤ recSeq r))).take count

/-- GNOMI_HELLO: the certificate is that of the highest written slot (R189, R476). -/
def State.gnomiHello (s : State) (q : MgmtReq) : State :=
  s.gnomiHeard.mgmt 0x40 q { badArg := wrongLen q 0 } (fun (s : State) =>
    let x := s.draw
    let n := Config.freeNonce x.1
    let s := x.2
    ({ s with ldg := { s.ldg with helloNonce := some n } }).answer 0x40 q
      (words64 (Config.dieUid 0) ++ s.certWords s.certSlot ++ words64 s.ldg.seq ++ w256Words s.ldg.head ++ words64 n))

/-- GNOMI_OPEN: the session, with its ACTIVITY record (R177, R190). -/
def State.gnomiOpen (s : State) (q : MgmtReq) : State :=
  let c := q.args.take 76
  s.gnomiHeard.mgmt 0x41 q
    { badArg := wrongLen q 108, noAuth := !s.inspectorOk c || !s.openSigned q, busy := s.ldg.session.isSome }
    (fun (s : State) =>
      let s := { s with ldg := { s.ldg with session := some ⟨c, (wordAt c 43).setWidth 2, s.now⟩ } }
      (s.activityRecord 15 4 { number := c.take 4 }).answer 0x41 q [])

/-- GNOMI_READ (R189, R191). -/
def State.gnomiRead (s : State) (q : MgmtReq) : State :=
  let c := reqArg q 4
  s.gnomiHeard.mgmt 0x42 q { badArg := wrongLen q 5 || c == 0 || decide (8 < c), noAuth := !s.gnomiMay 0 }
    (fun (s : State) =>
      let rs := s.heldFrom (ofWordsLow (q.args.take 4)) c
      match rs with
      | [] => let x := s.freeWords 4; x.2.answer 0x42 q (x.1 ++ [0])
      | r :: _ => s.answer 0x42 q (wordsLow 4 (recSeq r) ++ [BitVec.ofNat 16 rs.length] ++ rs.flatten))

/-- The records of an archive entry: the archived ones, then the BATCH_SIGN (R191). -/
def ArchEntry.all (e : ArchEntry) : List (List Word) := e.records ++ [e.sign]

/-- GNOMI_ARCH (R189, R191). -/
def State.gnomiArch (s : State) (q : MgmtReq) : State :=
  let first := reqArg q 2
  let c := reqArg q 3
  s.gnomiHeard.mgmt 0x43 q { badArg := wrongLen q 4 || c == 0 || decide (8 < c), noAuth := !s.gnomiMay 1 }
    (fun (s : State) =>
      match s.ldg.archive[reqArg32 q 0]? with
      | none => let x := s.freeWords 1; x.2.answer 0x43 q (q.args.take 2 ++ [0] ++ x.1 ++ [0])
      | some e =>
        let n := BitVec.ofNat 16 e.records.length
        match (e.all.drop first).take c with
        | [] => let x := s.freeWords 1; x.2.answer 0x43 q (q.args.take 2 ++ [n] ++ x.1 ++ [0])
        | rs => s.answer 0x43 q
            (q.args.take 2 ++ [n, BitVec.ofNat 16 first, BitVec.ofNat 16 rs.length] ++ rs.flatten))

/-- GNOMI_CLOSE (R189, R190). -/
def State.gnomiClose (s : State) (q : MgmtReq) : State :=
  s.gnomiHeard.mgmt 0x44 q { badArg := wrongLen q 0, noAuth := s.ldg.session.isNone } (fun (s : State) =>
    ({ s with ldg := { s.ldg with session := none } }).answer 0x44 q [])

/-- A session ends 60 s after the last Gnomi command (R190). -/
def State.gnomiEnds (s : State) : State :=
  match s.ldg.session with
  | none => s
  | some g => if s.now < g.lastCmd + 60 * secCk1 then s else { s with ldg := { s.ldg with session := none } }

/-- GNOMI_HELLO (R189). -/
def execGnomiHello (t : Nat) (req : MgmtReq) (s : State) : Host.Outcome State Fault Refusal :=
  .next ((s.to t).gnomiHello req)

/-- GNOMI_OPEN (R188 to R190). -/
def execGnomiOpen (t : Nat) (req : MgmtReq) (s : State) : Host.Outcome State Fault Refusal :=
  .next ((s.to t).gnomiOpen req)

/-- GNOMI_READ (R189, R191). -/
def execGnomiRead (t : Nat) (req : MgmtReq) (s : State) : Host.Outcome State Fault Refusal :=
  .next ((s.to t).gnomiRead req)

/-- GNOMI_ARCH (R189, R191). -/
def execGnomiArch (t : Nat) (req : MgmtReq) (s : State) : Host.Outcome State Fault Refusal :=
  .next ((s.to t).gnomiArch req)

/-- GNOMI_CLOSE (R189, R190). -/
def execGnomiClose (t : Nat) (req : MgmtReq) (s : State) : Host.Outcome State Fault Refusal :=
  .next ((s.to t).gnomiClose req)

/-- GNOMI_TIMEOUT (R190). -/
def execGnomiTimeout (t : Nat) (s : State) : Host.Outcome State Fault Refusal := .next (s.to t).gnomiEnds

end Sys2Proof.Machine
end

