-- ==== Sys2Proof/Machine/Lattice.lean ====
section
/-!
DEFINITION. The commands of the frame clock, the slot clears and the motion table.
-/

namespace Sys2Proof.Machine

/-- FRAME_BOUNDARY (R100, R103, R104, R128, R129). -/
def execFrameBoundary (t : Nat) (s : State) : Host.Outcome State Fault Refusal := .next (s.to t).frameBoundary

/-- INTAKE_CUTOFF (R102, R114). -/
def execIntakeCutoff (t : Nat) (s : State) : Host.Outcome State Fault Refusal := .next (s.to t).intakeCutoff

/-- CLEAR_WRITE (R130, R308). -/
def execClearWrite (t : Nat) (parity : Word) (s : State) : Host.Outcome State Fault Refusal :=
  .next ((s.to t).clearWrite parity)

/-- SLOT_CLEAR_END (R104, R308). -/
def execSlotClearEnd (t : Nat) (s : State) : Host.Outcome State Fault Refusal := .next (s.to t).clearEnd

/-- SAMPLE_STEP (R171, R172, R196). -/
def execSampleStep (t : Nat) (s : State) : Host.Outcome State Fault Refusal := .next (s.to t).sampleStep

/-- MOTION_SAMPLE_PUBLISH (R123, R124). -/
def execMotionSamplePublish (t : Nat) (next : Bool) (k : Int) (s : State) : Host.Outcome State Fault Refusal :=
  .next ((s.to t).publish next k)

/-- EGO_STALE (R124). -/
def execEgoStale (t : Nat) (s : State) : Host.Outcome State Fault Refusal := .next (s.to t).egoStale

end Sys2Proof.Machine
end

