-- ==== Sys2Proof/Machine/Update.lean ====
section
/-!
DEFINITION. The update commands (R464 to R468).
-/

namespace Sys2Proof.Machine

/-- A slot is active: the firmware that booted, the image that is staged, the pack of an expansion that is RUNNING
or READY (R464). -/
def State.slotActive (s : State) (k : Nat) (slot : Bool) : Bool :=
  if k = 0 then s.boot.phase == .firmware && (s.bootKind 0).slot == slot
  else if k = 1 then s.cfg.staged && s.cfg.stagedSlot == slot
  else (s.lat.pack.state == .running || s.lat.pack.state == .ready) && s.lat.pack.slot == slot

/-- The slot of the session, as kind and slot. -/
def State.updActive (s : State) : Bool :=
  s.boot.upd.state != 0 && s.slotActive s.boot.upd.kind.toNat s.boot.upd.slot

/-- The sectors that UPD_BEGIN erases, by word address divided by 65,536: those of the content, then that of the
validity word, each once (R465). -/
def eraseList (k : Nat) (slot : Bool) (len : Nat) : List Nat :=
  ((List.range ((len + 65535) / 65536)).map (fun i => slotWord k slot / 65536 + i) ++ [validAt k slot / 65536]).eraseDups

/-- UPD_BEGIN (R464, R465); in recovery for firmware slots only (R458). -/
def State.updBegin (s : State) (q : MgmtReq) : State :=
  let k := reqArg q 0
  let slot := reqArg q 1 == 1
  let len := reqArg32 q 2
  s.mgmt 0x50 q
    { signed := true,
      badArg := wrongLen q 52 || decide (2 < k) || decide (1 < reqArg q 1) || len == 0 || decide (slotSize k - 1 < len),
      noAuth := !s.reqSigned s.ownerKey 0x50 q, busy := s.boot.upd.state != 0,
      notNow := s.slotActive k slot || s.life == 3 || (s.boot.phase == .recovery && k != 0) }
    (fun (s : State) =>
      let s := s.setSlotRec k slot {}
      let u : UpdSt :=
        { state := 1, kind := BitVec.ofNat 2 k, slot := slot, len := len, hash := wordsW256 (q.args.drop 4),
          toErase := eraseList k slot len }
      ({ s with boot := { s.boot with upd := u } }).answer 0x50 q [])

/-- A range of words of the slot lies in a sector that is not yet erased (R464). -/
def State.unerased (s : State) (a n : Nat) : Bool :=
  s.boot.upd.toErase.any (fun x => decide (65536 * x < a + n) && decide (a < 65536 * (x + 1)))

/-- Words programmed whose read-back differs: what stands in their place is free, and the session is FAILED with
cause PROGFAIL (R466). -/
def State.progFail (s : State) (a n : Nat) : State :=
  let x := s.freeWords n
  let s := if s.nvGone then s else x.2.store a x.1
  ({ s with boot := { s.boot with upd := { s.boot.upd with state := 3, cause := 2 } } }).updEntry 3

/-- UPD_WRITE (R464, R466). -/
def State.updWrite (s : State) (q : MgmtReq) (ok : Bool) : State :=
  let u := s.boot.upd
  let off := reqArg32 q 0
  let n := q.args.length - 2
  let a := slotWord u.kind.toNat u.slot + off
  s.mgmt 0x51 q
    { badArg := decide (q.args.length < 3) || decide (962 < q.args.length) || (u.state != 0 && decide (u.len < off + n)),
      noAuth := u.state == 0, busy := s.unerased a n, notNow := u.state == 3 || s.life == 3 || s.updActive }
    (fun (s : State) =>
      let s := if ok && !s.nvGone then s.store a (q.args.drop 2) else s.progFail a n
      s.answer 0x51 q [])

/-- The highest GEN of a kind (R467). -/
def State.topGen (s : State) (k : Nat) : BitVec 32 :=
  if (s.slotRec k false).gen.toNat < (s.slotRec k true).gen.toNat then (s.slotRec k true).gen else (s.slotRec k false).gen

/-- The session ends well: the slot's entry, the validity word, and the session closed (R467). -/
def State.updDone (s : State) : State :=
  let u := s.boot.upd
  let k := u.kind.toNat
  let s := (s.setSlotRec k u.slot { gen := s.topGen k + 1, state := slotTrial }).store (validAt k u.slot) [0x5A3C]
  { s with boot := { s.boot with upd := {} } }

/-- The content words of the session have the hash that UPD_BEGIN gave (R467); without the NV die there are none to
read (assumption 85). -/
def State.updMatches (s : State) : Bool :=
  let u := s.boot.upd
  !s.nvGone && sha (s.rds (slotWord u.kind.toNat u.slot) u.len) == u.hash

/-- UPD_COMMIT; in recovery a warm reset follows the response of one that succeeds (R458, R464, R467). -/
def State.updCommit (s : State) (q : MgmtReq) : State :=
  let u := s.boot.upd
  s.mgmt 0x52 q
    { badArg := wrongLen q 0, noAuth := u.state == 0, notNow := u.state == 3 || s.life == 3 || s.updActive }
    (fun (s : State) =>
      if s.updMatches then
        let s := s.updDone.answer 0x52 q [0]
        if s.boot.phase = .recovery then s.warmReset .resetN false else s
      else s.answer 0x52 q [1])

/-- UPD_ABORT (R464, R467). -/
def State.updAbort (s : State) (q : MgmtReq) : State :=
  s.mgmt 0x53 q
    { badArg := wrongLen q 0, noAuth := s.boot.upd.state == 0, notNow := s.life == 3 || s.updActive }
    (fun (s : State) => s.updDrop.answer 0x53 q [])

/-- UPD_BEGIN (R465). -/
def execUpdBegin (t : Nat) (req : MgmtReq) (s : State) : Host.Outcome State Fault Refusal :=
  .next ((s.to t).updBegin req)

/-- UPD_WRITE (R466): `ok` where the read-back agrees. -/
def execUpdWrite (t : Nat) (req : MgmtReq) (ok : Bool) (s : State) : Host.Outcome State Fault Refusal :=
  .next ((s.to t).updWrite req ok)

/-- UPD_COMMIT (R467). -/
def execUpdCommit (t : Nat) (req : MgmtReq) (s : State) : Host.Outcome State Fault Refusal :=
  .next ((s.to t).updCommit req)

/-- UPD_ABORT (R467). -/
def execUpdAbort (t : Nat) (req : MgmtReq) (s : State) : Host.Outcome State Fault Refusal :=
  .next ((s.to t).updAbort req)

end Sys2Proof.Machine
end

