-- ==== Sys2Proof/Machine/Dispatch.lean ====
section
/-!
DEFINITION. The dispatch of the commands to their meanings, one arm for each row of the opcode table.
-/

namespace Sys2Proof.Machine

def exec (i : Instr) (s : State) : Host.Outcome State Fault Refusal :=
  match i with
  | .registerWrite t m addr v => Sys2Proof.Machine.execRegisterWrite t m addr v s
  | .powerGood t railsOk vbatLost elapsed => Sys2Proof.Machine.execPowerGood t railsOk vbatLost elapsed s
  | .powerOnDetectorRelease t => Sys2Proof.Machine.execPowerOnDetectorRelease t s
  | .powerLoss t vholdGood => Sys2Proof.Machine.execPowerLoss t vholdGood s
  | .flushDeadline t => Sys2Proof.Machine.execFlushDeadline t s
  | .resetNRequest t => Sys2Proof.Machine.execResetNRequest t s
  | .ledgerFlushEnd t => Sys2Proof.Machine.execLedgerFlushEnd t s
  | .trifleStart t voteTestFail => Sys2Proof.Machine.execTrifleStart t voteTestFail s
  | .rstoutRelease t => Sys2Proof.Machine.execRstoutRelease t s
  | .firmwareStart t => Sys2Proof.Machine.execFirmwareStart t s
  | .enumAnswer t seat ccwLane hops type => Sys2Proof.Machine.execEnumAnswer t seat ccwLane hops type s
  | .enumerationEnd t => Sys2Proof.Machine.execEnumerationEnd t s
  | .heartbeatSend t die => Sys2Proof.Machine.execHeartbeatSend t die s
  | .heartbeatDue t die => Sys2Proof.Machine.execHeartbeatDue t die s
  | .linkTrainingEnd t die link ok repaired => Sys2Proof.Machine.execLinkTrainingEnd t die link ok repaired s
  | .linkDown t die => Sys2Proof.Machine.execLinkDown t die s
  | .dieFence t m v => Sys2Proof.Machine.execDieFence t m v s
  | .alignmentMarker t offPhase => Sys2Proof.Machine.execAlignmentMarker t offPhase s
  | .monitorWindow t refCount ck8Count lockFell => Sys2Proof.Machine.execMonitorWindow t refCount ck8Count lockFell s
  | .monDead t => Sys2Proof.Machine.execMonDead t s
  | .pllLockLoss t p1 pllB => Sys2Proof.Machine.execPllLockLoss t p1 pllB s
  | .cfgCtrlLoad t m v => Sys2Proof.Machine.execCfgCtrlLoad t m v s
  | .cfgCtrlEn t m v => Sys2Proof.Machine.execCfgCtrlEn t m v s
  | .loadComplete t => Sys2Proof.Machine.execLoadComplete t s
  | .checkComplete t => Sys2Proof.Machine.execCheckComplete t s
  | .mgmtFrameBad t port => Sys2Proof.Machine.execMgmtFrameBad t port s
  | .unknownCommand t cmd req => Sys2Proof.Machine.execUnknownCommand t cmd req s
  | .getStatus t req => Sys2Proof.Machine.execGetStatus t req s
  | .getNonce t req => Sys2Proof.Machine.execGetNonce t req s
  | .getDigest t req => Sys2Proof.Machine.execGetDigest t req s
  | .loadImage t req => Sys2Proof.Machine.execLoadImage t req s
  | .enable t req => Sys2Proof.Machine.execEnable t req s
  | .disable t req => Sys2Proof.Machine.execDisable t req s
  | .frameBoundary t => Sys2Proof.Machine.execFrameBoundary t s
  | .intakeCutoff t => Sys2Proof.Machine.execIntakeCutoff t s
  | .clearWrite t parity => Sys2Proof.Machine.execClearWrite t parity s
  | .slotClearEnd t => Sys2Proof.Machine.execSlotClearEnd t s
  | .sifterBatchStart t n => Sys2Proof.Machine.execSifterBatchStart t n s
  | .sifterPointTake t n mism => Sys2Proof.Machine.execSifterPointTake t n mism s
  | .sifterDiscardPop t n => Sys2Proof.Machine.execSifterDiscardPop t n s
  | .sampleStep t => Sys2Proof.Machine.execSampleStep t s
  | .motionSamplePublish t next k => Sys2Proof.Machine.execMotionSamplePublish t next k s
  | .egoStale t => Sys2Proof.Machine.execEgoStale t s
  | .latPctrlGo t m v => Sys2Proof.Machine.execLatPctrlGo t m v s
  | .expansionComplete t => Sys2Proof.Machine.execExpansionComplete t s
  | .verdictFlitPop t voterDiffer => Sys2Proof.Machine.execVerdictFlitPop t voterDiffer s
  | .deadline t voterDiffer => Sys2Proof.Machine.execDeadline t voterDiffer s
  | .vetoToggle t => Sys2Proof.Machine.execVetoToggle t s
  | .vdgPin t => Sys2Proof.Machine.execVdgPin t s
  | .ppsIn t => Sys2Proof.Machine.execPpsIn t s
  | .timeAdj t m v => Sys2Proof.Machine.execTimeAdj t m v s
  | .timeStep t m v => Sys2Proof.Machine.execTimeStep t m v s
  | .timeSync t m v => Sys2Proof.Machine.execTimeSync t m v s
  | .timeHold t => Sys2Proof.Machine.execTimeHold t s
  | .holdoverUncStep t => Sys2Proof.Machine.execHoldoverUncStep t s
  | .msPairing t ok => Sys2Proof.Machine.execMsPairing t ok s
  | .positionFix t fix => Sys2Proof.Machine.execPositionFix t fix s
  | .ledgerRecordHandover t r => Sys2Proof.Machine.execLedgerRecordHandover t r s
  | .ledgerChain t => Sys2Proof.Machine.execLedgerChain t s
  | .ledgerWriteDone t => Sys2Proof.Machine.execLedgerWriteDone t s
  | .batchTimer t => Sys2Proof.Machine.execBatchTimer t s
  | .batchSignDone t ok => Sys2Proof.Machine.execBatchSignDone t ok s
  | .archiveWrite t ok => Sys2Proof.Machine.execArchiveWrite t ok s
  | .gnomiHello t req => Sys2Proof.Machine.execGnomiHello t req s
  | .gnomiOpen t req => Sys2Proof.Machine.execGnomiOpen t req s
  | .gnomiRead t req => Sys2Proof.Machine.execGnomiRead t req s
  | .gnomiArch t req => Sys2Proof.Machine.execGnomiArch t req s
  | .gnomiClose t req => Sys2Proof.Machine.execGnomiClose t req s
  | .gnomiTimeout t => Sys2Proof.Machine.execGnomiTimeout t s
  | .interruptEntry t c => Sys2Proof.Machine.execInterruptEntry t c s
  | .timerLine t c => Sys2Proof.Machine.execTimerLine t c s
  | .writeBufferDrain t c => Sys2Proof.Machine.execWriteBufferDrain t c s
  | .writeBufferAck t c err => Sys2Proof.Machine.execWriteBufferAck t c err s
  | .engSwint t m c v => Sys2Proof.Machine.execEngSwint t m c v s
  | .add t c d x => Sys2Proof.Machine.execAdd t c d x s
  | .addc t c d x => Sys2Proof.Machine.execAddc t c d x s
  | .sub t c d x => Sys2Proof.Machine.execSub t c d x s
  | .subb t c d x => Sys2Proof.Machine.execSubb t c d x s
  | .adds t c d x => Sys2Proof.Machine.execAdds t c d x s
  | .subs t c d x => Sys2Proof.Machine.execSubs t c d x s
  | .and t c d x => Sys2Proof.Machine.execAnd t c d x s
  | .or t c d x => Sys2Proof.Machine.execOr t c d x s
  | .xor t c d x => Sys2Proof.Machine.execXor t c d x s
  | .cmp t c d x => Sys2Proof.Machine.execCmp t c d x s
  | .tst t c d x => Sys2Proof.Machine.execTst t c d x s
  | .mov t c d x => Sys2Proof.Machine.execMov t c d x s
  | .shl t c d x => Sys2Proof.Machine.execShl t c d x s
  | .shls t c d x => Sys2Proof.Machine.execShls t c d x s
  | .shr t c d x => Sys2Proof.Machine.execShr t c d x s
  | .sar t c d x => Sys2Proof.Machine.execSar t c d x s
  | .rol t c d x => Sys2Proof.Machine.execRol t c d x s
  | .ror t c d x => Sys2Proof.Machine.execRor t c d x s
  | .mul t c d x => Sys2Proof.Machine.execMul t c d x s
  | .mulu t c d x => Sys2Proof.Machine.execMulu t c d x s
  | .mulq t c d x => Sys2Proof.Machine.execMulq t c d x s
  | .div t c d x => Sys2Proof.Machine.execDiv t c d x s
  | .divu t c d x => Sys2Proof.Machine.execDivu t c d x s
  | .divs t c d x => Sys2Proof.Machine.execDivs t c d x s
  | .rem t c d x => Sys2Proof.Machine.execRem t c d x s
  | .mac t c d ds k => Sys2Proof.Machine.execMac t c d ds k s
  | .macs t c d ds k => Sys2Proof.Machine.execMacs t c d ds k s
  | .neg t c d => Sys2Proof.Machine.execNeg t c d s
  | .negs t c d => Sys2Proof.Machine.execNegs t c d s
  | .abs t c d => Sys2Proof.Machine.execAbs t c d s
  | .abss t c d => Sys2Proof.Machine.execAbss t c d s
  | .not t c d => Sys2Proof.Machine.execNot t c d s
  | .clz t c d => Sys2Proof.Machine.execClz t c d s
  | .popc t c d => Sys2Proof.Machine.execPopc t c d s
  | .movFromAcc t c d k x => Sys2Proof.Machine.execMovFromAcc t c d k x s
  | .movToAcc t c d k x => Sys2Proof.Machine.execMovToAcc t c d k x s
  | .movFromPred t c d p h => Sys2Proof.Machine.execMovFromPred t c d p h s
  | .movToPred t c d p h => Sys2Proof.Machine.execMovToPred t c d p h s
  | .movi t c d imm6 => Sys2Proof.Machine.execMovi t c d imm6 s
  | .ext t c d ds wm1 pos rsv => Sys2Proof.Machine.execExt t c d ds wm1 pos rsv s
  | .ins t c d ds wm1 pos rsv => Sys2Proof.Machine.execIns t c d ds wm1 pos rsv s
  | .ld t c d ea => Sys2Proof.Machine.execLd t c d ea s
  | .st t c r ea => Sys2Proof.Machine.execSt t c r ea s
  | .ldp t c d ea => Sys2Proof.Machine.execLdp t c d ea s
  | .stp t c r ea => Sys2Proof.Machine.execStp t c r ea s
  | .lea t c a rsv ea => Sys2Proof.Machine.execLea t c a rsv ea s
  | .vld t c v ea => Sys2Proof.Machine.execVld t c v ea s
  | .vst t c v ea => Sys2Proof.Machine.execVst t c v ea s
  | .vlds t c v a dm rsv0 rsv1 => Sys2Proof.Machine.execVlds t c v a dm rsv0 rsv1 s
  | .vgath t c v a p vi rsv0 rsv1 => Sys2Proof.Machine.execVgath t c v a p vi rsv0 rsv1 s
  | .vscat t c v a p vi rsv0 rsv1 => Sys2Proof.Machine.execVscat t c v a p vi rsv0 rsv1 s
  | .adda t c a x => Sys2Proof.Machine.execAdda t c a x s
  | .mova t c o => Sys2Proof.Machine.execMova t c o s
  | .cmpa t c a b rsv => Sys2Proof.Machine.execCmpa t c a b rsv s
  | .vadd t c o => Sys2Proof.Machine.execVadd t c o s
  | .vsub t c o => Sys2Proof.Machine.execVsub t c o s
  | .vadds t c o => Sys2Proof.Machine.execVadds t c o s
  | .vmul t c o => Sys2Proof.Machine.execVmul t c o s
  | .vmulq t c o => Sys2Proof.Machine.execVmulq t c o s
  | .vmac t c o => Sys2Proof.Machine.execVmac t c o s
  | .vmin t c o => Sys2Proof.Machine.execVmin t c o s
  | .vmax t c o => Sys2Proof.Machine.execVmax t c o s
  | .vand t c o => Sys2Proof.Machine.execVand t c o s
  | .vor t c o => Sys2Proof.Machine.execVor t c o s
  | .vxor t c o => Sys2Proof.Machine.execVxor t c o s
  | .vshl t c o => Sys2Proof.Machine.execVshl t c o s
  | .vshr t c o => Sys2Proof.Machine.execVshr t c o s
  | .vsar t c o => Sys2Proof.Machine.execVsar t c o s
  | .vcmp t c o => Sys2Proof.Machine.execVcmp t c o s
  | .vsel t c o => Sys2Proof.Machine.execVsel t c o s
  | .vred t c o => Sys2Proof.Machine.execVred t c o s
  | .vperm t c o => Sys2Proof.Machine.execVperm t c o s
  | .vbin t c o => Sys2Proof.Machine.execVbin t c o s
  | .qpush t c p rsv => Sys2Proof.Machine.execQpush t c p rsv s
  | .qpushv t c p v nm1 rsv => Sys2Proof.Machine.execQpushv t c p v nm1 rsv s
  | .qpop t c p rsv => Sys2Proof.Machine.execQpop t c p rsv s
  | .qpeek t c p rsv => Sys2Proof.Machine.execQpeek t c p rsv s
  | .qcred t c p d => Sys2Proof.Machine.execQcred t c p d s
  | .queDrop t m die v => Sys2Proof.Machine.execQueDrop t m die v s
  | .br t c disp => Sys2Proof.Machine.execBr t c disp s
  | .bcc t c cond disp rsv => Sys2Proof.Machine.execBcc t c cond disp rsv s
  | .jmp t c ea rsv => Sys2Proof.Machine.execJmp t c ea rsv s
  | .loop t c d disp => Sys2Proof.Machine.execLoop t c d disp s
  | .callm t c mask tgt => Sys2Proof.Machine.execCallm t c mask tgt s
  | .retm t c mask rsv => Sys2Proof.Machine.execRetm t c mask rsv s
  | .trap t c n rsv => Sys2Proof.Machine.execTrap t c n rsv s
  | .mfs t c o => Sys2Proof.Machine.execMfs t c o s
  | .mts t c o => Sys2Proof.Machine.execMts t c o s
  | .nop t c rsv => Sys2Proof.Machine.execNop t c rsv s
  | .fence t c rsv => Sys2Proof.Machine.execFence t c rsv s
  | .sync t c rsv => Sys2Proof.Machine.execSync t c rsv s
  | .chk t c rsv => Sys2Proof.Machine.execChk t c rsv s
  | .wait t c rsv => Sys2Proof.Machine.execWait t c rsv s
  | .gmset t c rsv => Sys2Proof.Machine.execGmset t c rsv s
  | .gmclr t c rsv => Sys2Proof.Machine.execGmclr t c rsv s
  | .mpusw t c rsv => Sys2Proof.Machine.execMpusw t c rsv s
  | .rete t c rsv => Sys2Proof.Machine.execRete t c rsv s
  | .retg t c rsv => Sys2Proof.Machine.execRetg t c rsv s
  | .dfclr t c rsv => Sys2Proof.Machine.execDfclr t c rsv s
  | .split t c rsv => Sys2Proof.Machine.execSplit t c rsv s
  | .join t c rsv => Sys2Proof.Machine.execJoin t c rsv s
  | .bmov t c o n => Sys2Proof.Machine.execBmov t c o n s
  | .bfill t c o n => Sys2Proof.Machine.execBfill t c o n s
  | .bcrc t c o n => Sys2Proof.Machine.execBcrc t c o n s
  | .hbmRequestServed t stack req => Sys2Proof.Machine.execHbmRequestServed t stack req s
  | .mergeWrite t stack req => Sys2Proof.Machine.execMergeWrite t stack req s
  | .refresh t stack => Sys2Proof.Machine.execRefresh t stack s
  | .scrubRead t stack cls => Sys2Proof.Machine.execScrubRead t stack cls s
  | .scrubRewrite t stack => Sys2Proof.Machine.execScrubRewrite t stack s
  | .poolScrub t die cls => Sys2Proof.Machine.execPoolScrub t die cls s
  | .spadWriteback t c => Sys2Proof.Machine.execSpadWriteback t c s
  | .hbmDead t stack strobe => Sys2Proof.Machine.execHbmDead t stack strobe s
  | .hbmTempRead t stack celsius => Sys2Proof.Machine.execHbmTempRead t stack celsius s
  | .hbmTableSwitch t => Sys2Proof.Machine.execHbmTableSwitch t s
  | .hbmTrainingEnd t stack ok => Sys2Proof.Machine.execHbmTrainingEnd t stack ok s
  | .hbmInjtArm t m v => Sys2Proof.Machine.execHbmInjtArm t m v s
  | .dmaBurst t b => Sys2Proof.Machine.execDmaBurst t b s
  | .mpuSyninfoClear t m addr v => Sys2Proof.Machine.execMpuSyninfoClear t m addr v s
  | .sigWindowClose t e differ => Sys2Proof.Machine.execSigWindowClose t e differ s
  | .lockstepMismatch t e comp pc => Sys2Proof.Machine.execLockstepMismatch t e comp pc s
  | .selftestEnd t e passM passK => Sys2Proof.Machine.execSelftestEnd t e passM passK s
  | .joinHandoverEnd t e => Sys2Proof.Machine.execJoinHandoverEnd t e s
  | .splitCommand t req => Sys2Proof.Machine.execSplitCommand t req s
  | .joinCommand t req => Sys2Proof.Machine.execJoinCommand t req s
  | .engineModeReset t e => Sys2Proof.Machine.execEngineModeReset t e s
  | .comparatorTestStart t die => Sys2Proof.Machine.execComparatorTestStart t die s
  | .comparatorTestEnd t die failed => Sys2Proof.Machine.execComparatorTestEnd t die failed s
  | .lksInjArm t m die v => Sys2Proof.Machine.execLksInjArm t m die v s
  | .trifleDisagree t copies => Sys2Proof.Machine.execTrifleDisagree t copies s
  | .trifleSelftestEnd t copy pass => Sys2Proof.Machine.execTrifleSelftestEnd t copy pass s
  | .trifleRejoin t copy => Sys2Proof.Machine.execTrifleRejoin t copy s
  | .ethFrameReceive t p1 pos f => Sys2Proof.Machine.execEthFrameReceive t p1 pos f s
  | .cvuTimeout t p1 a => Sys2Proof.Machine.execCvuTimeout t p1 a s
  | .routeFlitPush t p1 a => Sys2Proof.Machine.execRouteFlitPush t p1 a s
  | .cvuTxFlitPop t p1 a => Sys2Proof.Machine.execCvuTxFlitPop t p1 a s
  | .cvuMbxStart t p1 => Sys2Proof.Machine.execCvuMbxStart t p1 s
  | .macTxStart t p1 pos => Sys2Proof.Machine.execMacTxStart t p1 pos s
  | .cvuCalcStart t m p1 n v => Sys2Proof.Machine.execCvuCalcStart t m p1 n v s
  | .cvuCalcData t m p1 n v => Sys2Proof.Machine.execCvuCalcData t m p1 n v s
  | .cvuInjArm t m p1 v => Sys2Proof.Machine.execCvuInjArm t m p1 v s
  | .ethLinkDown t p1 pos inFrame => Sys2Proof.Machine.execEthLinkDown t p1 pos inFrame s
  | .ethMbxgo t m p1 v => Sys2Proof.Machine.execEthMbxgo t m p1 v s
  | .ethMbxpop t m p1 v => Sys2Proof.Machine.execEthMbxpop t m p1 v s
  | .ethSactlInstall t m p1 v => Sys2Proof.Machine.execEthSactlInstall t m p1 v s
  | .plcaTxOpportunity t p1 => Sys2Proof.Machine.execPlcaTxOpportunity t p1 s
  | .t1sNobcn t p1 => Sys2Proof.Machine.execT1sNobcn t p1 s
  | .t1sCollision t p1 => Sys2Proof.Machine.execT1sCollision t p1 s
  | .canFrameReceive t p1 k f => Sys2Proof.Machine.execCanFrameReceive t p1 k f s
  | .canFifoPush t p1 k => Sys2Proof.Machine.execCanFifoPush t p1 k s
  | .canFrameTransmit t p1 k out => Sys2Proof.Machine.execCanFrameTransmit t p1 k out s
  | .busoffRecovery t p1 k => Sys2Proof.Machine.execBusoffRecovery t p1 k s
  | .msSpeedPulse t => Sys2Proof.Machine.execMsSpeedPulse t s
  | .msiByteReceive t b => Sys2Proof.Machine.execMsiByteReceive t b s
  | .msiDtx t m v => Sys2Proof.Machine.execMsiDtx t m v s
  | .msiDrxRemove t m v => Sys2Proof.Machine.execMsiDrxRemove t m v s
  | .cardActivate t m p1 v => Sys2Proof.Machine.execCardActivate t m p1 v s
  | .cardDeactivate t m p1 v => Sys2Proof.Machine.execCardDeactivate t m p1 v s
  | .cardTx t m p1 v => Sys2Proof.Machine.execCardTx t m p1 v s
  | .cardRxRemove t m p1 v => Sys2Proof.Machine.execCardRxRemove t m p1 v s
  | .cardCharReceive t p1 b perr => Sys2Proof.Machine.execCardCharReceive t p1 b perr s
  | .cardRemoval t p1 => Sys2Proof.Machine.execCardRemoval t p1 s
  | .spiuTx t m p1 u v => Sys2Proof.Machine.execSpiuTx t m p1 u v s
  | .spiuRxRemove t m p1 u v => Sys2Proof.Machine.execSpiuRxRemove t m p1 u v s
  | .spiuCs t m p1 u v => Sys2Proof.Machine.execSpiuCs t m p1 u v s
  | .spiTransferDone t p1 u rx => Sys2Proof.Machine.execSpiTransferDone t p1 u rx s
  | .spiAutoTransfer t => Sys2Proof.Machine.execSpiAutoTransfer t s
  | .spiAutoLate t => Sys2Proof.Machine.execSpiAutoLate t s
  | .spiuUtx t m p1 v => Sys2Proof.Machine.execSpiuUtx t m p1 v s
  | .spiuUrxRemove t m p1 v => Sys2Proof.Machine.execSpiuUrxRemove t m p1 v s
  | .uartRxByte t p1 b err => Sys2Proof.Machine.execUartRxByte t p1 b err s
  | .ppsOutRise t => Sys2Proof.Machine.execPpsOutRise t s
  | .ppsOutFall t => Sys2Proof.Machine.execPpsOutFall t s
  | .faultReport t other => Sys2Proof.Machine.execFaultReport t other s
  | .lineBreak t die blk src => Sys2Proof.Machine.execLineBreak t die blk src s
  | .graceExpiry t => Sys2Proof.Machine.execGraceExpiry t s
  | .crbAck t m v => Sys2Proof.Machine.execCrbAck t m v s
  | .crbLatchClear t m ix v => Sys2Proof.Machine.execCrbLatchClear t m ix v s
  | .crbLogpop t m v => Sys2Proof.Machine.execCrbLogpop t m v s
  | .crbInjReport t m v => Sys2Proof.Machine.execCrbInjReport t m v s
  | .crbInjDry t m v => Sys2Proof.Machine.execCrbInjDry t m v s
  | .crbInjLine t m v => Sys2Proof.Machine.execCrbInjLine t m v s
  | .crbInjCancel t m v => Sys2Proof.Machine.execCrbInjCancel t m v s
  | .eoutToggle t => Sys2Proof.Machine.execEoutToggle t s
  | .epulseEnd t => Sys2Proof.Machine.execEpulseEnd t s
  | .eoutPin t => Sys2Proof.Machine.execEoutPin t s
  | .wdtService t m w v => Sys2Proof.Machine.execWdtService t m w v s
  | .wdtCheckin t m w v => Sys2Proof.Machine.execWdtCheckin t m w v s
  | .wdtWindowClose t w => Sys2Proof.Machine.execWdtWindowClose t w s
  | .wdtPeriodEnd t w => Sys2Proof.Machine.execWdtPeriodEnd t w s
  | .wdtWarning t w => Sys2Proof.Machine.execWdtWarning t w s
  | .eraseBusyRise t => Sys2Proof.Machine.execEraseBusyRise t s
  | .eraseBusyFall t => Sys2Proof.Machine.execEraseBusyFall t s
  | .eraseCap t => Sys2Proof.Machine.execEraseCap t s
  | .modulePlace t => Sys2Proof.Machine.execModulePlace t s
  | .slotConfirm t k => Sys2Proof.Machine.execSlotConfirm t k s
  | .updBegin t req => Sys2Proof.Machine.execUpdBegin t req s
  | .sectorEraseDone t => Sys2Proof.Machine.execSectorEraseDone t s
  | .updWrite t req ok => Sys2Proof.Machine.execUpdWrite t req ok s
  | .updCommit t req => Sys2Proof.Machine.execUpdCommit t req s
  | .updAbort t req => Sys2Proof.Machine.execUpdAbort t req s
  | .getCustody t req => Sys2Proof.Machine.execGetCustody t req s
  | .getLcert t req => Sys2Proof.Machine.execGetLcert t req s
  | .enrol t req otpOk => Sys2Proof.Machine.execEnrol t req otpOk s
  | .installLcert t req otpOk => Sys2Proof.Machine.execInstallLcert t req otpOk s
  | .setOwner t req => Sys2Proof.Machine.execSetOwner t req s
  | .provision t req otpOk => Sys2Proof.Machine.execProvision t req otpOk s
  | .sealDevice t req otpOk => Sys2Proof.Machine.execSealDevice t req otpOk s
  | .advanceEpoch t req otpOk => Sys2Proof.Machine.execAdvanceEpoch t req otpOk s
  | .revokeRoot t req otpOk => Sys2Proof.Machine.execRevokeRoot t req otpOk s
  | .reenrol t req => Sys2Proof.Machine.execReenrol t req s
  | .retire t req otpOk => Sys2Proof.Machine.execRetire t req otpOk s
  | .tamperTrip t sensors => Sys2Proof.Machine.execTamperTrip t sensors s
  | .zeroisationStart t => Sys2Proof.Machine.execZeroisationStart t s
  | .zeroisationEnd t => Sys2Proof.Machine.execZeroisationEnd t s
  | .tapReset t trst => Sys2Proof.Machine.execTapReset t trst s
  | .bypass t code => Sys2Proof.Machine.execBypass t code s
  | .idcode t => Sys2Proof.Machine.execIdcode t s
  | .samplePreload t shifted => Sys2Proof.Machine.execSamplePreload t shifted s
  | .extest t shifted => Sys2Proof.Machine.execExtest t shifted s
  | .clamp t => Sys2Proof.Machine.execClamp t s
  | .highz t => Sys2Proof.Machine.execHighz t s
  | .dbgNonce t => Sys2Proof.Machine.execDbgNonce t s
  | .dbgToken t words => Sys2Proof.Machine.execDbgToken t words s
  | .dbgAp t dr => Sys2Proof.Machine.execDbgAp t dr s
  | .dbgCtrlOpen t => Sys2Proof.Machine.execDbgCtrlOpen t s
  | .dbgCtrlClose t => Sys2Proof.Machine.execDbgCtrlClose t s
  | .debugHalt t die slot core => Sys2Proof.Machine.execDebugHalt t die slot core s
  | .debugStep t die slot core => Sys2Proof.Machine.execDebugStep t die slot core s
  | .debugResume t die slot core => Sys2Proof.Machine.execDebugResume t die slot core s
  | .dbgMemoryAccess t wr v => Sys2Proof.Machine.execDbgMemoryAccess t wr v s
  | .dbgRegisterAccess t die wr v => Sys2Proof.Machine.execDbgRegisterAccess t die wr v s
  | .bbxEntryRequest t kind body => Sys2Proof.Machine.execBbxEntryRequest t kind body s
  | .bbxEntryWrite t => Sys2Proof.Machine.execBbxEntryWrite t s
  | .bbxScanEnd t => Sys2Proof.Machine.execBbxScanEnd t s
  | .bbxFwdata t m v => Sys2Proof.Machine.execBbxFwdata t m v s
  | .fieldRecordWrite t => Sys2Proof.Machine.execFieldRecordWrite t s
  | .tempSample t celsius => Sys2Proof.Machine.execTempSample t celsius s
  | .getBbx t req => Sys2Proof.Machine.execGetBbx t req s
  | .getField t req => Sys2Proof.Machine.execGetField t req s
  | .railExcursion t rail high => Sys2Proof.Machine.execRailExcursion t rail high s
  | .illegalOpcode t c word => Sys2Proof.Machine.execIllegalOpcode t c word s
  | .ethLinkUp t p1 pos => Sys2Proof.Machine.execEthLinkUp t p1 pos s
  | .cardInsertion t p1 => Sys2Proof.Machine.execCardInsertion t p1 s
  | .monitorPulseEnd t => Sys2Proof.Machine.execMonitorPulseEnd t s
  | .vholdCollapse t => Sys2Proof.Machine.execVholdCollapse t s
  | .resetNRelease t => Sys2Proof.Machine.execResetNRelease t s
  | .beaconReceive t p1 => Sys2Proof.Machine.execBeaconReceive t p1 s

end Sys2Proof.Machine
end

