-- ==== Sys2Proof/Safety.lean ====
section
/-!
DEFINITION. The terms that claims are stated in: what is sound, what a command answers, and how an instruction of an
engine issues and retires.
-/

namespace Sys2Proof.Machine

/-- Memory and its error overlay stand in their canonical forms, so that equal memories are equal data, and the hub is
not fenced (R26, R30: a fence is of another die). -/
def State.Sound (s : State) : Prop :=
  s.mem.wf = true ∧ SMap.wf (dflt GClass.none) s.mem.errs = true ∧ (s.die 0).fenced = false

/-- What every command keeps: soundness, the queue `q` of the waiting commands, and a time not before `n`. -/
def Kept (q : List Instr) (n : Nat) (s : State) : Prop := s.Sound ∧ s.pending = q ∧ n ≤ s.now

/-- A command answers a next state, of which P holds. -/
def Answers (i : Instr) (s : State) (P : State → Prop) : Prop := ∃ u, exec i s = .next u ∧ P u

/-! ### The issue of an instruction (R217, R234, R242) -/

/-- An instruction of n words issues in a core: the core is ready, no breakpoint matches, its words can be fetched, and
no halt is requested. -/
def State.Issues (s : State) (c n : Nat) : Prop :=
  s.ready c = true ∧ (s.started c).bpHits c (s.pcOf c) = [] ∧ (s.fetched c n).2 = none ∧
    ((s.issued c n).coreOf c).haltReq = false

/-- Where its core may issue it in a ring of at most m and the core meets P, an instruction of n words retires: the
next state is the one in which it issues, with its core changed as R says and nothing else. -/
def Retires (i : Instr) (s : State) (t : Nat) (c : CoreId) (n m : Nat) (P : CoreSt → Prop)
    (R : CoreSt → CoreSt → Prop) : Prop :=
  (s.to t).Issues c.toNat n → ((s.to t).coreOf c.toNat).ring ≤ m →
    P (((s.to t).issued c.toNat n).coreOf c.toNat) →
    ∃ k', R (((s.to t).issued c.toNat n).coreOf c.toNat) k' ∧
      exec i s = .next (((s.to t).issued c.toNat n).modCore c.toNat (fun _ => k'))

/-- Where its core meets P, an instruction of n words retires and raises ARITH with a DETAIL: its core is changed as R
says, and the trap is taken with the address of the next instruction (R217, R246). -/
def Raises (i : Instr) (s : State) (t : Nat) (c : CoreId) (n detail : Nat) (P : CoreSt → Prop)
    (R : CoreSt → CoreSt → Prop) : Prop :=
  let u := (s.to t).issued c.toNat n
  (s.to t).Issues c.toNat n → P (u.coreOf c.toNat) →
    ∃ k', R (u.coreOf c.toNat) k' ∧
      exec i s = .next (((u.modCore c.toNat (fun _ => k')).takeExn c.toNat { vec := 8, detail := detail }
        (u.coreOf c.toNat).pc.toNat false).takeHalt c.toNat)

/-- Core j is neither core c nor the checker that repeats it (R349). -/
def State.Apart (s : State) (c j : Nat) : Prop := j ≠ c ∧ (s.leads c = true → j ≠ c + 1)

/-- What reads come to: they read words, an exception stops them, or they hold. -/
def Rd.Comes (r : Rd) (ok : State → List Word → Prop) (exn : State → Exn → Prop) (hold : Prop) : Prop :=
  match r with
  | .ok s ws => ok s ws
  | .exn s x => exn s x
  | .hold => hold

/-- What writes come to: they are made, an exception stops them, or they hold. -/
def Wr.Comes (r : Wr) (ok : State → Prop) (exn : State → Exn → Prop) (hold : Prop) : Prop :=
  match r with
  | .ok s => ok s
  | .exn s x => exn s x
  | .hold => hold

/-- C, Z, N and V of a status word are written where a value is given and stay where none is; DZ and SAT are sticky;
no other bit changes (R245). -/
def FlagsAre (w w' : Word) (c z n v : Option Bool) (dz sat : Bool) : Prop :=
  w'.getLsbD 0 = c.getD (w.getLsbD 0) ∧ w'.getLsbD 1 = z.getD (w.getLsbD 1) ∧
  w'.getLsbD 2 = n.getD (w.getLsbD 2) ∧ w'.getLsbD 3 = v.getD (w.getLsbD 3) ∧
  w'.getLsbD 4 = (w.getLsbD 4 || dz) ∧ w'.getLsbD 5 = (w.getLsbD 5 || sat) ∧
  ∀ i < 16, 6 ≤ i → w'.getLsbD i = w.getLsbD i

/-- A core after an instruction that writes flags and no other register. -/
def CoreSt.Flags (k k' : CoreSt) (c z n v : Option Bool) (dz sat : Bool) : Prop :=
  k' = { k with sw := k'.sw } ∧ FlagsAre k.sw k'.sw c z n v dz sat

/-- A core after an instruction that writes Dd and flags, and no other register. -/
def CoreSt.Result (k k' : CoreSt) (d : Nat) (r : Word) (c z n v : Option Bool) (dz sat : Bool) : Prop :=
  k' = { k.setD d r with sw := k'.sw } ∧ FlagsAre k.sw k'.sw c z n v dz sat

end Sys2Proof.Machine
end

