-- ==== Sys2Proof/Certificates/Slice0/Obligations.lean ====
section
/-!
DEFINITION. The statements about the model: what each family of commands does and leaves alone, which rules it meets, and
what every command and every step keeps. Times are CK1 counts; a command comes at its operand t, and the state at that time
is s.to t.
-/

open Sys2Proof Sys2Proof.Machine

/-! ### The scalar instructions of the engines -/

/-- ADD, ADDC, SUB, SUBB, CMP and NEG (R245, R247, R250): where they raise no ARITH they retire with the sum or
difference modulo 2¹⁶ in Dd (CMP writes no Dd), C the carry or not-borrow, Z, N, and V where the exact result leaves the
signed range; nothing else changes. -/
def Obligations.SumsAndDifferences : Prop :=
  ∀ (s : State) (t : Nat) (c : CoreId) (d : Reg) (x : Src),
    let calm := fun (k : CoreSt) (r : Int) => ¬(k.flag 7 = true ∧ (r < -32768 ∨ 32767 < r))
    let out := fun (r : Int) => decide (r < -32768 ∨ 32767 < r)
    let a := fun (k : CoreSt) => k.dr d.toNat
    let b := fun (k : CoreSt) => k.src x
    let cin := fun (k : CoreSt) => (if k.flag 0 then 1 else 0 : Nat)
    let bin := fun (k : CoreSt) => (if k.flag 0 then 0 else 1 : Nat)
    Retires (.add t c d x) s t c (srcLen x) 3 (fun k => calm k ((a k).toInt + (b k).toInt)) (fun k k' =>
      k.Result k' d.toNat (a k + b k) (some (decide (65536 ≤ (a k).toNat + (b k).toNat))) (some (a k + b k == 0))
        (some (a k + b k).msb) (some (out ((a k).toInt + (b k).toInt))) false false) ∧
    Retires (.addc t c d x) s t c (srcLen x) 3 (fun k => calm k ((a k).toInt + (b k).toInt + cin k)) (fun k k' =>
      let r : Word := a k + b k + BitVec.ofNat 16 (cin k)
      k.Result k' d.toNat r (some (decide (65536 ≤ (a k).toNat + (b k).toNat + cin k))) (some (r == 0)) (some r.msb)
        (some (out ((a k).toInt + (b k).toInt + cin k))) false false) ∧
    Retires (.sub t c d x) s t c (srcLen x) 3 (fun k => calm k ((a k).toInt - (b k).toInt)) (fun k k' =>
      k.Result k' d.toNat (a k - b k) (some (decide ((b k).toNat ≤ (a k).toNat))) (some (a k - b k == 0))
        (some (a k - b k).msb) (some (out ((a k).toInt - (b k).toInt))) false false) ∧
    Retires (.subb t c d x) s t c (srcLen x) 3 (fun k => calm k ((a k).toInt - (b k).toInt - bin k)) (fun k k' =>
      let r : Word := a k - b k - BitVec.ofNat 16 (bin k)
      k.Result k' d.toNat r (some (decide ((b k).toNat + bin k ≤ (a k).toNat))) (some (r == 0)) (some r.msb)
        (some (out ((a k).toInt - (b k).toInt - bin k))) false false) ∧
    Retires (.cmp t c d x) s t c (srcLen x) 3 (fun _ => True) (fun k k' =>
      k.Flags k' (some (decide ((b k).toNat ≤ (a k).toNat))) (some (a k - b k == 0))
        (some (a k - b k).msb) (some (out ((a k).toInt - (b k).toInt))) false false) ∧
    Retires (.neg t c d) s t c 1 3 (fun k => calm k (-(a k).toInt)) (fun k k' =>
      k.Result k' d.toNat (-a k) (some (a k == 0)) (some (-a k == 0)) (some (-a k).msb) (some (out (-(a k).toInt)))
        false false)

/-- ADDS, SUBS, NEGS, ABSS and SHLS (R245, R247, R250, R251): the exact result limited to the signed range, Z and N of
it, V 0, and the sticky SAT where it was limited; C and everything else stay. SHLS's exact result is Dd × 2^count. -/
def Obligations.SaturatingArithmetic : Prop :=
  ∀ (s : State) (t : Nat) (c : CoreId) (d : Reg) (x : Src),
    let a := fun (k : CoreSt) => (k.dr d.toNat).toInt
    let b := fun (k : CoreSt) => (k.src x).toInt
    let put := fun (k k' : CoreSt) (r : Int) =>
      let v : Word := BitVec.ofInt 16 (if r < -32768 then -32768 else if 32767 < r then 32767 else r)
      k.Result k' d.toNat v none (some (v == 0)) (some v.msb) (some false) false (decide (r < -32768 ∨ 32767 < r))
    Retires (.adds t c d x) s t c (srcLen x) 3 (fun _ => True) (fun k k' => put k k' (a k + b k)) ∧
    Retires (.subs t c d x) s t c (srcLen x) 3 (fun _ => True) (fun k k' => put k k' (a k - b k)) ∧
    Retires (.negs t c d) s t c 1 3 (fun _ => True) (fun k k' => put k k' (-a k)) ∧
    Retires (.abss t c d) s t c 1 3 (fun _ => True) (fun k k' => put k k' (if a k < 0 then -a k else a k)) ∧
    Retires (.shls t c d x) s t c (srcLen x) 3 (fun _ => True) (fun k k' =>
      put k k' (a k * 2 ^ (k.src x).toNat))

/-- AND, OR, XOR, TST, MOV, NOT, CLZ, POPC and ABS (R247, R250): the result in Dd (TST writes none) with the flags that
their rows name and no other; CLZ counts the zeros above the highest set bit, POPC the set bits; ABS writes V for
−32768, which stays −32768, and retires there where OVT is clear. -/
def Obligations.LogicAndCounts : Prop :=
  ∀ (s : State) (t : Nat) (c : CoreId) (d : Reg) (x : Src),
    let a := fun (k : CoreSt) => k.dr d.toNat
    let b := fun (k : CoreSt) => k.src x
    let put := fun (k k' : CoreSt) (r : Word) => k.Result k' d.toNat r none (some (r == 0)) (some r.msb) none false false
    Retires (.and t c d x) s t c (srcLen x) 3 (fun _ => True) (fun k k' => put k k' (a k &&& b k)) ∧
    Retires (.or t c d x) s t c (srcLen x) 3 (fun _ => True) (fun k k' => put k k' (a k ||| b k)) ∧
    Retires (.xor t c d x) s t c (srcLen x) 3 (fun _ => True) (fun k k' => put k k' (a k ^^^ b k)) ∧
    Retires (.tst t c d x) s t c (srcLen x) 3 (fun _ => True) (fun k k' =>
      k.Flags k' none (some (a k &&& b k == 0)) (some (a k &&& b k).msb) none false false) ∧
    Retires (.mov t c d x) s t c (srcLen x) 3 (fun _ => True) (fun k k' => k' = k.setD d.toNat (b k)) ∧
    Retires (.not t c d) s t c 1 3 (fun _ => True) (fun k k' => put k k' (~~~(a k))) ∧
    Retires (.clz t c d) s t c 1 3 (fun _ => True) (fun k k' =>
      let n := (k'.dr d.toNat).toNat
      n ≤ 16 ∧ (∀ i < 16, 16 - n ≤ i → (a k).getLsbD i = false) ∧ (n < 16 → (a k).getLsbD (15 - n) = true) ∧
        k.Result k' d.toNat (k'.dr d.toNat) none (some (n == 0)) none none false false) ∧
    Retires (.popc t c d) s t c 1 3 (fun _ => True) (fun k k' =>
      let n := (List.range 16).foldl (fun n i => n + (if (a k).getLsbD i then 1 else 0)) 0
      k.Result k' d.toNat (BitVec.ofNat 16 n) none (some (n == 0)) none none false false) ∧
    Retires (.abs t c d) s t c 1 3 (fun k => ¬(k.flag 7 = true ∧ a k = 0x8000)) (fun k k' =>
      let r := if (a k).msb then -a k else a k
      k.Result k' d.toNat r none (some (r == 0)) (some r.msb) (some (a k == 0x8000)) false false)

/-- SHL, SHR, SAR, ROL and ROR (R247, R248): the shifted or rotated Dd with Z and N. A count of 0 leaves C; so does a
rotation by a multiple of 16. Otherwise C is the last bit that moved out: with SHL and SHR past 16 places it is 0, with
SAR the sign. -/
def Obligations.Shifts : Prop :=
  ∀ (s : State) (t : Nat) (c : CoreId) (d : Reg) (x : Src),
    let a := fun (k : CoreSt) => k.dr d.toNat
    let n := fun (k : CoreSt) => (k.src x).toNat
    let put := fun (k k' : CoreSt) (r : Word) (cf : Option Bool) =>
      k.Result k' d.toNat r cf (some (r == 0)) (some r.msb) none false false
    Retires (.shl t c d x) s t c (srcLen x) 3 (fun _ => True) (fun k k' =>
      put k k' (a k <<< n k) (if n k = 0 then none else some (decide (n k ≤ 16) && (a k).getLsbD (16 - n k)))) ∧
    Retires (.shr t c d x) s t c (srcLen x) 3 (fun _ => True) (fun k k' =>
      put k k' (a k >>> n k) (if n k = 0 then none else some (decide (n k ≤ 16) && (a k).getLsbD (n k - 1)))) ∧
    Retires (.sar t c d x) s t c (srcLen x) 3 (fun _ => True) (fun k k' =>
      put k k' ((a k).sshiftRight (n k))
        (if n k = 0 then none else some (if n k ≤ 16 then (a k).getLsbD (n k - 1) else (a k).msb))) ∧
    Retires (.rol t c d x) s t c (srcLen x) 3 (fun _ => True) (fun k k' =>
      put k k' ((a k).rotateLeft (n k))
        (if n k % 16 = 0 then none else some (((a k).rotateLeft (n k)).getLsbD 0))) ∧
    Retires (.ror t c d x) s t c (srcLen x) 3 (fun _ => True) (fun k k' =>
      put k k' ((a k).rotateRight (n k))
        (if n k % 16 = 0 then none else some (((a k).rotateRight (n k)).getLsbD 15)))

/-- MUL, MULU, MULQ, MAC and MACS (R247, R249): the low word of the product with V or C where it does not fit; the
rounded Q15 product, limited, with SAT; the accumulator plus the signed product, modulo 2⁴⁰ or limited with SAT. MUL
retires where it raises no ARITH. -/
def Obligations.Products : Prop :=
  ∀ (s : State) (t : Nat) (c : CoreId) (d e : Reg) (x : Src) (n : BitVec 1),
    let a := fun (k : CoreSt) => k.dr d.toNat
    let b := fun (k : CoreSt) => k.src x
    let p := fun (k : CoreSt) => (a k).toInt * (b k).toInt
    let sum := fun (k : CoreSt) => (k.acc n.toNat).toInt + (a k).toInt * (k.dr e.toNat).toInt
    Retires (.mul t c d x) s t c (srcLen x) 3 (fun k => ¬(k.flag 7 = true ∧ (p k < -32768 ∨ 32767 < p k)))
      (fun k k' => k.Result k' d.toNat (a k * b k) none (some (a k * b k == 0)) (some (a k * b k).msb)
        (some (decide (p k < -32768 ∨ 32767 < p k))) false false) ∧
    Retires (.mulu t c d x) s t c (srcLen x) 3 (fun _ => True) (fun k k' =>
      k.Result k' d.toNat (a k * b k) (some (decide (65536 ≤ (a k).toNat * (b k).toNat))) (some (a k * b k == 0))
        (some (a k * b k).msb) none false false) ∧
    Retires (.mulq t c d x) s t c (srcLen x) 3 (fun _ => True) (fun k k' =>
      let q := (p k + 2 ^ 14) / 2 ^ 15
      let v : Word := BitVec.ofInt 16 (if 32767 < q then 32767 else q)
      k.Result k' d.toNat v none (some (v == 0)) (some v.msb) none false (decide (32767 < q))) ∧
    Retires (.mac t c d e n) s t c 1 3 (fun _ => True) (fun k k' =>
      k' = k.setAcc n.toNat (BitVec.ofInt 40 (sum k))) ∧
    Retires (.macs t c d e n) s t c 1 3 (fun _ => True) (fun k k' =>
      let r := sum k
      let v : BitVec 40 := BitVec.ofInt 40 (if r < -2 ^ 39 then -2 ^ 39 else if 2 ^ 39 ≤ r then 2 ^ 39 - 1 else r)
      k' = { k.setAcc n.toNat v with sw := k'.sw } ∧
        FlagsAre k.sw k'.sw none none none none false (decide (r < -2 ^ 39 ∨ 2 ^ 39 ≤ r)))

/-- DIV, DIVU, DIVS and REM (R247, R252): quotient into Dd and remainder into Dd + 1, REM the remainder into Dd, signed
ones truncated toward zero. By zero they set the sticky DZ, and where DZT is clear they retire with the quotient that
the table gives and the dividend as remainder. DIV retires where it raises no ARITH.

ARITH (R246): ADD, ADDC, SUB, SUBB, NEG, ABS, MUL and DIV that write V 1 with OVT set, and DIV, DIVU, DIVS and REM by
zero with DZT set, retire first: the result and the flags stand as they do without the trap, and ARITH is taken with
DETAIL 2 or 1 and the address of the next instruction. -/
def Obligations.DivisionsAndArithTraps : Prop :=
  (∀ (s : State) (t : Nat) (c : CoreId) (d : Reg) (x : Src),
    let a := fun (k : CoreSt) => k.dr d.toNat
    let b := fun (k : CoreSt) => k.src x
    let q := fun (k : CoreSt) => Int.tdiv (a k).toInt (b k).toInt
    let r := fun (k : CoreSt) => Int.tmod (a k).toInt (b k).toInt
    let zero := fun (k : CoreSt) => b k = 0 ∧ k.flag 6 = false
    let put := fun (k k' : CoreSt) (u v : Word) (vf : Option Bool) (dz sat : Bool) =>
      k' = { (k.setD d.toNat u).setD (d.toNat + 1) v with sw := k'.sw } ∧
        FlagsAre k.sw k'.sw none (some (u == 0)) (some u.msb) vf dz sat
    let lim := fun (k : CoreSt) => if (a k).toInt < 0 then (0x8000 : Word) else 0x7FFF
    (d.getLsbD 0 = false →
      Retires (.div t c d x) s t c (srcLen x) 3
        (fun k => b k ≠ 0 ∧ ¬(k.flag 7 = true ∧ a k = 0x8000 ∧ b k = 0xFFFF)) (fun k k' =>
          put k k' (BitVec.ofInt 16 (q k)) (BitVec.ofInt 16 (r k)) (some (a k == 0x8000 && b k == 0xFFFF)) false false) ∧
      Retires (.div t c d x) s t c (srcLen x) 3 zero (fun k k' => put k k' (lim k) (a k) (some false) true false) ∧
      Retires (.divu t c d x) s t c (srcLen x) 3 (fun k => b k ≠ 0) (fun k k' =>
        put k k' (a k / b k) (a k % b k) none false false) ∧
      Retires (.divu t c d x) s t c (srcLen x) 3 zero (fun k k' => put k k' 0xFFFF (a k) none true false) ∧
      Retires (.divs t c d x) s t c (srcLen x) 3 (fun k => b k ≠ 0) (fun k k' =>
        put k k' (if q k = 32768 then 0x7FFF else BitVec.ofInt 16 (q k)) (BitVec.ofInt 16 (r k)) (some false) false
          (q k == 32768)) ∧
      Retires (.divs t c d x) s t c (srcLen x) 3 zero (fun k k' => put k k' (lim k) (a k) (some false) true false)) ∧
    Retires (.rem t c d x) s t c (srcLen x) 3 (fun k => b k ≠ 0) (fun k k' =>
      k.Result k' d.toNat (BitVec.ofInt 16 (r k)) none (some (BitVec.ofInt 16 (r k) == 0))
        (some (BitVec.ofInt 16 (r k)).msb) none false false) ∧
    Retires (.rem t c d x) s t c (srcLen x) 3 zero (fun k k' =>
      k.Result k' d.toNat (a k) none (some (a k == 0)) (some (a k).msb) none true false)) ∧
  (∀ (s : State) (t : Nat) (c : CoreId) (d : Reg) (x : Src),
    let a := fun (k : CoreSt) => k.dr d.toNat
    let b := fun (k : CoreSt) => k.src x
    let cin := fun (k : CoreSt) => (if k.flag 0 then 1 else 0 : Nat)
    let bin := fun (k : CoreSt) => (if k.flag 0 then 0 else 1 : Nat)
    let high := fun (i : Instr) (n : Nat) (e : CoreSt → Int) (r : CoreSt → Word) (cf : CoreSt → Option Bool) =>
      Raises i s t c n 2 (fun k => k.flag 7 = true ∧ (e k < -32768 ∨ 32767 < e k)) (fun k k' =>
        k.Result k' d.toNat (r k) (cf k) (some (r k == 0)) (some (r k).msb) (some true) false false)
    let zero := fun (i : Instr) (q : CoreSt → Word) (vf : Option Bool) =>
      Raises i s t c (srcLen x) 1 (fun k => k.flag 6 = true ∧ b k = 0) (fun k k' =>
        k' = { (k.setD d.toNat (q k)).setD (d.toNat + 1) (a k) with sw := k'.sw } ∧
          FlagsAre k.sw k'.sw none (some (q k == 0)) (some (q k).msb) vf true false)
    let lim := fun (k : CoreSt) => if (a k).toInt < 0 then (0x8000 : Word) else 0x7FFF
    high (.add t c d x) (srcLen x) (fun k => (a k).toInt + (b k).toInt) (fun k => a k + b k)
      (fun k => some (decide (65536 ≤ (a k).toNat + (b k).toNat))) ∧
    high (.addc t c d x) (srcLen x) (fun k => (a k).toInt + (b k).toInt + cin k)
      (fun k => a k + b k + BitVec.ofNat 16 (cin k))
      (fun k => some (decide (65536 ≤ (a k).toNat + (b k).toNat + cin k))) ∧
    high (.sub t c d x) (srcLen x) (fun k => (a k).toInt - (b k).toInt) (fun k => a k - b k)
      (fun k => some (decide ((b k).toNat ≤ (a k).toNat))) ∧
    high (.subb t c d x) (srcLen x) (fun k => (a k).toInt - (b k).toInt - bin k)
      (fun k => a k - b k - BitVec.ofNat 16 (bin k))
      (fun k => some (decide ((b k).toNat + bin k ≤ (a k).toNat))) ∧
    high (.neg t c d) 1 (fun k => -(a k).toInt) (fun k => -a k) (fun k => some (a k == 0)) ∧
    high (.abs t c d) 1 (fun k => (a k).toInt.natAbs) (fun k => if (a k).msb then -a k else a k) (fun _ => none) ∧
    high (.mul t c d x) (srcLen x) (fun k => (a k).toInt * (b k).toInt) (fun k => a k * b k) (fun _ => none) ∧
    (d.getLsbD 0 = false →
      Raises (.div t c d x) s t c (srcLen x) 2 (fun k => k.flag 7 = true ∧ a k = 0x8000 ∧ b k = 0xFFFF) (fun k k' =>
        k' = { (k.setD d.toNat 0x8000).setD (d.toNat + 1) 0 with sw := k'.sw } ∧
          FlagsAre k.sw k'.sw none (some false) (some true) (some true) false false) ∧
      zero (.div t c d x) lim (some false) ∧ zero (.divs t c d x) lim (some false) ∧
      zero (.divu t c d x) (fun _ => 0xFFFF) none) ∧
    Raises (.rem t c d x) s t c (srcLen x) 1 (fun k => k.flag 6 = true ∧ b k = 0) (fun k k' =>
      k.Result k' d.toNat (a k) none (some (a k == 0)) (some (a k).msb) none true false))

/-- The moves (R250, R251, R254, R258): accumulator and predicate parts, MOVI, EXT, INS, LEA, ADDA, MOVA and CMPA write
the register they name and nothing else; EXT writes Z and N, CMPA C, Z and N, MOV Dd, ACk.Q the sticky SAT. -/
def Obligations.Moves : Prop :=
  ∀ (s : State) (t : Nat) (c : CoreId) (d e : Reg) (n : BitVec 1) (p : BitVec 2) (i6 : BitVec 6) (wm1 pos : BitVec 4) (x y : AReg)
    (ea : Ea) (v : Word) (w : BitVec 2),
    let dv := fun (k : CoreSt) => k.dr d.toNat
    let av := fun (k : CoreSt) => k.ar x.toNat
    let acc := fun (k : CoreSt) => k.acc n.toNat
    let whole := fun (i : Instr) (len : Nat) (f : CoreSt → CoreSt) =>
      Retires i s t c len 3 (fun _ => True) (fun k k' => k' = f k)
    whole (.movFromAcc t c d n .l) 1 (fun k => k.setD d.toNat ((acc k).extractLsb' 0 16)) ∧
    whole (.movFromAcc t c d n .h) 1 (fun k => k.setD d.toNat ((acc k).extractLsb' 16 16)) ∧
    whole (.movFromAcc t c d n .g) 1 (fun k => k.setD d.toNat (((acc k).extractLsb' 32 8).signExtend 16)) ∧
    Retires (.movFromAcc t c d n .q) s t c 1 3 (fun _ => True) (fun k k' =>
      let q := ((acc k).toInt + 2 ^ 14) / 2 ^ 15
      let r : Word := BitVec.ofInt 16 (if q < -32768 then -32768 else if 32767 < q then 32767 else q)
      k.Result k' d.toNat r none none none none false (decide (q < -32768 ∨ 32767 < q))) ∧
    whole (.movToAcc t c d n .l) 1 (fun k => k.setAcc n.toNat ((acc k).extractLsb' 16 24 ++ dv k)) ∧
    whole (.movToAcc t c d n .h) 1 (fun k =>
      k.setAcc n.toNat ((acc k).extractLsb' 32 8 ++ dv k ++ (acc k).extractLsb' 0 16)) ∧
    whole (.movToAcc t c d n .g) 1 (fun k => k.setAcc n.toNat ((dv k).extractLsb' 0 8 ++ (acc k).extractLsb' 0 32)) ∧
    whole (.movFromPred t c d p 0) 1 (fun k => k.setD d.toNat ((k.pr p.toNat).extractLsb' 0 16)) ∧
    whole (.movFromPred t c d p 1) 1 (fun k => k.setD d.toNat ((k.pr p.toNat).extractLsb' 16 16)) ∧
    whole (.movToPred t c d p 0) 1 (fun k => k.setP p.toNat ((k.pr p.toNat).extractLsb' 16 16 ++ dv k)) ∧
    whole (.movToPred t c d p 1) 1 (fun k => k.setP p.toNat (dv k ++ (k.pr p.toNat).extractLsb' 0 16)) ∧
    whole (.movi t c d i6) 1 (fun k => k.setD d.toNat (i6.signExtend 16)) ∧
    Retires (.ext t c d e wm1 pos 0) s t c 2 3 (fun _ => True) (fun k k' =>
      let r := k'.dr d.toNat
      (∀ i < 16, r.getLsbD i = (decide (i ≤ wm1.toNat) && (k.dr e.toNat).getLsbD (pos.toNat + i))) ∧
      k.Result k' d.toNat r none (some (r == 0)) (some r.msb) none false false) ∧
    Retires (.ins t c d e wm1 pos 0) s t c 2 3 (fun _ => True) (fun k k' =>
      let r := k'.dr d.toNat
      (∀ i < 16, r.getLsbD i =
        if pos.toNat ≤ i ∧ i ≤ pos.toNat + wm1.toNat then (k.dr e.toNat).getLsbD (i - pos.toNat)
        else (dv k).getLsbD i) ∧
      k' = k.setD d.toNat r) ∧
    (eaPlain ea = true → eaReserved ea = false →
      whole (.lea t c x 0 ea) (eaLen 1 ea) (fun k => k.setA x.toNat (k.ea 1 ea))) ∧
    whole (.adda t c x (.reg e)) 1 (fun k => k.setA x.toNat (av k + (k.dr e.toNat).signExtend 48)) ∧
    whole (.adda t c x (.imm 0 v)) 2 (fun k => k.setA x.toNat (av k + v.signExtend 48)) ∧
    whole (.mova t c (.aFromA x y 0)) 1 (fun k => k.setA x.toNat (k.ar y.toNat)) ∧
    (w ≠ 3 →
      whole (.mova t c (.dFromA x d w 0)) 2 (fun k => k.setD d.toNat ((av k).extractLsb' (16 * w.toNat) 16)) ∧
      Retires (.mova t c (.aFromD x d w 0)) s t c 2 3 (fun _ => True) (fun k k' =>
        let r := k'.ar x.toNat
        r.extractLsb' (16 * w.toNat) 16 = dv k ∧
        (∀ j < 3, j ≠ w.toNat → r.extractLsb' (16 * j) 16 = (av k).extractLsb' (16 * j) 16) ∧
        k' = k.setA x.toNat r)) ∧
    Retires (.cmpa t c x y 0) s t c 1 3 (fun _ => True) (fun k k' =>
      k.Flags k' (some (decide ((k.ar y.toNat).toNat ≤ (av k).toNat))) (some (av k == k.ar y.toNat))
        (some (av k - k.ar y.toNat).msb) none false false)

/-! ### Memory, vectors and queues from the engines -/

/-- LD, LDP and VLD (R212, R213, R254): a load goes through its checks and reads as R217 orders; where it reads its
words, they go to the registers named with the pointer update and nothing else changes; where it raises, nothing is
loaded; where it holds, the state stays. A −(A7) below the limit raises STACK_LIMIT, DETAIL 1. Mode 6 gives its words.

Where the manual is silent this rests on the model's choices, log entries 66, 68, 74. -/
def Obligations.Loads : Prop :=
  ∀ (s : State) (t : Nat) (c : CoreId) (d : Reg) (ea : Ea) (an : AReg) (w0 w1 : Word),
    let loads := fun (i : Instr) (n : Nat) (noCsr : Bool) (put : CoreSt → List Word → CoreSt) =>
      let x := s.to t
      let u := x.issued c.toNat (eaLen n ea)
      let k := u.coreOf c.toNat
      x.Issues c.toNat (eaLen n ea) → eaImm ea = false → eaReserved ea = false →
        if k.eaLimit n ea then
          exec i s = .next ((u.takeExn c.toNat { vec := 9, detail := 1 } (x.pcOf c.toNat) false).takeHalt c.toNat)
        else
          (u.load c.toNat k.ring noCsr (k.ea n ea).toNat n).Comes
            (fun v ws => exec i s =
              .next ((v.modCore c.toNat (fun k => put (k.eaUpdate n ea) ws)).takeHalt c.toNat))
            (fun v e => exec i s = .next ((v.takeExn c.toNat e (x.pcOf c.toNat) false).takeHalt c.toNat))
            (exec i s = .next x)
    loads (.ld t c d ea) 1 false (fun k ws => k.setD d.toNat (ws.getD 0 0)) ∧
    (d.getLsbD 0 = false →
      loads (.ldp t c d ea) 2 false (fun k ws => (k.setD d.toNat (ws.getD 0 0)).setD (d.toNat + 1) (ws.getD 1 0)) ∧
      Retires (.ldp t c d (.imm an w0 w1)) s t c 3 3 (fun _ => True) (fun k k' =>
        k' = (k.setD d.toNat w0).setD (d.toNat + 1) w1)) ∧
    loads (.vld t c d ea) 32 true (fun k ws => k.setV d.toNat (ofLanes ws)) ∧
    Retires (.ld t c d (.imm an w0 w1)) s t c 2 3 (fun _ => True) (fun k k' => k' = k.setD d.toNat w0)

/-- ST, STP and VST (R212, R213, R254): where the words are stored, the pointer is updated and no other register
changes; otherwise as a load. -/
def Obligations.Stores : Prop :=
  ∀ (s : State) (t : Nat) (c : CoreId) (r : Reg) (ea : Ea),
    let x := s.to t
    let u := x.issued c.toNat (eaLen 1 ea)
    let k := u.coreOf c.toNat
    let stores := fun (i : Instr) (noCsr : Bool) (ws : List Word) =>
      if k.eaLimit ws.length ea then
        exec i s = .next ((u.takeExn c.toNat { vec := 9, detail := 1 } (x.pcOf c.toNat) false).takeHalt c.toNat)
      else
        (u.storeAt c.toNat k.ring noCsr (k.ea ws.length ea).toNat ws).Comes
          (fun v => exec i s = .next ((v.modCore c.toNat (fun k => k.eaUpdate ws.length ea)).takeHalt c.toNat))
          (fun v e => exec i s = .next ((v.takeExn c.toNat e (x.pcOf c.toNat) false).takeHalt c.toNat))
          (exec i s = .next x)
    x.Issues c.toNat (eaLen 1 ea) → eaImm ea = false → eaReserved ea = false →
      stores (.st t c r ea) false [k.dr r.toNat] ∧
      (r.getLsbD 0 = false → stores (.stp t c r ea) false [k.dr r.toNat, k.dr (r.toNat + 1)]) ∧
      stores (.vst t c r ea) true ((List.range 32).map (fun n => lane (k.vr r.toNat) n))

/-- A load that is allowed, from words of the core's own scratchpad that hold no error, reads what stands there and
changes nothing; a store that is allowed there leaves its words in place of the old ones, in the scratchpad of the checker
too where the engine is locked, every other word of memory as it was, and every register of the core, and of every core
that does not repeat it, as it was (R41, R42, R200, R202, R353). -/
def Obligations.ScratchpadAccesses : Prop :=
  ∀ (s : State) (c ring a n b j : Nat) (noCsr : Bool) (ws : List Word),
    (s.coreOf c).wb = [] →
      (a + n ≤ spadLen → s.accessExn c ring .read noCsr false (fun _ => 0) (pieces (wordsFrom a n)) = none →
        (∀ i < n, s.classAt ((spadBase c + (a + i)) / 8) = .none ∧
          (s.leads c = true → s.classAt ((spadBase (c + 1) + (a + i)) / 8) = .none)) →
        s.load c ring noCsr a n = .ok s (s.rds (spadBase c + a) n)) ∧
      (a + ws.length ≤ spadLen →
        s.accessExn c ring .write noCsr false
          (fun x => (((wordsFrom a ws.length).zip ws).find? (fun w => w.1 == x)).elim 0 (fun w => w.2))
          (pieces (wordsFrom a ws.length)) = none →
        (s.storeAt c ring noCsr a ws).Comes
          (fun v => v.rd b = (if spadBase c + a ≤ b ∧ b < spadBase c + a + ws.length then
            ws.getD (b - (spadBase c + a)) 0
          else if s.leads c = true ∧ spadBase (c + 1) + a ≤ b ∧ b < spadBase (c + 1) + a + ws.length then
            ws.getD (b - (spadBase (c + 1) + a)) 0 else s.rd b) ∧
            v.coreOf c = s.coreOf c ∧ (s.Apart c j → v.coreOf j = s.coreOf j))
          (fun _ _ => False) False)

/-- VLDS, VGATH and VSCAT (R259): lane n of VLDS is the word at An + n × Dm; VGATH and VSCAT move the lanes that Pp
names from or to An plus the unsigned lane of Vi, the other lanes of Vd stay; nothing else changes.

Where the manual is silent this rests on the model's choices, log entries 69. -/
def Obligations.VectorAddressing : Prop :=
  ∀ (s : State) (t : Nat) (c : CoreId) (v vi : Reg) (a : AReg) (dm : Reg) (p : BitVec 2),
    let x := s.to t
    let u := x.issued c.toNat 2
    let k := u.coreOf c.toNat
    let raised := fun (i : Instr) (w : State) (e : Exn) =>
      exec i s = .next ((w.takeExn c.toNat e (x.pcOf c.toNat) false).takeHalt c.toNat)
    let on := (List.range 32).filter (fun n => (k.pr p.toNat).getLsbD n)
    let at_ := on.map (fun n => (k.ar a.toNat + (lane (k.vr vi.toNat) n).setWidth 48).toNat)
    x.Issues c.toNat 2 →
      (let as := (List.range 32).map (fun n => (k.ar a.toNat + BitVec.ofNat 48 n * (k.dr dm.toNat).signExtend 48).toNat)
       (u.loadPieces c.toNat k.ring true (pieces (ascending as)) as).Comes
        (fun w ws => exec (.vlds t c v a dm 0 0) s =
          .next ((w.modCore c.toNat (fun k => k.setV v.toNat (ofLanes ws))).takeHalt c.toNat))
        (raised (.vlds t c v a dm 0 0)) (exec (.vlds t c v a dm 0 0) s = .next x)) ∧
      (u.loadPieces c.toNat k.ring true (at_.map (fun y => [y])) at_).Comes
        (fun w ws => exec (.vgath t c v a p vi 0 0) s =
          .next ((w.modCore c.toNat (fun k => k.setV v.toNat (setLanes (k.vr v.toNat) on ws))).takeHalt c.toNat))
        (raised (.vgath t c v a p vi 0 0)) (exec (.vgath t c v a p vi 0 0) s = .next x) ∧
      (u.storePieces c.toNat k.ring true (at_.map (fun y => [y]))
          (at_.zip (on.map (fun n => lane (k.vr v.toNat) n)))).Comes
        (fun w => exec (.vscat t c v a p vi 0 0) s = .next (w.takeHalt c.toNat))
        (raised (.vscat t c v a p vi 0 0)) (exec (.vscat t c v a p vi 0 0) s = .next x)

/-- The lane-wise vector instructions (R260): each lane of Vd that Pp names takes the operation's result on the lanes of
Va and Vb, every other lane stays, and nothing else changes but the sticky SAT of VADDS and VMULQ, set where a named
lane saturates. -/
def Obligations.LaneWise : Prop :=
  ∀ (s : State) (t : Nat) (c : CoreId) (o : VArg),
    let vec := fun (i : Instr) (f : CoreSt → Word → Word → Word → Word) =>
      Retires i s t c 2 3 (fun _ => True) (fun k k' =>
        let l := fun (v : Reg) n => lane (k.vr v.toNat) n
        (∀ n < 32, lane (k'.vr o.vd.toNat) n =
          if (k.pr o.p.toNat).getLsbD n then f k (l o.vd n) (l o.va n) (l o.vb n) else l o.vd n) ∧
        k' = k.setV o.vd.toNat (k'.vr o.vd.toNat))
    let sat := fun (i : Instr) (f : Word → Word → Int) =>
      Retires i s t c 2 3 (fun _ => True) (fun k k' =>
        let l := fun (v : Reg) n => lane (k.vr v.toNat) n
        let out := fun (r : Int) => r < -32768 ∨ 32767 < r
        (∀ n < 32, lane (k'.vr o.vd.toNat) n =
          if (k.pr o.p.toNat).getLsbD n then
            (let r := f (l o.va n) (l o.vb n)
             BitVec.ofInt 16 (if r < -32768 then -32768 else if 32767 < r then 32767 else r))
          else l o.vd n) ∧
        k' = { k.setV o.vd.toNat (k'.vr o.vd.toNat) with sw := k'.sw } ∧
        FlagsAre k.sw k'.sw none none none none false
          ((List.range 32).any (fun n => (k.pr o.p.toNat).getLsbD n && decide (out (f (l o.va n) (l o.vb n))))))
    o.x = 0 →
      vec (.vadd t c o) (fun _ _ a b => a + b) ∧ vec (.vsub t c o) (fun _ _ a b => a - b) ∧
      sat (.vadds t c o) (fun a b => a.toInt + b.toInt) ∧
      vec (.vmul t c o) (fun _ _ a b => a * b) ∧
      sat (.vmulq t c o) (fun a b => (a.toInt * b.toInt + 2 ^ 14) / 2 ^ 15) ∧
      vec (.vmac t c o) (fun _ d a b => d + a * b) ∧
      vec (.vmin t c o) (fun _ _ a b => if b.toInt < a.toInt then b else a) ∧
      vec (.vmax t c o) (fun _ _ a b => if a.toInt < b.toInt then b else a) ∧
      vec (.vand t c o) (fun _ _ a b => a &&& b) ∧ vec (.vor t c o) (fun _ _ a b => a ||| b) ∧
      vec (.vxor t c o) (fun _ _ a b => a ^^^ b) ∧
      vec (.vshl t c o) (fun _ _ a b => a <<< b.toNat) ∧ vec (.vshr t c o) (fun _ _ a b => a >>> b.toNat) ∧
      vec (.vsar t c o) (fun _ _ a b => a.sshiftRight b.toNat) ∧
      vec (.vperm t c o) (fun k _ _ b => lane (k.vr o.va.toNat) (b.toNat % 32))

/-- VCMP, VSEL, VRED and VBIN (R260): the predicate of the comparisons that Pp names, 0 where it names none; lanes of Va
where Pp names them and of Vb elsewhere; the sum, least, greatest or saturated sum of the named lanes in Dd with Z and N,
0, 32767, −32768 and 0 where none is named; and the counts of VBIN, which saturate, in the lanes of Vd.

Where the manual is silent this rests on the model's choices, log entries 70. -/
def Obligations.VectorReductions : Prop :=
  ∀ (s : State) (t : Nat) (c : CoreId) (o : VArg),
    let l := fun (k : CoreSt) (v : Reg) n => lane (k.vr v.toNat) n
    let on := fun (k : CoreSt) => (List.range 32).filter (fun n => (k.pr o.p.toNat).getLsbD n)
    let sum := fun (k : CoreSt) => ((on k).map (fun n => (l k o.va n).toInt)).foldl (fun a b => a + b) 0
    let red := fun (k k' : CoreSt) (r : Word) (sat : Bool) =>
      k.Result k' o.vd.toNat r none (some (r == 0)) (some r.msb) none false sat
    (o.vd.toNat < 4 → o.x.toNat < 6 →
      Retires (.vcmp t c o) s t c 2 3 (fun _ => True) (fun k k' =>
        (∀ n < 32, (k'.pr o.vd.toNat).getLsbD n = ((k.pr o.p.toNat).getLsbD n &&
          (match o.x.toNat with
           | 0 => l k o.va n == l k o.vb n
           | 1 => l k o.va n != l k o.vb n
           | 2 => decide ((l k o.va n).toInt < (l k o.vb n).toInt)
           | 3 => decide ((l k o.va n).toInt ≤ (l k o.vb n).toInt)
           | 4 => decide ((l k o.va n).toNat < (l k o.vb n).toNat)
           | _ => decide ((l k o.va n).toNat ≤ (l k o.vb n).toNat)))) ∧
        k' = k.setP o.vd.toNat (k'.pr o.vd.toNat))) ∧
    (o.x = 0 → Retires (.vsel t c o) s t c 2 3 (fun _ => True) (fun k k' =>
      (∀ n < 32, lane (k'.vr o.vd.toNat) n = if (k.pr o.p.toNat).getLsbD n then l k o.va n else l k o.vb n) ∧
      k' = k.setV o.vd.toNat (k'.vr o.vd.toNat))) ∧
    (o.vb = 0 → Retires (.vred t c { o with x := 0 }) s t c 2 3 (fun _ => True) (fun k k' =>
        red k k' (BitVec.ofInt 16 (sum k)) false) ∧
      Retires (.vred t c { o with x := 1 }) s t c 2 3 (fun _ => True) (fun k k' =>
        red k k' (BitVec.ofInt 16 (((on k).map (fun n => (l k o.va n).toInt)).foldl min 32767)) false) ∧
      Retires (.vred t c { o with x := 2 }) s t c 2 3 (fun _ => True) (fun k k' =>
        red k k' (BitVec.ofInt 16 (((on k).map (fun n => (l k o.va n).toInt)).foldl max (-32768))) false) ∧
      Retires (.vred t c { o with x := 3 }) s t c 2 3 (fun _ => True) (fun k k' =>
        red k k' (BitVec.ofInt 16 (if sum k < -32768 then -32768 else if 32767 < sum k then 32767 else sum k))
          (decide (sum k < -32768 ∨ 32767 < sum k)))) ∧
    (o.vb = 0 → o.x.toNat < 16 → Retires (.vbin t c o) s t c 2 3 (fun _ => True) (fun k k' =>
      (∀ j < 32, (lane (k'.vr o.vd.toNat) j).toNat =
        min 65535 ((l k o.vd j).toNat + ((on k).filter (fun n => (l k o.va n).toNat / 2 ^ o.x.toNat == j)).length)) ∧
      k' = k.setV o.vd.toNat (k'.vr o.vd.toNat)))

/-- The queue instructions (R261, R281 to R285, R293): QPUSH pushes D0 to D7 as one flit marked LAST and QPUSHV N flits of
Vs on a bound producer port with the credit; QPOP and QPEEK move the head flit into D0 to D7, QPOP taking it out; QCRED
reads credits or visible flits with Z and N, and 0 where the consumer is fenced. UNBOUND, WRONGDIR, NOCREDIT, EMPTY,
FENCED and POISON raise QUEUE with their cause in QUE_SYN and no effect; on a WAIT port, without credit or flit, the core
holds.

A push into a queue with room for it (R283, R287, R288): the queue's flits are those that stood in it, in their
order, and the new ones, in theirs; the producer's credit falls by their number; no other queue and no core changes. -/
def Obligations.QueueInstructionsAndPush : Prop :=
  (∀ (s : State) (t : Nat) (c : CoreId) (p : BitVec 6) (v d : Reg) (nm1 : BitVec 2),
    let x := s.to t
    let n := c.toNat
    let raised := fun (i : Instr) (u : State) (cause : Nat) =>
      exec i s = .next (((u.setReg (coreDie n) 0x30 (0x2000 + 0x20 * coreIdx n + engSlot (coreEng n))
        (BitVec.ofNat 16 (p.toNat + 64 * cause + 0x8000))).takeExn n { vec := 12 } (x.pcOf n) false).takeHalt n)
    let pushes := fun (i : Instr) (len : Nat) (fs : CoreSt → List (List Word)) =>
      let u := x.issued n len
      let w := u.quePort n p.toNat
      let die := bits w 11 9
      let q := bits w 8 0
      let flits := fs (u.coreOf n)
      let few := u.credit die q (.core n) < flits.length
      x.Issues n len →
        (bit w 14 = false → raised i u 1) ∧
        (bit w 14 = true → bit w 13 = false → raised i u 2) ∧
        (bit w 14 = true → bit w 13 = true →
          (u.consFenced die q = true → raised i u 5) ∧
          (u.consFenced die q = false →
            (¬few → exec i s = .next ((u.push die q (.core n) flits true false u.now).takeHalt n)) ∧
            (few → bit w 12 = true → raised i u 3) ∧ (few → bit w 12 = false → exec i s = .next x)))
    let u := x.issued n 1
    let w := u.quePort n p.toNat
    let die := bits w 11 9
    let q := bits w 8 0
    let takes := fun (i : Instr) (out : State) =>
      x.Issues n 1 →
        (bit w 14 = false → raised i u 1) ∧
        (bit w 14 = true → bit w 13 = true → raised i u 2) ∧
        (bit w 14 = true → bit w 13 = false →
          (u.head die q = none → bit w 12 = true → raised i u 4) ∧
          (u.head die q = none → bit w 12 = false → exec i s = .next x) ∧
          ((u.head die q).map (fun f => f.poison) = some true → raised i u 6) ∧
          ((u.head die q).map (fun f => f.poison) = some false →
            (let ws := ((u.head die q).map (fun f => f.words)).getD []
             exec i s = .next ((out.modCore n (fun k =>
               (List.range 8).foldl (fun k i => k.setD i (ws.getD i 0)) k)).takeHalt n))))
    pushes (.qpush t c p 0) 1 (fun k => [(List.range 8).map k.dr]) ∧
    pushes (.qpushv t c p v nm1 0) 2 (fun k =>
      (List.range (nm1.toNat + 1)).map (fun i => (List.range 8).map (fun j => lane (k.vr v.toNat) (8 * i + j)))) ∧
    takes (.qpop t c p 0) (u.popHead die q) ∧ takes (.qpeek t c p 0) u ∧
    (x.Issues n 1 → bit w 14 = false → raised (.qcred t c p d) u 1) ∧
    Retires (.qcred t c p d) s t c 1 3 (fun _ => bit w 14 = true) (fun k k' =>
      let r : Word := BitVec.ofNat 16 (
        if u.consFenced die q then 0
        else if bit w 13 then u.credit die q (.core n)
        else ((u.queueOf die q).visible u.now).length)
      k.Result k' d.toNat r none (some (r == 0)) (some r.msb) none false false)) ∧
  (∀ (s : State) (d q e j k n : Nat) (a c : Agent) (fs : List (List Word)) (last poison : Bool),
    let x := (s.queueOf d q).settle s.now
    let y := ((s.push d q a fs last poison s.now).queueOf d q)
    x.indexOf a = some k → x.consumer = some c → x.flits.length + fs.length ≤ x.depth →
    bit s.injt 15 = false → 512 * e + j ≠ 512 * d + q →
      y.flits.length = x.flits.length + fs.length ∧
      x.flits.Sublist y.flits ∧ (fs.map (fitW 8)).Sublist (y.flits.map (fun f => f.words)) ∧
      y.credits.get (dflt 0) k = x.credits.get (dflt 0) k - fs.length ∧
      (s.push d q a fs last poison s.now).queueOf e j = s.queueOf e j ∧
      (s.push d q a fs last poison s.now).coreOf n = s.coreOf n)

/-! ### Control transfer, exceptions and system instructions -/

/-- BR, Bcc, JMP and LOOP (R262): the pc goes to the target, which counts from the next instruction, where the condition
holds; LOOP decrements Dd first and goes on at 0. Nothing else changes.

CALLM and RETM (R263): CALLM pushes the return address and the registers that the mask names, whole or not at all,
and goes to its target; RETM reads as many words from A7, restores the registers, moves A7 past them and goes to the
address read. Where the push or the read raises or holds, nothing is changed by the instruction itself. -/
def Obligations.BranchesCallsAndReturns : Prop :=
  (∀ (s : State) (t : Nat) (c : CoreId) (d : Reg) (disp : BitVec 10) (d16 : Word) (d6 : BitVec 6) (cc : BitVec 4) (ea : Ea),
    let holds := fun (k : CoreSt) =>
      let b := match cc.toNat % 8 with
        | 0 => true
        | 1 => k.flag 1
        | 2 => !k.flag 0
        | 3 => !k.flag 0 || k.flag 1
        | 4 => k.flag 2 != k.flag 3
        | 5 => k.flag 1 || k.flag 2 != k.flag 3
        | 6 => k.flag 2
        | _ => k.flag 3
      b != cc.getLsbD 3
    Retires (.br t c disp) s t c 1 3 (fun _ => True) (fun k k' => k' = { k with pc := k.pc + disp.signExtend 48 }) ∧
    (cc ≠ 8 → Retires (.bcc t c cc d16 0) s t c 2 3 (fun _ => True) (fun k k' =>
      k' = { k with pc := if holds k then k.pc + d16.signExtend 48 else k.pc })) ∧
    (eaPlain ea = true → eaReserved ea = false →
      Retires (.jmp t c ea 0) s t c (eaLen 1 ea) 3 (fun _ => True) (fun k k' => k' = { k with pc := k.ea 1 ea })) ∧
    Retires (.loop t c d d6) s t c 1 3 (fun _ => True) (fun k k' =>
      let v := k.dr d.toNat - 1
      k' = { k.setD d.toNat v with pc := if v = 0 then k.pc else k.pc + d6.signExtend 48 })) ∧
  (∀ (s : State) (t : Nat) (c : CoreId) (mask : Word) (d32 : BitVec 32) (an : AReg),
    let x := s.to t
    let n := c.toNat
    let regs := (List.range 16).filter (fun j => mask.getLsbD j)
    let call := fun (len : Nat) (tgt : CallTgt) (to_ : CoreSt → Addr) =>
      let u := x.issued n len
      let k := u.coreOf n
      x.Issues n len →
        (u.pushWords n k.bankNo k.ring 2
            ([k.pc.extractLsb' 0 16, k.pc.extractLsb' 16 16, k.pc.extractLsb' 32 16] ++ regs.map k.dr)).Comes
          (fun v => exec (.callm t c mask tgt) s = .next ((v.modCore n (fun k' => { k' with pc := to_ k })).takeHalt n))
          (fun v e => exec (.callm t c mask tgt) s = .next ((v.takeExn n e (x.pcOf n) false).takeHalt n))
          (exec (.callm t c mask tgt) s = .next x)
    let u := x.issued n 2
    let k := u.coreOf n
    call 4 (.disp d32 0) (fun k => k.pc + d32.signExtend 48) ∧
    call 2 (.reg an 0) (fun k => k.ar an.toNat) ∧
    (x.Issues n 2 →
      (u.load n k.ring false (k.ar 7).toNat (3 + regs.length)).Comes
        (fun v ws => exec (.retm t c mask 0) s = .next ((v.modCore n (fun k =>
          let r := (regs.zip (ws.drop 3)).foldl (fun k y => k.setD y.1 y.2) k
          { r.setA 7 (k.ar 7 + BitVec.ofNat 48 (3 + regs.length)) with
            pc := ws.getD 2 0 ++ ws.getD 1 0 ++ ws.getD 0 0 })).takeHalt n))
        (fun v e => exec (.retm t c mask 0) s = .next ((v.takeExn n e (x.pcOf n) false).takeHalt n))
        (exec (.retm t c mask 0) s = .next x)))

/-- The entry into a handler (R215, R218, R221, R229): where the vector can be read, pushes no frame and has a first
instruction that can be fetched, the entry of a core that is not in the double-fault state goes to its address in ring
h, the vector's or the interrupted one where that is more privileged; bank h takes EPC, the status copy, ECAUSE and
EADDR, GM is set where the vector says so and h is 0 or 1, RSM is cleared, and every D, A, V, P and AC register stays. Its
checker repeats it, and no other core changes (R349).

Where the manual is silent this rests on the model's choices, log entries 60. -/
def Obligations.ExceptionEntry : Prop :=
  ∀ (s : State) (c epc j : Nat) (x : Exn) (rsm : Bool),
    let k := s.coreOf c
    let s0 := s.modCore c (fun k => { k with runst := .run, warn := if x.vec = 13 then false else k.warn, sel := none })
    let v := s0.readVector c x.vec
    let e := v.2.toOption.getD ⟨0, 0, false, false⟩
    let h := min e.ring k.ring
    let b := { k.bankAt h with
      epc := BitVec.ofNat 48 epc, esw := k.saved rsm, eaddr := BitVec.ofNat 48 x.eaddr
      ecause := BitVec.ofNat 16 (x.vec + 64 * b2n x.part + 128 * b2n x.wr + 256 * x.detail) }
    let sw := fun (i : Nat) =>
      if i = 8 then (e.gms && decide (h ≤ 1)) || k.flag 8
      else if i = 9 then false
      else if i = 11 then h.testBit 0
      else if i = 12 then h.testBit 1
      else k.flag i
    let entered := { k.modBank h (fun _ => b) with
      pc := BitVec.ofNat 48 e.addr, runst := .run, warn := if x.vec = 13 then false else k.warn, sel := none
      sw := BitVec.ofNat 16 ((List.range 16).foldl (fun a i => a + (if sw i then 2 ^ i else 0)) 0) }
    let y := if (k.bankAt h).esw.getLsbD 13 then v.1.orReg (coreDie c) (coreBlk c) (coreOff c) 0x10 else v.1
    let z := y.modCore c (fun _ => entered)
    k.df = false → x.vec ≠ 5 → v.2.toOption.isSome = true → e.push = false → (z.fetchHandler c e.addr).2 = none →
      v.1.coreOf c = s0.coreOf c →
      s.takeExn c x epc rsm = (z.fetchHandler c e.addr).1 ∧ (v.1.Apart c j → z.coreOf j = v.1.coreOf j)

/-- A synchronous cause that stops an instruction before its own effect is taken with the pc of the instruction: a
reserved field raises RESERVED_FIELD, a privileged instruction in too high a ring PRIVILEGE, DETAIL 1 (R214, R217); an
undefined encoding that issues raises ILLEGAL_OPCODE (R241, R270).

Where the manual is silent this rests on the model's choices, log entries 10. -/
def Obligations.RefusedInstructions : Prop :=
  ∀ (s : State) (t : Nat) (c : CoreId) (rsv : BitVec 4) (w : Word),
    let x := s.to t
    let n := c.toNat
    let raised := fun (i : Instr) (len : Nat) (e : Exn) =>
      exec i s = .next ((((x.fetched n len).1).takeExn n e (x.pcOf n) false).takeHalt n)
    (x.Issues n 1 → rsv ≠ 0 → raised (.nop t c rsv) 1 { vec := 3 } ∧ raised (.rete t c rsv) 1 { vec := 3 }) ∧
    (x.Issues n 1 → 1 < (x.coreOf n).ring → raised (.gmset t c 0) 1 { vec := 4, detail := 1 } ∧
      raised (.gmclr t c 0) 1 { vec := 4, detail := 1 } ∧ raised (.chk t c 0) 1 { vec := 4, detail := 1 }) ∧
    (x.Issues n 1 → 0 < (x.coreOf n).ring → raised (.mpusw t c 0) 1 { vec := 4, detail := 1 } ∧
      raised (.dfclr t c 0) 1 { vec := 4, detail := 1 } ∧ raised (.split t c 0) 1 { vec := 4, detail := 1 } ∧
      raised (.join t c 0) 1 { vec := 4, detail := 1 }) ∧
    (undefinedWord w = true → x.Issues n (insnLen w) → raised (.illegalOpcode t c w) (insnLen w) { vec := 2 })

/-- TRAP (R226, R227, R230): through a gate that is valid for the ring the frame goes onto the stack of the target ring
and the core goes to the target, with GM set where GMS is 1 and that ring is 0 or 1. GATE is raised without effect by the
first check that fails: a number past GTN (DETAIL 1), a gate that is not valid or has reserved bits (2), a ring above LPC
(3), a target ring above the caller's (4); in the double-fault state TRAP raises GATE. A table that cannot be read raises
ACCESS_ERROR; a push that raises or holds leaves the core at the TRAP.

RETE, RETG and DFCLR (R222 to R225, R228, R230, R231): RETE goes back to EPC with SW restored; with no nested frame it
clears ORG, and otherwise it pops a frame of A7 into EPC and ESW. RETG returns by the frame at A7, which it takes off. ORG
0 raises GATE, DETAIL 5, and RING below ORIGIN DETAIL 6, with nothing changed; in the double-fault state both raise GATE.
DFCLR in that state leaves it, with ring 0's EPC and ESW those of the double-fault bank; elsewhere it raises PRIVILEGE,
DETAIL 3.

Where the manual is silent this rests on the model's choices, log entries 63. -/
def Obligations.TrapsAndExceptionReturns : Prop :=
  (∀ (s : State) (t : Nat) (c : CoreId) (g : BitVec 8),
    let x := s.to t
    let n := c.toNat
    let u := x.issued n 1
    let k := u.coreOf n
    let raised := fun (w : State) (e : Exn) =>
      exec (.trap t c g 0) s = .next ((w.takeExn n e (x.pcOf n) false).takeHalt n)
    let r := u.readTable n (k.gtb.toNat + 4 * g.toNat)
    let ws := r.2.toOption.getD []
    let w := ws.getD 3 0
    let ring := (w.extractLsb' 0 2).toNat
    let valid := w.getLsbD 4 = true ∧ w.toNat < 64
    let mayCall := k.ring ≤ (w.extractLsb' 2 2).toNat
    let k' := r.1.coreOf n
    x.Issues n 1 →
      (k.df = true → raised u { vec := 5 }) ∧
      (k.df = false → k.gtn.toNat ≤ g.toNat → raised u { vec := 5, detail := 1 }) ∧
      (k.df = false → g.toNat < k.gtn.toNat →
        (r.2.toOption.isSome = false →
          let e := match r.2 with
            | .error e => e
            | .ok _ => (0, 0)
          raised r.1 { vec := 10, detail := e.1, eaddr := e.2 }) ∧
        (r.2.toOption.isSome = true →
          (¬valid → raised r.1 { vec := 5, detail := 2 }) ∧
          (valid → ¬mayCall → raised r.1 { vec := 5, detail := 3 }) ∧
          (valid → mayCall → k.ring < ring → raised r.1 { vec := 5, detail := 4 }) ∧
          (valid → mayCall → ring ≤ k.ring →
            (r.1.pushWords n ring ring 3 ([k'.saved false] ++
                [k'.pc.extractLsb' 0 16, k'.pc.extractLsb' 16 16, k'.pc.extractLsb' 32 16])).Comes
              (fun v => exec (.trap t c g 0) s = .next ((v.modCore n (fun k =>
                let sw := withRing k.sw ring
                { k with
                  pc := ws.getD 2 0 ++ ws.getD 1 0 ++ ws.getD 0 0
                  sw := if w.getLsbD 5 && decide (ring ≤ 1) then setBit sw 8 true else sw })).takeHalt n))
              raised (exec (.trap t c g 0) s = .next x))))) ∧
  (∀ (s : State) (t : Nat) (c : CoreId) (j : Nat),
    let x := s.to t
    let n := c.toNat
    let u := x.issued n 1
    let k := u.coreOf n
    let raised := fun (i : Instr) (w : State) (e : Exn) =>
      exec i s = .next ((w.takeExn n e (x.pcOf n) false).takeHalt n)
    let back := fun (k : CoreSt) (w : Word) (rete : Bool) (i : Nat) =>
      if 13 ≤ i then false
      else if i = 8 then (if k.ring ≤ 1 then w.getLsbD 8 else k.flag 8)
      else if i = 10 then (if rete && k.ring == 0 then w.getLsbD 10 else k.flag 10)
      else w.getLsbD i
    let bank := k.bankAt k.ring
    let esw := bank.esw
    let kept := fun (y v : State) (k' : CoreSt) =>
      let r := y.coreOf n
      r = { k' with sw := r.sw, runst := r.runst, haltReq := r.haltReq, haltedAt := r.haltedAt } ∧
        (v.Apart n j → y.coreOf j = v.coreOf j)
    (x.Issues n 1 →
      (k.df = true → raised (.rete t c 0) u { vec := 5 } ∧ raised (.retg t c 0) u { vec := 5 }) ∧
      (k.df = false → esw.getLsbD 13 = false → raised (.rete t c 0) u { vec := 5, detail := 5 }) ∧
      (k.df = false → esw.getLsbD 13 = true → (esw.extractLsb' 11 2).toNat < (esw.extractLsb' 14 2).toNat →
        raised (.rete t c 0) u { vec := 5, detail := 6 })) ∧
    Retires (.rete t c 0) s t c 1 3
      (fun k => k.df = false ∧ esw.getLsbD 13 = true ∧ (esw.extractLsb' 14 2).toNat ≤ (esw.extractLsb' 11 2).toNat ∧
        (k.bankAt k.ring).enest = 0)
      (fun k k' =>
        k' = { k.modBank k.ring (fun b => { b with esw := setBit b.esw 13 false }) with
          pc := (k.bankAt k.ring).epc, sw := k'.sw } ∧
        ∀ i < 16, k'.sw.getLsbD i = back k esw true i) ∧
    (x.Issues n 1 → k.df = false →
      (u.load n k.ring false (k.ar 7).toNat 4).Comes
        (fun v ws =>
          let w := ws.getD 0 0
          let pc := ws.getD 3 0 ++ ws.getD 2 0 ++ ws.getD 1 0
          let from_ := max (w.extractLsb' 14 2).toNat k.ring
          let to_ := (w.extractLsb' 11 2).toNat
          v.coreOf n = k →
            (w.getLsbD 13 = false → raised (.retg t c 0) v { vec := 5, detail := 5 }) ∧
            (w.getLsbD 13 = true → to_ < from_ → raised (.retg t c 0) v { vec := 5, detail := 6 }) ∧
            (w.getLsbD 13 = true → from_ ≤ to_ →
              Answers (.retg t c 0) s (fun y =>
                kept y v { k.setA 7 (k.ar 7 + 4) with pc := pc } ∧
                ∀ i < 16, (y.coreOf n).sw.getLsbD i = back k w false i)) ∧
            (esw.getLsbD 13 = true → (esw.extractLsb' 14 2).toNat ≤ (esw.extractLsb' 11 2).toNat → bank.enest ≠ 0 →
              Answers (.rete t c 0) s (fun y =>
                kept y v { (k.setA 7 (k.ar 7 + 4)).modBank k.ring (fun b =>
                  { b with epc := pc, esw := BitVec.ofNat 2 from_ ++ w.extractLsb' 0 14, enest := b.enest - 1 }) with
                    pc := bank.epc } ∧
                ∀ i < 16, (y.coreOf n).sw.getLsbD i = back k esw true i)))
        (fun v e => raised (.retg t c 0) v e ∧
          (esw.getLsbD 13 = true → (esw.extractLsb' 14 2).toNat ≤ (esw.extractLsb' 11 2).toNat → bank.enest ≠ 0 →
            raised (.rete t c 0) v e))
        (exec (.retg t c 0) s = .next x)) ∧
    (x.Issues n 1 → (x.coreOf n).ring = 0 →
      (k.df = false → raised (.dfclr t c 0) u { vec := 4, detail := 3 }) ∧
      (k.df = true → Answers (.dfclr t c 0) s (fun y =>
        y.coreOf n = { k.modBank 0 (fun b => { b with epc := (k.bankAt 4).epc, esw := (k.bankAt 4).esw }) with df := false } ∧
        (u.Apart n j → y.coreOf j = u.coreOf j)))))

/-- MFS and MTS (R210, R211, R265): MFS reads word W of a system register into a D register, or the whole of one of 48
bits into an A register, where the ring may read it; MTS of a register of one word, or from an A register, writes it
whole. A ring that may not, or a register without that access, raises PRIVILEGE, DETAIL 2. A write of VBR, GTB or GTN that they cannot
hold is dropped with RSVD and SYSREG_RSVD.

NOP, FENCE, SYNC, CHK, WAIT, GMSET, GMCLR and MPUSW (R204, R234, R266, R358): the waits of FENCE hold while the write
buffer is not empty; CHK opens a window and takes a checkpoint of the core as it stands; the others change the one
bit or state that they name.

Where the manual is silent this rests on the model's choices, log entries 61, 62. -/
def Obligations.SystemRegistersAndGroup : Prop :=
  (∀ (s : State) (t : Nat) (c : CoreId) (o : SysArg),
    let x := s.to t
    let n := c.toNat
    let u := x.issued n 2
    let k := u.coreOf n
    let num := o.num.toNat
    let reg := (sysReg num).getD ⟨1, none, none⟩
    let raised := fun (i : Instr) =>
      exec i s = .next ((u.takeExn n { vec := 4, detail := 2 } (x.pcOf n) false).takeHalt n)
    let v := if o.a = 1 then (k.ar (o.reg.toNat % 8)).toNat else (k.dr o.reg.toNat).toNat
    sysReserved o = false →
      (x.Issues n 2 → ringRefused k.ring reg.read = true → raised (.mfs t c o)) ∧
      (x.Issues n 2 → ringRefused k.ring reg.write = true → raised (.mts t c o)) ∧
      Retires (.mfs t c o) s t c 2 3 (fun k => ringRefused k.ring reg.read = false) (fun k k' =>
        k' = if o.a = 1 then k.setA (o.reg.toNat % 8) (BitVec.ofNat 48 (u.sysRead n num))
          else k.setD o.reg.toNat (BitVec.ofNat 16 (u.sysRead n num / 2 ^ (16 * o.w.toNat)))) ∧
      (x.Issues n 2 → ringRefused k.ring reg.write = false → o.a = 1 ∨ reg.words = 1 →
        exec (.mts t c o) s = .next ((if sysRefused num v
          then (u.orReg (coreDie n) (coreBlk n) (coreOff n) 0x8000).raise (coreDie n) (coreBlk n) 3
          else u.sysPut n num v).takeHalt n))) ∧
  (∀ (s : State) (t : Nat) (c : CoreId) (j : Nat),
    let x := s.to t
    let n := c.toNat
    let u := x.issued n 1
    let k := u.coreOf n
    let e := coreEng n
    let empty := fun (k : CoreSt) => k.wb = []
    Retires (.nop t c 0) s t c 1 3 (fun _ => True) (fun k k' => k' = k) ∧
    Retires (.fence t c 0) s t c 1 3 empty (fun k k' => k' = k) ∧
    Retires (.sync t c 0) s t c 1 3 empty (fun k k' => k' = k) ∧
    Retires (.wait t c 0) s t c 1 2 (fun _ => True) (fun k k' => k' = { k with runst := .wait }) ∧
    Retires (.gmset t c 0) s t c 1 1 (fun _ => True) (fun k k' => k' = { k with sw := setBit k.sw 8 true }) ∧
    Retires (.gmclr t c 0) s t c 1 1 (fun k => k.df = false) (fun k k' => k' = { k with sw := setBit k.sw 8 false }) ∧
    Retires (.gmclr t c 0) s t c 1 1 (fun k => k.df = true) (fun k k' => k' = k) ∧
    Retires (.mpusw t c 0) s t c 1 0 empty (fun k k' => k' = { k with sw := setBit k.sw 10 (!k.flag 10) }) ∧
    (x.Issues n 1 → (x.coreOf n).ring = 0 → k.wb ≠ [] →
      exec (.fence t c 0) s = .next x ∧ exec (.sync t c 0) s = .next x ∧ exec (.mpusw t c 0) s = .next x ∧
      exec (.chk t c 0) s = .next x ∧ exec (.split t c 0) s = .next x ∧ exec (.join t c 0) s = .next x) ∧
    (x.Issues n 1 → (x.coreOf n).ring ≤ 1 → k.wb = [] → u.isSplit e = false →
      Answers (.chk t c 0) s (fun y =>
        (y.engOf e).ckValid = true ∧ (y.engOf e).ckpt = some (u.coreOf (2 * e)) ∧ (y.engOf e).journal = [] ∧
        (y.engOf e).windowAt = u.now ∧ (j ≠ e → y.engOf j = u.engOf j) ∧ y.coreOf j = u.coreOf j)))

/-- SPLIT and JOIN (R368, R369, R370): the result in D0 is 3, 4 or 0 as the table of R368 says, and with a result other
than 0 nothing else changes. A SPLIT that succeeds puts the engine into SPLIT, and both cores go on 18 CK1 later, En.K
as En.M stands but for SNOTE, the SOFT bits and what belongs to its reset; a JOIN that succeeds stops En.K and starts
the hand-over.

Where the manual is silent this rests on the model's choices, log entries 64. -/
def Obligations.SplitAndJoin : Prop :=
  ∀ (s : State) (t : Nat) (c : CoreId),
    let x := s.to t
    let n := c.toNat
    let u := x.issued n 1
    let e := coreEng n
    let k := u.coreOf n
    Retires (.split t c 0) s t c 1 0
      (fun k => k.wb = [] ∧ (u.isSplit e = true ∨ u.canSwitch e = false ∨ k.df = true)) (fun k k' =>
        k' = k.setD 0 (if u.isSplit e then 3 else if u.canSwitch e then 3 else 4)) ∧
    Retires (.join t c 0) s t c 1 0
      (fun k => k.wb = [] ∧ (u.isSplit e = false ∨ coreIdx n = 1 ∨ u.canSwitch e = false ∨ k.df = true ∨
        (u.coreOf (2 * e + 1)).runst = .halted)) (fun k k' =>
        k' = k.setD 0 (if u.isSplit e = false ∨ coreIdx n = 1 then 3 else if u.canSwitch e then 3 else 4)) ∧
    (x.Issues n 1 → (x.coreOf n).ring = 0 → k.wb = [] → u.isSplit e = false → u.canSwitch e = true → k.df = false →
      n = 2 * e →
      Answers (.split t c 0) s (fun y =>
        y.coreOf n = { k.setD 0 0 with resumeAt := u.now + 18 } ∧ (y.engOf e).state = .split ∧
        y.coreOf (n + 1) = { k.setD 0 0 with
          resumeAt := u.now + 18, snAddr := 0, snCount := 0, snMulti := false, soft := 0, warn := false,
          lastRst := (u.coreOf (n + 1)).lastRst, triples := (u.coreOf (n + 1)).triples })) ∧
    (x.Issues n 1 → (x.coreOf n).ring = 0 → k.wb = [] → u.isSplit e = true → u.canSwitch e = true → k.df = false →
      n = 2 * e → (u.coreOf (n + 1)).runst ≠ .halted →
      Answers (.join t c 0) s (fun y =>
        y.coreOf n = k.setD 0 0 ∧ (y.engOf e).state = .handover ∧ (y.coreOf (n + 1)).runst = .reset ∧
        (y.engOf e).joinAt = if (u.coreOf (n + 1)).wb = [] then some (u.now + 1) else none))

/-- The block instructions (R237, R267, R268): with a count of 0 left they complete, with SW.RSM clear; BCRC with RAW 0
and RSM 0 then gives the check value of no words. With no element performed and words left they stop at the boundary
with RSM set and the pc on the instruction. An element is what is left of the aligned 8-word block of the pointer:
BFILL stores Dx there, BMOV what it read from As, BCRC folds it in; the pointers advance and the count falls.

Where the manual is silent this rests on the model's choices, log entries 71. -/
def Obligations.BlockInstructions : Prop :=
  ∀ (s : State) (t : Nat) (c : CoreId) (o : BlockArg) (n : Nat),
    let x := s.to t
    let i := c.toNat
    let u := x.issued i 2
    let k := u.coreOf i
    let done := fun (k : CoreSt) => k.dr o.dc.toNat = 0
    let m := min (k.dr o.dc.toNat).toNat (8 - (k.ar o.ad.toNat).toNat % 8)
    let fits := o.rsvHi = 0 ∧ o.rsvLo = 0
    (fits → o.raw = 0 → o.poly = 0 → o.dx = 0 →
      Retires (.bmov t c o n) s t c 2 3 done (fun k k' => k' = { k with sw := setBit k.sw 9 false }) ∧
      Retires (.bmov t c o 0) s t c 2 3 (fun k => ¬done k) (fun k k' =>
        k' = { k with sw := setBit k.sw 9 true, pc := k.pc - 2 })) ∧
    (fits → o.raw = 0 → o.poly = 0 → o.as_ = 0 →
      Retires (.bfill t c o n) s t c 2 3 done (fun k k' => k' = { k with sw := setBit k.sw 9 false }) ∧
      (x.Issues i 2 → 0 < (k.dr o.dc.toNat).toNat → (k.dr o.dc.toNat).toNat = m → o.dx ≠ o.dc →
        u.elementExn i k.ring [] (wordsFrom (k.ar o.ad.toNat).toNat m) = none →
        (u.storeAt i k.ring true (k.ar o.ad.toNat).toNat (List.replicate m (k.dr o.dx.toNat))).Comes
          (fun v => v.coreOf i = k → exec (.bfill t c o 1) s = .next ((v.modCore i (fun k =>
            { ((k.setA o.ad.toNat (k.ar o.ad.toNat + BitVec.ofNat 48 m)).setD o.dc.toNat 0) with
              sw := setBit k.sw 9 false })).takeHalt i))
          (fun v e => exec (.bfill t c o 1) s = .next ((v.takeExn i e (x.pcOf i) true).takeHalt i)) True)) ∧
    (fits → o.poly ≠ 3 → o.ad = 0 → o.dx.getLsbD 0 = false →
      (o.raw = 1 → Retires (.bcrc t c o n) s t c 2 3 done (fun k k' => k' = { k with sw := setBit k.sw 9 false })) ∧
      (o.raw = 0 → o.poly = 0 → o.dc ≠ o.dx → o.dc.toNat ≠ o.dx.toNat + 1 →
        Retires (.bcrc t c o n) s t c 2 3 (fun k => done k ∧ k.flag 9 = false) (fun k k' =>
          k' = { (k.setD o.dx.toNat 0).setD (o.dx.toNat + 1) 0 with sw := setBit k.sw 9 false })))

/-- INTERRUPT_ENTRY, TIMER_LINE and the write buffer (R203, R205, R217, R232 to R236, R256, R369): the cause that a core
which issues or waits has selected, or without one the first that is pending, is taken with GM clear, with the pc that
the core stands at, although the source of a selected one has fallen; with GM set, or without a cause, none is. A cause
before cycle 4 of a SPLIT cancels the SPLIT. CYC = TCMP shows in IPEND alone, but a core in WAIT with GM set goes on. The
oldest entry of a write buffer starts to drain, and once acknowledged it is gone and its words stand in memory.

Where the manual is silent this rests on the model's choices, log entries 72, 125. -/
def Obligations.AsynchronousCauses : Prop :=
  ∀ (s : State) (t : Nat) (c : CoreId) (v a j : Nat) (ws : List Word) (es : List WbEntry) (k0 : CoreSt),
    let x := s.to t
    let n := c.toNat
    let k := x.coreOf n
    let g := x.engOf (coreEng n)
    let stands := x.coreLive n = true ∧ g.modeCmd = none ∧ (k.runst = .run ∨ k.runst = .wait) ∧ k.resumeAt ≤ x.now
    let e : WbEntry := ⟨(wordsFrom a ws.length).zip ws |>.map (fun w => (BitVec.ofNat 48 w.1, w.2)), true⟩
    (stands → g.preSplit = none → k.flag 8 = false →
      (x.held n = none → x.asyncVec n = some v →
        exec (.interruptEntry t c) s = .next ((x.takeExn n { vec := v } k.pc.toNat false).takeHalt n)) ∧
      (x.held n = some v → x.asyncPending n v = false →
        exec (.interruptEntry t c) s = .next ((x.takeExn n { vec := v } k.pc.toNat false).takeHalt n))) ∧
    (stands → g.preSplit = none → k.flag 8 = true → k.runst = .run →
      Answers (.interruptEntry t c) s (fun y => y.coreOf n = k ∧ (x.Apart n j → y.coreOf j = x.coreOf j))) ∧
    (x.entryVec n = none → exec (.interruptEntry t c) s = .next x ∧ exec (.timerLine t c) s = .next x) ∧
    (coreIdx n = 0 → g.state = .split → g.preSplit = some k0 → x.now + 13 < g.splitAt → k0.flag 8 = false →
      x.asyncVec n = some v →
        (let z := x.unsplit (coreEng n) k0
         exec (.interruptEntry t c) s = exec (.interruptEntry t c) z ∧ (z.engOf (coreEng n)).state = .locked ∧
          (z.engOf (coreEng n)).preSplit = none ∧ z.coreOf n = k0)) ∧
    (k.flag 8 = false ∨ k.runst ≠ .wait → exec (.timerLine t c) s = .next x) ∧
    (stands → g.preSplit = none → k.flag 8 = true → k.runst = .wait → x.asyncVec n = some v →
      Answers (.timerLine t c) s (fun y =>
        y.coreOf n = { k with runst := .run } ∧ (x.Apart n j → y.coreOf j = x.coreOf j) ∧ y.mem = x.mem)) ∧
    (bits (x.intSel n j) 1 0 = 2 → x.ipend n j = decide (k.tcmp.toNat ≤ x.cyc n)) ∧
    Answers (.writeBufferDrain t c) s (fun y =>
      y.coreOf n = { k with wb := match k.wb with | [] => [] | e :: es => { e with draining := true } :: es } ∧
      (x.Apart n j → y.coreOf j = x.coreOf j) ∧ y.mem = x.mem) ∧
    (k.wb = e :: es → 0x01000000 ≤ a → a / 8 = (a + ws.length - 1) / 8 → ws.length = 8 → a + 8 ≤ 0x01800000 →
      x.enumerated = true → (x.die 1).fenced = false →
      Answers (.writeBufferAck t c false) s (fun y =>
        (y.coreOf n).wb = es ∧ y.rd j = (if a ≤ j ∧ j < a + 8 then ws.getD (j - a) 0 else x.rd j)))

/-! ### Frames, Sifters, the Gate, time and position -/

/-- FRAME_BOUNDARY and INTAKE_CUTOFF (R100, R102 to R104, R114, R148): at its boundary the open frame is sealed and comes
under decision, the next frame opens at the boundary with the opening time that the cutoff computed, and the clear of
the slot after it starts; no core and no word of memory changes. At the cutoff edge the next opening time is the device
time 288 CK8 after it. Before its edge, and with the frame clock stopped, neither changes anything. -/
def Obligations.FrameClock : Prop :=
  ∀ (s : State) (t j : Nat),
    let x := s.to t
    (x.lat.running = false → exec (.frameBoundary t) s = .next x ∧ exec (.intakeCutoff t) s = .next x) ∧
    (x.now < x.boundaryAt → exec (.frameBoundary t) s = .next x) ∧
    (x.now < x.cutoffAt → exec (.intakeCutoff t) s = .next x) ∧
    (x.lat.running = true → x.boundaryAt ≤ x.now → Answers (.frameBoundary t) s (fun y =>
      y.lat.fn = x.lat.fn + 1 ∧ y.lat.openAt = x.boundaryAt ∧ y.lat.cutoff = false ∧
      (x.lat.cutoff = true → y.lat.bTime = x.lat.nextBTime) ∧
      y.vdg.fn = x.lat.fn ∧ y.vdg.boundary = x.boundaryAt ∧ y.vdg.pending = true ∧
      y.lat.clear.map (fun c => c.slot) = some ((x.lat.fn + 2).extractLsb' 0 6) ∧
      y.coreOf j = x.coreOf j ∧ y.mem = x.mem)) ∧
    (x.lat.running = true → x.lat.cutoff = false → x.cutoffAt ≤ x.now →
      exec (.intakeCutoff t) s = .next { x with lat := { x.lat with
        cutoff := true
        nextBTime := BitVec.ofNat 48 ((x.time32At x.cutoffAt + 288 * x.time.step) / 2 ^ 32 / 1000) } })

/-- CLEAR_WRITE and SLOT_CLEAR_END (R104, R308): a CLR position writes 0 to the next 16 lines of the slot, or leaves the
lines of a lane with a parity error; 262,144 CK8 after its start the clear ends, with 0 in every line not yet written. No
word outside those lines changes. Without a clear nothing happens. -/
def Obligations.SlotClears : Prop :=
  ∀ (s : State) (t a : Nat) (parity : Word) (c : ClearSt),
    let x := s.to t
    (x.lat.clear = none → exec (.clearWrite t parity) s = .next x ∧ exec (.slotClearEnd t) s = .next x) ∧
    (x.lat.clear = some c → hbmBase ≤ c.base → c.base + 0x400000 ≤ hbmBase + 0x200000000 → c.base % 32 = 0 → x.dead 0 = false →
      (c.nextLine + 16 ≤ 131072 → Answers (.clearWrite t parity) s (fun y =>
        let line := (a - c.base) / 32
        let here := c.base ≤ a ∧ c.nextLine ≤ line ∧ line < c.nextLine + 16 ∧ parity.getLsbD (line % 16) = false
        y.rd a = (if here then 0 else x.rd a) ∧
        y.lat.clear = some { c with
          nextLine := c.nextLine + 16
          failed := c.failed ++ ((List.range 16).map (fun i => c.nextLine + i)).filter
            (fun l => parity.getLsbD (l % 16)) })) ∧
      (x.now < c.startedAt + 262144 * ck8 → exec (.slotClearEnd t) s = .next x) ∧
      (c.startedAt + 262144 * ck8 ≤ x.now → c.nextLine ≤ 131072 → c.failed = [] → x.lat.clearOne = false →
        Answers (.slotClearEnd t) s (fun y =>
          y.rd a = (if c.base + 32 * c.nextLine ≤ a ∧ a < c.base + 0x400000 then 0 else x.rd a) ∧
          y.lat.clear = none)))

/-- The motion table (R123, R124, R171, R172): a step of the integrator turns the heading by the yaw increment and moves
along it by the distance; the Attestor publishes a formed sample of the open frame, not before its due time; a sample
that passes its due time unpublished is reported once for the frame, and the frame's notice carries EGO_GAP.

Where the manual is silent this rests on the model's choices, log entries 6, 95, 122. -/
def Obligations.MotionSamples : Prop :=
  ∀ (s : State) (t : Nat) (k : Nat) (v : MotionSample) (d : Int),
    let x := s.to t
    let due := x.lat.openAt + k * sampleStepCk1 + publishCk1
    (x.lat.running = false → x.flagL 0 0x0A 0 1 = true → x.integ.dpsi = some d → x.flagL 0 0x0A 0 2 = false →
      Answers (.sampleStep t) s (fun y =>
        y.integ.cur = { x.integ.cur with psi := x.integ.cur.psi + d } ∧ y.integ.dpsi = none ∧
        y.pos.drDead = true ∧ y.pos.odo = x.pos.odo)) ∧
    (x.lat.running = false → x.flagL 0 0x0A 0 1 = false → x.flagL 0 0x0A 0 2 = true → x.pos.msPair = true →
      (x.live 0 0x0A 2) ≠ 0 →
      Answers (.sampleStep t) s (fun y =>
        let mm := x.port.msi.pulses.toNat * 1000000 / (x.live 0 0x0A 2).toNat
        let m : Int := (mm : Int) - x.integ.mmPrev
        y.integ.cur = { x.integ.cur with
          ax := x.integ.cur.ax + m * cosQ14 x.integ.cur.psi, ay := x.integ.cur.ay + m * sinQ14 x.integ.cur.psi } ∧
        y.integ.mmPrev = mm ∧ y.pos.drDead = false ∧ y.pos.odo = x.pos.odo + BitVec.ofInt 48 m)) ∧
    (x.lat.running = true → due ≤ x.now → x.lat.motCur.formed.get (dflt none) (k + 40) = some v →
      Answers (.motionSamplePublish t false k) s (fun y =>
        y.lat.motCur.samples.get (dflt none) (k + 40) = some v ∧
        y.lat.motCur.formed.get (dflt none) (k + 40) = none ∧ y.mem = x.mem)) ∧
    (x.now < due → exec (.motionSamplePublish t false k) s = .next x) ∧
    (x.staleDue = false → exec (.egoStale t) s = .next x) ∧
    (x.staleDue = true → x.lat.motCur.staleReported = false → Answers (.egoStale t) s (fun y =>
      y.lat.cur = { x.lat.cur with egoGap := true } ∧ y.lat.motCur.staleReported = true)) ∧
    (x.staleDue = true → x.lat.motCur.staleReported = true → exec (.egoStale t) s = .next x)

/-- The Sifters (R109 to R111): a Sifter that turns to its next batch pops one header and opens the batch that it
describes, which is discarded where the header is malformed or no frame takes points; one point of an open batch counts
in SFT_TAKEN; a discard pops one flit and ends at LAST. Nothing visible, nothing happens.

The column of a point (R118, R125, R126): a class and band that merge into it raise the class to the greater, count
the point up to 15, and set the band's bit, leaving the others.

Where the manual is silent this rests on the model's choices, log entries 8. -/
def Obligations.SifterBatchesAndColumns : Prop :=
  (∀ (s : State) (t m : Nat) (n mism : Bool) (f : Flit) (b : BatchSt),
    let x := s.to t
    let i := sftNo n
    let k := x.sft i
    (k.batch.isSome = true ∨ x.sftOn i = false ∨ x.nextInput i = none → exec (.sifterBatchStart t n) s = .next x) ∧
    (k.batch = none → x.sftOn i = true → x.nextInput i = some m → x.head 0 (x.hdrQ i m) = some f → f.last = false →
      (x.queueOf 0 (x.hdrQ i m)).consumer.isSome = true →
      Answers (.sifterBatchStart t n) s (fun y =>
        (y.sft i).batch = some ⟨BitVec.ofNat 2 m, (f.words.getD 1 0).toNat,
          f.words.getD 4 0 ++ f.words.getD 3 0 ++ f.words.getD 2 0, 0, 0,
          x.quietIntake || !(headerOk f.words && !f.poison)⟩ ∧
        (y.sft i).lastInput = BitVec.ofNat 2 m ∧
        (y.queueOf 0 (x.hdrQ i m)).flits = (x.queueOf 0 (x.hdrQ i m)).flits.drop 1)) ∧
    (k.batch = none → exec (.sifterPointTake t n mism) s = .next x ∧ exec (.sifterDiscardPop t n) s = .next x) ∧
    (k.batch = some b → b.discard = false → b.off = 0 → b.taken + 1 < b.count →
      x.head 0 (x.ptQ i b.input.toNat) = some f → f.poison = false → f.words.length = 8 →
      Answers (.sifterPointTake t n mism) s (fun y =>
        (y.sft i).taken = k.taken + 1 ∧ (y.sft i).batch = some { b with taken := b.taken + 1, off := 5 } ∧
        y.queueOf 0 (x.ptQ i b.input.toNat) = x.queueOf 0 (x.ptQ i b.input.toNat))) ∧
    (k.batch = some b → b.discard = true → x.head 0 (x.ptQ i b.input.toNat) = some f →
      (x.queueOf 0 (x.ptQ i b.input.toNat)).consumer.isSome = true →
      Answers (.sifterDiscardPop t n) s (fun y =>
        (y.sft i).batch = (if f.last then none else some b) ∧
        (y.queueOf 0 (x.ptQ i b.input.toNat)).flits = (x.queueOf 0 (x.ptQ i b.input.toNat)).flits.drop 1))) ∧
  (∀ (w : Word) (c b : Nat), c < 16 → b < 8 →
    let v := mergeColumn w c b
    (v.extractLsb' 0 4).toNat = max (w.extractLsb' 0 4).toNat c ∧
    (v.extractLsb' 4 4).toNat = min ((w.extractLsb' 4 4).toNat + 1) 15 ∧
    ∀ i < 8, v.getLsbD (8 + i) = (w.getLsbD (8 + i) || decide (i = b)))

/-- The vote (R150 to R152): in MAJORITY, two votes decide STOP, then GO, then LIMIT, and three votes without two alike
are STOP; in the other mode one STOP decides, and all votes in hand decide LIMIT where one of them is, else GO; a LIMIT
has the lowest cap. -/
def Obligations.VoteRules : Prop :=
  ∀ (n : Nat) (vs : List Vote),
    let count := fun v => (vs.filter (fun x => x.verdict == v)).length
    (2 ≤ count .stop → evaluate true n vs = some ⟨.stop, 0⟩) ∧
    (count .stop < 2 → 2 ≤ count .go → evaluate true n vs = some ⟨.go, 0⟩) ∧
    (count .stop < 2 → count .go < 2 → 2 ≤ count .limit →
      (evaluate true n vs).map (fun x => x.verdict) = some .limit) ∧
    (count .stop < 2 → count .go < 2 → count .limit < 2 → 3 ≤ vs.length → evaluate true n vs = some ⟨.stop, 0⟩) ∧
    (count .stop < 2 → count .go < 2 → count .limit < 2 → vs.length < 3 → evaluate true n vs = none) ∧
    (1 ≤ count .stop → evaluate false n vs = some ⟨.stop, 0⟩) ∧
    (count .stop = 0 → 1 ≤ n → n ≤ vs.length → count .limit = 0 → evaluate false n vs = some ⟨.go, 0⟩) ∧
    (count .stop = 0 → 1 ≤ n → n ≤ vs.length → 1 ≤ count .limit →
      (evaluate false n vs).map (fun x => x.verdict) = some .limit) ∧
    (count .stop = 0 → vs.length < n → evaluate false n vs = none) ∧
    ((∀ x ∈ vs, x.verdict = .limit → 1 ≤ x.cap.toNat) →
      ∀ x ∈ vs, x.verdict = .limit → (lowCap vs).toNat ≤ x.cap.toNat)

/-- The Verdict Gate's edges (R147 to R158): with one producer and the mode that is not MAJORITY, its first well-formed
flit for the frame under decision, in time, is popped and decides it; at the deadline an undecided frame is STOP and
VDG_DEFAULT counts; a half-period inverts a pair that toggles at the pads; a pad that differs is reported, but for the 4
CK4 that follow a commanded change. Where no frame is under
decision, or the device does not supervise, the deadline does nothing.

Where the manual is silent this rests on the model's choices, log entries 103, 113. -/
def Obligations.GateEdges : Prop :=
  ∀ (s : State) (t j : Nat) (v : Vote) (f : Flit),
    let x := s.to t
    let q := x.prodQueue 0
    let pair := x.vdg.veto.settle x.now
    (x.vdg.pending = false ∨ x.cfg.state.supervising = false ∨ x.now < x.deadlineAt →
      exec (.deadline t false) s = .next x) ∧
    (x.vdg.pending = true → x.cfg.state.supervising = true → x.deadlineAt ≤ x.now →
      (∀ n < min x.nProd 3, x.head 0 (x.prodQueue n) = none) → evaluate x.majority x.nProd x.votes = none →
      Answers (.deadline t false) s (fun y =>
        y.vdg.pending = false ∧ y.vdg.decision = ⟨.stop, 0⟩ ∧ y.vdg.cDefault = satInc x.vdg.cDefault ∧
        y.mem = x.mem ∧ y.coreOf j = x.coreOf j)) ∧
    (x.vdg.pending = true → x.vdg.sealedOnce = true → x.cfg.state.supervising = true → x.majority = false →
      x.nProd = 1 → x.head 0 q = some f → f.poison = false → (x.queueOf 0 q).consumer.isSome = true →
      (x.engOf (x.prodEngine 0)).state ≠ .fenced → flitVote (x.prodEngine 0) f.words = some v →
      f.words.getD 5 0 ++ f.words.getD 4 0 = x.vdg.fn → x.now ≤ x.deadlineAt →
      (x.prodOf 0).madeStop = false → (x.prodOf 0).first = none →
      Answers (.verdictFlitPop t false) s (fun y =>
        y.vdg.pending = false ∧ y.vdg.decision = v ∧ (y.prodOf 0).first = some f.words ∧
        y.mem = x.mem ∧ y.coreOf j = x.coreOf j)) ∧
    ((∀ n < min x.nProd 3, x.head 0 (x.prodQueue n) = none) → x.vdg.pending = false →
      exec (.verdictFlitPop t false) s = .next x) ∧
    (pair.toggling = true → pair.changedAt + 7500 * ck4 ≤ x.now →
      exec (.vetoToggle t) s = .next { x with vdg := { x.vdg with veto := { pair with
        t := pair.c, c := pair.t, changedAt := pair.changedAt + 7500 * ck4 } } }) ∧
    (pair.toggling = false ∨ x.now < pair.changedAt + 7500 * ck4 →
      exec (.vetoToggle t) s = .next { x with vdg := { x.vdg with veto := pair } }) ∧
    (x.now < pair.changedAt + 12 * ck4 → exec (.vdgPin t) s = .next x) ∧
    (pair.changedAt + 12 * ck4 ≤ x.now → exec (.vdgPin t) s = .next (x.raise 0 0x08 2))

/-- Device time (R166 to R169): PPS_IN latches it; 10 s after the last TIME_SYNC a LOCKED time base goes to HOLDOVER and
reports it; in HOLDOVER each further 10,000 µs of device time counts one into TIME_UNC; none of them moves device time.
Where the time has not come, nothing changes that software reads.

The Position Attestor and the pack (R135, R171, R173, R174): pairing sets or clears MSPAIR, where the motion sensor
is enabled; a fix without a GNSS solution, or with the receiver off, takes the dead-reckoned place, heading and protection
level, keeps AUTH and SPOOF, and SPVALID is pairing, no spoof and agreement; an authenticated solution within HPL gives the
place, and one beyond twice HPL at 10 fixes in a row sets SPOOF; an expansion that does not run does not end. A running one
ends READY where its steps found nothing wrong, and otherwise FAILED with their cause: 7 where there is no region. -/
def Obligations.TimePositionAndPack : Prop :=
  (∀ (s : State) (t : Nat),
    let x := s.to t
    exec (.ppsIn t) s = .next { x with time := { x.time with pps := x.timeNow } } ∧
    (x.time.tq = .locked → x.time.syncAt + 10 * secCk1 ≤ x.now → Answers (.timeHold t) s (fun y =>
      y.time.tq = .holdover ∧ y.time32 = x.time32 ∧ y.time.unc = x.time.unc ∧ y.mem = x.mem)) ∧
    (x.time.tq ≠ .locked ∨ x.now < x.time.syncAt + 10 * secCk1 → exec (.timeHold t) s = .next x) ∧
    (x.time.tq = .holdover → 10000000 * 2 ^ 32 ≤ x.time.hoAcc + x.time.step * ((x.now - x.clk.marker) / ck8 - x.time.tick) →
      Answers (.holdoverUncStep t) s (fun y =>
        y.time.unc = satInc x.time.unc ∧ y.time.tq = .holdover ∧ y.time32 = x.time32 ∧ y.mem = x.mem)) ∧
    (x.time.tq ≠ .holdover → exec (.holdoverUncStep t) s = .next x)) ∧
  (∀ (s : State) (t j : Nat) (f : FixInput) (g : GnssSol),
    let x := s.to t
    (x.flagL 0 0x0A 0 2 = false → exec (.msPairing t true) s = .next x ∧ exec (.msPairing t false) s = .next x) ∧
    (x.flagL 0 0x0A 0 2 = true →
      exec (.msPairing t true) s = .next { x with pos := { x.pos with msPair := true } } ∧
      exec (.msPairing t false) s = .next (({ x with pos := { x.pos with msPair := false } }).raise 0 0x0A 2)) ∧
    (f.sol = none ∨ x.flagL 0 0x0A 0 0 = false → Answers (.positionFix t f) s (fun y =>
      let ready := x.lat.pack.state == .ready
      y.pos.lat = f.lat ∧ y.pos.lon = f.lon ∧ y.pos.hdg = f.hdg ∧ y.pos.hpl = f.hpl ∧ y.pos.plane = ready ∧
      y.pos.east = (if ready then f.east else 0x80000000) ∧ y.pos.north = (if ready then f.north else 0x80000000) ∧
      y.pos.auth = x.pos.auth ∧ y.pos.spoof = x.pos.spoof ∧ y.pos.spAgree = x.pos.spAgree ∧
      y.pos.spValid = (x.pos.msPair && !x.pos.spoof && x.pos.spAgree) ∧ y.mem = x.mem ∧ y.coreOf j = x.coreOf j)) ∧
    (f.sol = some g → x.flagL 0 0x0A 0 0 = true → Answers (.positionFix t f) s (fun y =>
      let near := g.auth = true ∧ g.dist ≤ f.hpl.toNat
      y.pos.auth = g.auth ∧ y.pos.lat = (if near then g.lat else f.lat) ∧ y.pos.lon = (if near then g.lon else f.lon) ∧
      (g.auth = false ∨ g.dist ≤ 2 * f.hpl.toNat → y.pos.spoofRun = 0 ∧ y.pos.spoof = x.pos.spoof) ∧
      (g.auth = true → 2 * f.hpl.toNat < g.dist → y.pos.spoofRun = x.pos.spoofRun + 1 ∧
        y.pos.spoof = (x.pos.spoof || decide (9 ≤ x.pos.spoofRun))) ∧ y.mem = x.mem ∧ y.coreOf j = x.coreOf j)) ∧
    (x.lat.pack.state ≠ .running → exec (.expansionComplete t) s = .next x) ∧
    (x.lat.pack.state = .running → Answers (.expansionComplete t) s (fun y =>
      let r := (x.expand x.lat.pack.slot).2
      y.lat.pack.state = (if r = none then .ready else .failed) ∧
      y.lat.pack.fail = r.elim x.lat.pack.fail PackFail.code ∧ y.lat.fn = x.lat.fn ∧ y.coreOf j = x.coreOf j)) ∧
    (x.lat.pack.state = .running → x.pLen = 0 → Answers (.expansionComplete t) s (fun y =>
      y.lat.pack.state = .failed ∧ y.lat.pack.fail = 7 ∧ y.lat.fn = x.lat.fn ∧
      (x.bootTries 2 x.lat.pack.slot = false → y.mem = x.mem))))

/-! ### The ledger, the HBM and its scrubbers -/

/-- The Ledger Unit (R178 to R187): a record of a listed type joins the FIFO, unless the ledger is frozen, the unit is
closing, or the FIFO is full; 160 CK4 after its hand-over the oldest is chained with the next SEQ, which becomes the last
record and its SHA-256 the head; 640 CK4 after that both copies hold it, and its words stand at its place in both rings of
MRAM, no word outside the two copies changed; 1.0 s after the last BATCH_SIGN the batch timer closes a batch, an ordinary
close that leaves the records; a signed batch goes to the archive with its BATCH_SIGN: it is written to flash at the point
reached, and the entries in a sector that is erased for it leave. Where the unit is not ready, or the time has not come,
nothing changes.

Where the manual is silent this rests on the model's choices, log entries 102, 124. -/
def Obligations.LedgerUnit : Prop :=
  ∀ (s : State) (t : Nat) (r : RecordIn) (ok : Bool) (p : PendRec) (ps : List PendRec) (g : SignSt)
    (e : ArchEntry) (es : List ArchEntry) (w : List Word) (a : Nat),
    let x := s.to t
    (r.type.toNat = 0 ∨ r.type = 8 ∨ 0x0A < r.type.toNat → exec (.ledgerRecordHandover t r) s = .next x) ∧
    (1 ≤ r.type.toNat → r.type ≠ 8 → r.type.toNat ≤ 0x0A → r.type ≠ 5 → x.ldg.frozen = true →
      exec (.ledgerRecordHandover t r) s = .next x) ∧
    (1 ≤ r.type.toNat → r.type ≠ 8 → r.type.toNat ≤ 0x0A → r.type ≠ 5 → x.ldg.frozen = false → x.ldg.closing = false →
      x.ldg.pending.length < 256 →
      exec (.ledgerRecordHandover t r) s = .next { x with ldg := { x.ldg with pending := x.ldg.pending ++
        [⟨r.type, 0, x.timeFrac, x.timeSec, x.ctx, fitW 36 r.body, x.now⟩] } }) ∧
    (1 ≤ r.type.toNat → r.type ≠ 8 → r.type.toNat ≤ 0x0A → r.type ≠ 5 → x.ldg.frozen = false → x.ldg.closing = false →
      256 ≤ x.ldg.pending.length →
      exec (.ledgerRecordHandover t r) s = .next (({ x with ldg := { x.ldg with
        lost := satInc x.ldg.lost, lossNext := true } }).raise 0 0x09 1)) ∧
    (x.ldg.pending = [] ∨ x.ldg.writing.isSome = true ∨ x.ldg.sign.isSome = true →
      exec (.ledgerChain t) s = .next x) ∧
    (x.ldg.pending = p :: ps → x.now < p.handedAt + 160 * ck4 → exec (.ledgerChain t) s = .next x) ∧
    (x.ldg.pending = p :: ps → x.ldg.writing = none → x.ldg.sign = none → x.ldg.closing = false →
      x.boot.phase = .firmware → p.handedAt + 160 * ck4 ≤ x.now → x.flagL 0 0x09 0 0 = false →
      Answers (.ledgerChain t) s (fun y =>
        let ws := headerWords p.type (p.flags ||| x.chainFlags) x.ldg.seq p.tns p.tsec p.ctx x.prevHash ++ fitW 36 p.body
        y.ldg.pending = ps ∧ y.ldg.batch = ws :: x.ldg.batch ∧ y.ldg.writing = some ws ∧ y.ldg.seq = x.ldg.seq + 1 ∧
        y.ldg.head = sha ws ∧ y.ldg.chainedAt = x.now ∧ y.ldg.lossNext = false ∧ y.ldg.breakNext = false ∧
        y.mem = x.mem)) ∧
    (x.now < x.ldg.chainedAt + 640 * ck4 ∨ x.ldg.writing = none → exec (.ledgerWriteDone t) s = .next x) ∧
    (x.ldg.chainedAt + 640 * ck4 ≤ x.now → x.ldg.writing.isSome = true → x.nvGone = false →
      Answers (.ledgerWriteDone t) s (fun y =>
        y.ldg.writing = none ∧ y.ldg.copyA.headOk = true ∧ y.ldg.copyA.seq = x.ldg.seq ∧
        y.ldg.copyA.hash = x.ldg.head ∧ y.ldg.copyB.seq = x.ldg.seq ∧ y.ldg.copyB.hash = x.ldg.head ∧
        y.ldg.copyA.ring.head? = x.ldg.writing ∧ y.ldg.batch = x.ldg.batch)) ∧
    (x.ldg.chainedAt + 640 * ck4 ≤ x.now → x.ldg.writing = some w → w.length = 64 → x.nvGone = false →
      Answers (.ledgerWriteDone t) s (fun y =>
        (∀ i < 64, y.rd (ldgPlace false (recSeq w) + i) = wordAt w i ∧ y.rd (ldgPlace true (recSeq w) + i) = wordAt w i) ∧
        (a < ldgBase false ∨ ldgBase false + 0x200000 ≤ a → y.rd a = x.rd a))) ∧
    (x.ldg.chainedAt + 640 * ck4 ≤ x.now → x.ldg.writing = some w → x.nvGone = true →
      exec (.ledgerWriteDone t) s = .next { x with ldg := { x.ldg with writing := none } }) ∧
    (x.ldg.batch = [] ∨ x.now < x.ldg.signAt + 375000000 * ck8 ∨ x.ldg.sign.isSome = true →
      exec (.batchTimer t) s = .next x) ∧
    (x.ldg.batch ≠ [] → x.ldg.signAt + 375000000 * ck8 ≤ x.now → x.ldg.sign = none → x.ldg.writing = none →
      x.ldg.closing = false →
      Answers (.batchTimer t) s (fun y =>
        (y.ldg.sign.map (fun g => wordAt g.words 28)) = some (BitVec.ofNat 16 x.ldg.batch.length) ∧
        (y.ldg.sign.map (fun g => wordAt g.words 30)) = some 2 ∧ y.ldg.batch = x.ldg.batch ∧
        y.ldg.seq = x.ldg.seq ∧ y.mem = x.mem)) ∧
    (x.ldg.sign = none → exec (.batchSignDone t ok) s = .next x) ∧
    (x.ldg.sign = some g → x.now < g.startedAt + 1200000 * ck4 → exec (.batchSignDone t ok) s = .next x) ∧
    (x.ldg.sign = some g → g.startedAt + 1200000 * ck4 ≤ x.now → g.words.length = 32 → x.flagL 0 0x09 0 0 = false →
      x.cus.keyOk = false →
      Answers (.batchSignDone t ok) s (fun y =>
        y.ldg.sign = none ∧ y.ldg.batch = [] ∧ y.ldg.signAt = x.now ∧ y.ldg.seq = x.ldg.seq + 1 ∧
        y.ldg.head = sha y.ldg.prevSign ∧ wordAt y.ldg.prevSign 1 = wordAt g.words 1 ||| 4 ∧
        y.ldg.prevSign.drop 32 = List.replicate 32 0 ∧
        y.ldg.toArchive = x.ldg.toArchive ++ [⟨archived x.ldg.batch.reverse, y.ldg.prevSign, []⟩] ∧ y.mem = x.mem)) ∧
    (x.ldg.toArchive = [] → exec (.archiveWrite t ok) s = .next x) ∧
    (x.ldg.toArchive = e :: es → ok = true → x.nvGone = false → e.words ≤ x.liveN 0 0x09 0xD 2 →
      Answers (.archiveWrite t ok) s (fun y =>
        let dirty := x.archDirty e
        y.ldg.toArchive = es ∧
        y.ldg.archive = x.ldg.archive.filter (fun o => dirty.all (fun q => !o.touches q)) ++
          [{ e with spans := x.archNext e }] ∧
        (dirty = [] → (e.records.flatten ++ e.sign).length = e.words → x.archNext e = [(a, e.words)] → x.lostAt a = false →
          y.rds a e.words = e.records.flatten ++ e.sign) ∧
        (dirty = [] → (x.archNext e).all (fun p => !inRange a p.1 (max p.2 (e.records.flatten ++ e.sign).length)) = true →
          y.rd a = x.rd a))) ∧
    (x.ldg.toArchive = e :: es → ok = true → x.nvGone = false → x.liveN 0 0x09 0xD 2 < e.words →
      exec (.archiveWrite t ok) s = .next (({ x with ldg := { x.ldg with toArchive := es } }).raise 0 0x09 4)) ∧
    (x.ldg.toArchive = e :: es → ok = false →
      exec (.archiveWrite t ok) s = .next (({ x with ldg := { x.ldg with toArchive := es } }).raise 0 0x09 4))

/-- The HBM controllers (R291, R305 to R309, R316, R320, R322): a read is served in its requester's slot, with C = WT with
the 32 words of the line and with NC with the blocks of 8 words that hold those asked for; the position is the requester's
from then on. A whole-line write stores its words and changes no other word; a write of a part waits as a merge write, which
stores its words in the first write slot 83 positions after its read, not before that position comes; without a slot
nothing is served. A dead stack is reported once; a reading out of limits is reported when it comes out of them; the table
switch takes the committed slot values at the first slot frame from the commit edge.

The scrubbers (R310, R311, R317, R318): no sweep changes a stored word; a line is read in a read slot of the scrubber
on its lane and followed by the next line; a waiting rewrite of a stack, of a pool, or of a scratchpad is made, oldest
first, that of a stack in a write slot 83 positions after its read or later, and its codewords then hold no error unless
the armed injection takes an encode. Without one waiting, without a slot, or with the scrubber off, nothing is written.

Where the manual is silent this rests on the model's choices, log entries 27, 97. -/
def Obligations.HbmControllersAndScrubbers : Prop :=
  (∀ (s : State) (t a : Nat) (n : BitVec 1) (r : HbmReq) (req : BitVec 9) (strobe : Bool) (celsius : Int) (m : MergeSt)
    (pc : Nat),
    let x := s.to t
    let addr := r.addr.toNat
    let base := addr / 32 * 32
    (hbmStackOf addr ≠ some n.toNat → exec (.hbmRequestServed t n r) s = .next x) ∧
    (r.write = false → x.serveAt n.toNat (laneOf addr) r.req.toNat false = none →
      exec (.hbmRequestServed t n r) s = .next x) ∧
    (hbmStackOf addr = some n.toNat → r.write = false →
      (x.serveAt n.toNat (laneOf addr) r.req.toNat false).isSome = true → Answers (.hbmRequestServed t n r) s (fun y =>
        y.hbm.ret.get (dflt []) r.req.toNat =
          (if r.wt then x.rds base 32 else x.rds (addr / 8 * 8) (8 * ((addr + r.n.toNat - 1) / 8 + 1 - addr / 8))) ∧
        y.mem.bytes = x.mem.bytes)) ∧
    (hbmStackOf addr = some n.toNat → r.write = false →
      x.serveAt n.toNat (laneOf addr) r.req.toNat false = some pc → Answers (.hbmRequestServed t n r) s (fun y =>
        y.hbm.used.get (dflt 0) (posKey n.toNat (laneOf addr) pc) = r.req.toNat + 1 ∧
        pc ≤ y.hbm.lastPos.get (dflt 0) (512 * n.toNat + r.req.toNat))) ∧
    (hbmStackOf addr = some n.toNat → r.write = true → r.words.length = 32 → addr % 32 = 0 → x.dead n.toNat = false →
      (x.serveAt n.toNat (laneOf addr) r.req.toNat true).isSome = true → Answers (.hbmRequestServed t n r) s (fun y =>
        y.rd a = (if base ≤ a ∧ a < base + 32 then wordAt r.words (a - base) else x.rd a))) ∧
    (hbmStackOf addr = some n.toNat → r.write = true → r.words ≠ [] → r.words.length < 32 →
      addr % 32 + r.words.length ≤ 32 → x.serveAt n.toNat (laneOf addr) r.req.toNat false = some pc → x.dead n.toNat = false →
      x.classAt (base / 8) = .none → x.classAt (base / 8 + 1) = .none → x.classAt (base / 8 + 2) = .none →
      x.classAt (base / 8 + 3) = .none → r.cls = .none → Answers (.hbmRequestServed t n r) s (fun y =>
        y.hbm.merge = x.hbm.merge ++ [⟨r.req.toNat, r.addr, r.words, pc⟩] ∧ y.mem = x.mem)) ∧
    (x.mergeOf n.toNat req.toNat = none → exec (.mergeWrite t n req) s = .next x) ∧
    (x.mergeOf n.toNat req.toNat = some m →
      x.firstSlot n.toNat (laneOf m.addr.toNat) req.toNat true (m.readPos + 83) = some pc →
      x.posAt x.now < pc → exec (.mergeWrite t n req) s = .next x) ∧
    (x.mergeOf n.toNat req.toNat = some m → x.dead n.toNat = false →
      x.firstSlot n.toNat (laneOf m.addr.toNat) req.toNat true (m.readPos + 83) = some pc → pc ≤ x.posAt x.now →
      Answers (.mergeWrite t n req) s (fun y =>
        y.rd a = (if m.addr.toNat ≤ a ∧ a < m.addr.toNat + m.words.length then wordAt m.words (a - m.addr.toNat)
          else x.rd a) ∧
        y.hbm.merge = x.hbm.merge.erase m)) ∧
    exec (.refresh t n) s = .next { x with hbm := { x.hbm with refreshes := x.hbm.refreshes + 1 } } ∧
    (x.dead n.toNat = true → exec (.hbmDead t n strobe) s = .next x) ∧
    (x.dead n.toNat = false → Answers (.hbmDead t n strobe) s (fun y => y.dead n.toNat = true ∧ y.mem = x.mem)) ∧
    ((x.stackOf n.toNat).tempOut = true ∨ (-55 ≤ celsius ∧ celsius ≤ 125) →
      exec (.hbmTempRead t n celsius) s = .next (x.modStack n.toNat (fun k =>
        { k with
          temp := BitVec.ofInt 8 (max (-128) (min 127 celsius)), tempOut := decide (125 < celsius ∨ celsius < -55) }))) ∧
    ((x.stackOf n.toNat).tempOut = false → 125 < celsius ∨ celsius < -55 → Answers (.hbmTempRead t n celsius) s (fun y =>
      (y.stackOf n.toNat).tempOut = true ∧ y.mem = x.mem)) ∧
    (x.hbm.switchDue = false ∨ x.now < edgeUp x (512 * ck4) (x.boot.commitAt.getD 0) →
      exec (.hbmTableSwitch t) s = .next x) ∧
    (x.hbm.switchDue = true → edgeUp x (512 * ck4) (x.boot.commitAt.getD 0) ≤ x.now → Answers (.hbmTableSwitch t) s (fun y =>
      y.hbm.table = true ∧ y.hbm.switchDue = false ∧ y.mem = x.mem)) ∧
    (x.dead n.toNat = false → Answers (.hbmTrainingEnd t n true) s (fun y =>
      (y.stackOf n.toNat).trained = true ∧ y.dead n.toNat = false ∧ y.mem = x.mem)) ∧
    (x.boot.stage ≠ 2 → Answers (.hbmTrainingEnd t n false) s (fun y =>
      (y.stackOf n.toNat).trained = false ∧ y.dead n.toNat = true ∧ y.boot.stage = x.boot.stage)) ∧
    (x.boot.stage = 2 → Answers (.hbmTrainingEnd t n false) s (fun y => y.boot.stage = 10 ∧ y.dead n.toNat = true))) ∧
  (∀ (s : State) (t cw pc : Nat) (cws : List Nat) (n : BitVec 1) (c : GErr) (d : DieAddr) (k : CoreId) (f : ScrubFix)
    (fs : List ScrubFix),
    let x := s.to t
    let st := x.stackOf n.toNat
    let lane := st.scrLine.toNat % 16
    (x.scrubOn n.toNat = false ∨ x.serveAt n.toNat lane 0x104 false = none → exec (.scrubRead t n c) s = .next x) ∧
    (x.scrubOn n.toNat = true → st.fix = [] → (x.serveAt n.toNat lane 0x104 false).isSome = true →
      Answers (.scrubRead t n c) s (fun y =>
        (y.stackOf n.toNat).scrLine = st.scrLine + 1 ∧ y.mem.bytes = x.mem.bytes ∧
        (st.scrLine.toNat + 1 < 2 ^ 28 → (y.stackOf n.toNat).sweeps = st.sweeps) ∧
        (st.scrLine.toNat + 1 = 2 ^ 28 → (y.stackOf n.toNat).sweeps = satInc st.sweeps))) ∧
    (x.scrubOn n.toNat = true → st.fix = f :: fs → f.line % 16 = lane → exec (.scrubRead t n c) s = .next x) ∧
    (st.fix = [] → exec (.scrubRewrite t n) s = .next x) ∧
    (st.fix = f :: fs → x.firstSlot n.toNat (f.line % 16) 0x104 true (f.readAt + 83) = none →
      exec (.scrubRewrite t n) s = .next x) ∧
    (st.fix = f :: fs → x.firstSlot n.toNat (f.line % 16) 0x104 true (f.readAt + 83) = some pc → x.posAt x.now < pc →
      exec (.scrubRewrite t n) s = .next x) ∧
    (st.fix = f :: fs → x.firstSlot n.toNat (f.line % 16) 0x104 true (f.readAt + 83) = some pc → pc ≤ x.posAt x.now →
      x.dead n.toNat = false → bit x.injt 15 = false → f.line < 2 ^ 28 → Answers (.scrubRewrite t n) s (fun y =>
        (y.stackOf n.toNat).fix = fs.filter (fun g => g.line != f.line) ∧ y.mem.bytes = x.mem.bytes ∧
        ∀ i < 4, y.mem.errs.get (dflt GClass.none) (lineAddr n.toNat f.line / 8 + i) = .none)) ∧
    (isCompute d.toNat = false → exec (.poolScrub t d c) s = .next x) ∧
    (isCompute d.toNat = true → x.pool.fix.get (dflt []) d.toNat = cw :: cws → bit x.injt 15 = false →
      exec (.poolScrub t d c) s = .next { x with
        mem := { x.mem with errs := x.mem.errs.set (dflt GClass.none) cw .none }
        pool := { x.pool with fix := x.pool.fix.set (dflt []) d.toNat cws } }) ∧
    (isCompute d.toNat = true → x.pool.fix.get (dflt []) d.toNat = [] → Answers (.poolScrub t d c) s (fun y =>
      y.pool.next.get (dflt 0) d.toNat = (x.pool.next.get (dflt 0) d.toNat + 1) % 0x100000 ∧
      y.mem.bytes = x.mem.bytes)) ∧
    ((∀ w ∈ x.pool.spadFix, spadCore (8 * w) ≠ some k.toNat) → exec (.spadWriteback t k) s = .next x) ∧
    (x.pool.spadFix.head? = some cw → spadCore (8 * cw) = some k.toNat → bit x.injt 15 = false →
      exec (.spadWriteback t k) s = .next { x with
        mem := { x.mem with errs := x.mem.errs.set (dflt GClass.none) cw .none }
        pool := { x.pool with spadFix := x.pool.spadFix.tail } }))

/-! ### Lockstep, the Trifle, dies, links and clocks -/

/-- The lockstep of an engine (R352, R355 to R363, R366 to R371, R374, R380): the first comparator that fires, in the
order RFW, REQ, SIG, REPL, an armed LKS_INJ among them, is the cause of a mismatch, which starts the self-test, discards
the buffered writes that have not started to drain, and leaves memory and the other engines alone; where none fires a
replicated word was corrected on its lane, which is counted; a signature window that agrees opens the next, and a
difference is a mismatch 12 CK1 later; the self-test, in which an uncorrectable codeword of a core's arrays fails the
core, ends in a resynchronisation of both cores from the checkpoint stores where both pass and a checkpoint is valid, and in
a fence with the outcome otherwise; a hand-over ends 4,097 CK1 after it began in a locked engine whose checker has the
main core's registers and scratchpad, and with a checkpoint; a mode reset waits for both write buffers. Before its time,
and where nothing is due, none of them changes anything.

Where the manual is silent this rests on the model's choices, log entries 22, 26, 126, 127. -/
def Obligations.EngineLockstep : Prop :=
  ∀ (s : State) (t a : Nat) (e e2 : EngId) (comp : BitVec 4) (pc : Addr) (cause : Nat) (pm pk : Bool) (ck : CoreSt) (t0 : Nat)
    (m : ModeCmd),
    let x := s.to t
    let n := e.toNat
    let g := x.engOf n
    let k := x.coreOf (2 * n)
    let tested := x.flag (engDie n) 0x32 0 0 = true ∨ (x.die (engDie n)).lksTest = none
    let fire := comp ||| x.injComp n
    let okM := pm && !x.scanBad (2 * n)
    let okK := pk && !x.scanBad (2 * n + 1)
    (¬ tested → comp = 0 → exec (.lockstepMismatch t e comp pc) s = .next x) ∧
    (¬ tested → comp ≠ 0 → exec (.lockstepMismatch t e comp pc) s = .next (x.raise (engDie n) 0x32 (0x20 + engSlot n))) ∧
    (x.compArmed n = false → tested → exec (.lockstepMismatch t e comp pc) s = .next x) ∧
    (x.compArmed n = true → tested → fire = 0 → exec (.lockstepMismatch t e comp pc) s = .next (x.gcode 6 false 1)) ∧
    (x.compArmed n = true → tested → cause < 4 → fire.getLsbD cause = true → (∀ i < cause, fire.getLsbD i = false) →
      Answers (.lockstepMismatch t e comp pc) s (fun y =>
        (y.engOf n).state = .selftest ∧ (y.engOf n).cause = BitVec.ofNat 2 cause ∧ (y.engOf n).outcome = 0 ∧
        (y.engOf n).mismAt = x.now ∧ (y.engOf n).inj = x.lksArmed n cause ∧
        (y.engOf n).dpc = (if cause = 2 then k.pc else pc) ∧
        y.coreOf (2 * n) = { k with wb := k.wb.filter (fun w => w.draining) } ∧ y.mem = x.mem ∧
        (e2 ≠ e → y.engOf e2.toNat = x.engOf e2.toNat))) ∧
    (x.now < g.windowAt + 64 ∨ x.compArmed n = false ∨ k.runst = .halted →
      exec (.sigWindowClose t e pm) s = .next x) ∧
    (x.compArmed n = true → k.runst ≠ .halted → g.windowAt + 64 ≤ x.now →
      (x.lksArmed n 2 = false →
        exec (.sigWindowClose t e false) s = .next (x.modEng n (fun y => { y with windowAt := x.now }))) ∧
      (pm = true ∨ x.lksArmed n 2 = true → Answers (.sigWindowClose t e pm) s (fun y =>
        (y.engOf n).state = .selftest ∧ (y.engOf n).cause = 2 ∧ (y.engOf n).mismAt = x.now + 12 ∧
        (y.engOf n).dpc = k.pc ∧ (y.engOf n).inj = x.lksArmed n 2 ∧ y.mem = x.mem))) ∧
    (g.state ≠ .selftest ∨ x.now < g.mismAt + 24592 → exec (.selftestEnd t e pm pk) s = .next x) ∧
    (g.state = .selftest → g.mismAt + 24592 ≤ x.now → g.ckpt = some ck → g.ckValid = true → (okM && okK) = true →
      Answers (.selftestEnd t e pm pk) s (fun y =>
        (y.engOf n).state = .locked ∧ (y.engOf n).outcome = 1 ∧ (y.engOf n).mism = satInc g.mism ∧
        (y.engOf n).trans = satInc g.trans ∧ (y.engOf n).journal = [] ∧ (y.engOf n).armAt = g.mismAt + 29224 ∧
        (y.engOf n).windowAt = g.mismAt + 29224 ∧
        (y.coreOf (2 * n)).pc = ck.pc ∧ (y.coreOf (2 * n)).sw = ck.sw ∧ (y.coreOf (2 * n)).d = ck.d ∧
        (y.coreOf (2 * n)).a = ck.a ∧ (y.coreOf (2 * n)).wb = [] ∧ (y.coreOf (2 * n)).icache = [] ∧
        (y.coreOf (2 * n)).resumeAt = g.mismAt + 29216 ∧ (y.coreOf (2 * n)).cycOrigin = k.cycOrigin ∧
        (y.coreOf (2 * n + 1)).pc = (g.ckptK.getD ck).pc ∧ (y.coreOf (2 * n + 1)).d = (g.ckptK.getD ck).d)) ∧
    (g.state = .selftest → g.mismAt + 24592 ≤ x.now → (okM && okK) = false ∨ g.ckValid = false →
      Answers (.selftestEnd t e pm pk) s (fun y =>
        (y.engOf n).state = .fenced ∧
        (y.engOf n).outcome = (if okM && okK then 5 else if okK then 2 else if okM then 3 else 4) ∧
        (y.engOf n).mism = satInc g.mism ∧ (y.engOf n).trans = g.trans ∧ (y.coreOf (2 * n)).runst = .reset ∧
        (y.coreOf (2 * n)).d = k.d)) ∧
    (g.state ≠ .handover ∨ g.joinAt = none → exec (.joinHandoverEnd t e) s = .next x) ∧
    (g.joinAt = some t0 → x.now < t0 + 4097 → exec (.joinHandoverEnd t e) s = .next x) ∧
    (g.state = .handover → g.joinAt = some t0 → t0 + 4097 ≤ x.now → Answers (.joinHandoverEnd t e) s (fun y =>
      let main := 2 ^ 48 * (2 * n + 1)
      let checker := 2 ^ 48 * (2 * n + 2)
      (y.engOf n).state = .locked ∧ (y.engOf n).joinAt = none ∧ (y.engOf n).ckValid = true ∧
      (y.engOf n).armAt = t0 + 4108 ∧
      y.coreOf (2 * n) = { k with icache := [], dcache := [], resumeAt := t0 + 4100 } ∧
      y.coreOf (2 * n + 1) = (y.coreOf (2 * n)).mirror (x.coreOf (2 * n + 1)) ∧
      (y.engOf n).ckpt = some (y.coreOf (2 * n)) ∧
      y.rd a = (if checker ≤ a ∧ a < checker + 0x20000 then x.rd (a - checker + main) else x.rd a))) ∧
    (g.modeCmd = none → exec (.engineModeReset t e) s = .next x) ∧
    (g.modeCmd = some m → g.state = .fenced → Answers (.engineModeReset t e) s (fun y =>
      (y.engOf n).state = .fenced ∧ (y.engOf n).modeCmd = none ∧ y.coreOf (2 * n) = k ∧ y.mem = x.mem)) ∧
    (g.modeCmd = some m → g.state ≠ .fenced → k.wb ≠ [] ∨ (x.coreOf (2 * n + 1)).wb ≠ [] →
      exec (.engineModeReset t e) s = .next x) ∧
    (g.modeCmd = some m → g.state ≠ .fenced → k.wb = [] → (x.coreOf (2 * n + 1)).wb = [] →
      Answers (.engineModeReset t e) s (fun y =>
        (y.engOf n).state = (if m.toSplit then .split else .locked) ∧ (y.engOf n).modeCmd = none ∧
        (y.engOf n).ckValid = true ∧ (y.coreOf (2 * n)).lastRst = 2 ∧ (y.coreOf (2 * n)).runst = .run ∧
        (y.coreOf (2 * n)).resumeAt = x.now + 256 ∧ (y.engOf n).modeWait = true ∧ y.cfg.running = x.cfg.running ∧
        (y.coreOf (2 * n + 1)).resumeAt = x.now + 256 ∧ (y.coreOf (2 * n + 1)).runst = .run ∧
        (m.toSplit = true → (y.coreOf (2 * n + 1)).lastRst = 2)))

/-- The comparator tests and the voted Trifle (R364, R365, R375 to R377): the tests of a present, unfenced compute die
start once, while no engine of it runs, and end after 92,160 CK1; a copy of three that disagrees is voted out, and rejoins
after its self-test passes and 4,096 CK4, its memory rewritten and its registers loaded from the majority; without a
majority every copy stops. No core and no other memory changes. -/
def Obligations.TestsAndVotes : Prop :=
  ∀ (s : State) (t t0 j a : Nat) (d : DieAddr) (failed : BitVec 32) (copies : BitVec 3) (c : BitVec 2) (pass : Bool),
    let x := s.to t
    let v := x.trf
    let k := c.toNat
    let startable := isCompute d.toNat = true ∧ (x.die d.toNat).present = true ∧ (x.die d.toNat).fenced = false ∧
      (x.die d.toNat).lksTest = none ∧ x.flag d.toNat 0x32 0 0 = false ∧
      (List.range 32).all (fun i => (x.coreOf (2 * engAt d.toNat i)).runst == .reset) = true
    (¬ startable → exec (.comparatorTestStart t d) s = .next x) ∧
    (startable → exec (.comparatorTestStart t d) s = .next (x.modDie d.toNat (fun y => { y with lksTest := some x.now }))) ∧
    ((x.die d.toNat).lksTest = none → exec (.comparatorTestEnd t d failed) s = .next x) ∧
    ((x.die d.toNat).lksTest = some t0 → x.flag d.toNat 0x32 0 0 = true ∨ x.now < t0 + lksTestCk1 →
      exec (.comparatorTestEnd t d failed) s = .next x) ∧
    ((x.die d.toNat).lksTest = some t0 → x.flag d.toNat 0x32 0 0 = false → (x.die d.toNat).fenced = false →
      t0 + lksTestCk1 ≤ x.now →
      exec (.comparatorTestEnd t d 0) s = .next (x.orReg d.toNat 0x32 0 1) ∧
      (isCompute d.toNat = true → Answers (.comparatorTestEnd t d failed) s (fun y =>
        y.flag d.toNat 0x32 0 0 = true ∧ y.mem = x.mem ∧ y.coreOf j = x.coreOf j ∧
        (j < 32 → failed.getLsbD j = true → (y.engOf (engAt d.toNat j)).state = .testfail) ∧
        (j < 32 → failed.getLsbD j = false → y.engOf (engAt d.toNat j) = x.engOf (engAt d.toNat j))))) ∧
    (v.stopped = true ∨ copies &&& v.inVote = 0 → exec (.trifleDisagree t copies) s = .next x) ∧
    (v.stopped = false → v.inVote = 7 → k < 3 → copies = BitVec.ofNat 3 (2 ^ k) →
      Answers (.trifleDisagree t copies) s (fun y =>
        y.trf.inVote = 7 ^^^ copies ∧ y.trf.resync.getLsbD k = true ∧ y.trf.outAt k = x.now ∧ y.trf.stopped = false ∧
        y.mem = x.mem ∧ y.coreOf j = x.coreOf j)) ∧
    (v.stopped = false → copies &&& v.inVote ≠ 0 → v.inVote ≠ 7 ∨ copies = 3 ∨ copies = 5 ∨ copies = 6 ∨ copies = 7 →
      exec (.trifleDisagree t copies) s = .next (({ x with trf := { v with stopped := true } }).raise 0 0x03 0x77)) ∧
    (v.stopped = true ∨ v.resync.getLsbD k = false ∨ x.now < v.outAt k + 1024 * ck4 →
      exec (.trifleSelftestEnd t c pass) s = .next x) ∧
    (v.stopped = false → v.resync.getLsbD k = true → v.outAt k + 1024 * ck4 ≤ x.now →
      exec (.trifleSelftestEnd t c true) s = .next { x with trf := { v with passed := setBit v.passed k true } } ∧
      exec (.trifleSelftestEnd t c false) s = .next (({ x with trf := { v with
        resync := setBit v.resync k false, failed := setBit v.failed k true } }).raise 0 0x03 (0x74 + k))) ∧
    (v.stopped = true ∨ v.resync.getLsbD k = false ∨ v.passed.getLsbD k = false ∨ x.now < v.outAt k + 4096 * ck4 →
      exec (.trifleRejoin t c) s = .next x) ∧
    (v.stopped = false → v.resync.getLsbD k = true → v.passed.getLsbD k = true → v.outAt k + 4096 * ck4 ≤ x.now →
      Answers (.trifleRejoin t c) s (fun y =>
        let lead := if v.inVote.getLsbD 0 then 0 else if v.inVote.getLsbD 1 then 1 else 2
        let from_ := 2 ^ 48 * (300 + lead)
        let to_ := 2 ^ 48 * (300 + k)
        y.trf = { v with
          inVote := setBit v.inVote k true, resync := setBit v.resync k false, passed := setBit v.passed k false
          copy := v.copy.set (dflt {}) k (v.copy.get (dflt {}) lead) } ∧
        y.rd a = (if to_ ≤ a ∧ a < to_ + 0x80000 then x.rd (a - to_ + from_) else x.rd a) ∧ y.coreOf j = x.coreOf j))

/-- The dies, the links and the clocks (R20 to R26, R40, R46, R53 to R55, R65): an answer within 40 µs is noted with its
position; enumeration ends with every answering die of the right type and position present and every other one fenced and
held; three heartbeats missing in a row are reported once; a link whose training fails, or that goes down, fences the die at
its far end, and the ports to a fenced die close 4 CK4 after the decision; the first marker starts the counts and each
later one, 4,096 CK8 after the one before, checks the dividers of every die; a monitor window out of limits forces EOUT
and VETO with its cause and pulls EPULSE_N for 2,200 OSC. No word of memory changes but by the end of a link or of
enumeration, and no hub is ever fenced.

Where the manual is silent this rests on the model's choices, log entries 49, 115, 116, 117, 118, 119. -/
def Obligations.DiesAndLinks : Prop :=
  ∀ (s : State) (t t0 j : Nat) (d : DieAddr) (ccw ok lock p1 b : Bool) (hops : BitVec 4) (ty : BitVec 2) (l : BitVec 3)
    (rep : BitVec 4) (off ref ck : BitVec 8),
    let x := s.to t
    let n := d.toNat
    let y0 := x.die n
    (x.dies.enumAt = none ∨ x.dies.enumEnd.isSome = true ∨ d = 0 →
      exec (.enumAnswer t d ccw hops ty) s = .next x) ∧
    (x.dies.enumAt = some t0 → x.dies.enumEnd = none → x.now < t0 + 40 * usCk1 → d ≠ 0 →
      exec (.enumAnswer t d true hops ty) s = .next (x.modDie n (fun y => { y with ansCcw := some ⟨8 - hops.toNat, ty⟩ })) ∧
      exec (.enumAnswer t d false hops ty) s = .next (x.modDie n (fun y => { y with ansCw := some ⟨hops.toNat, ty⟩ }))) ∧
    (x.dies.enumAt = none ∨ x.dies.enumEnd.isSome = true → exec (.enumerationEnd t) s = .next x) ∧
    (x.dies.enumAt = some t0 → x.dies.enumEnd = none → x.now < t0 + 40 * usCk1 → exec (.enumerationEnd t) s = .next x) ∧
    (x.dies.enumAt = some t0 → x.dies.enumEnd = none → t0 + 40 * usCk1 ≤ x.now → Answers (.enumerationEnd t) s (fun y =>
      y.dies.enumEnd = some x.now ∧
      (d ≠ 0 → (y.die n).present = (enumOutcome n y0).present) ∧
      (d ≠ 0 → (enumOutcome n y0).present = false → (y.die n).fenced = true ∧ (y.die n).held = true) ∧
      ((y.die 7).fenced = true → y.boot.phase = .halted ∧ y.boot.stage = 9))) ∧
    (y0.present = false ∨ x.dies.enumEnd = none ∨ d = 0 →
      exec (.heartbeatSend t d) s = .next x ∧ exec (.heartbeatDue t d) s = .next x) ∧
    (y0.present = true → x.dies.enumEnd.isSome = true → d ≠ 0 →
      exec (.heartbeatSend t d) s = .next (x.modDie n (fun y => { y with hbArrived := true }))) ∧
    (y0.present = true → x.dies.enumEnd = some t0 → d ≠ 0 → t0 + y0.hbJudged * (256 * ck8) ≤ x.now →
      Answers (.heartbeatDue t d) s (fun y =>
        (y.die n).hbMissed = (if y0.hbArrived then 0 else y0.hbMissed + 1) ∧ (y.die n).hbArrived = false ∧
        (y.die n).hbJudged = y0.hbJudged + 1 ∧
        y.dies.hbMiss = (if y0.hbArrived then x.dies.hbMiss else satInc x.dies.hbMiss) ∧
        (y.die n).hbReported = (!y0.hbArrived && (y0.hbReported || decide (2 ≤ y0.hbMissed))) ∧
        y.mem = x.mem ∧ y.coreOf j = x.coreOf j)) ∧
    (linkPeer n l.toNat = none ∨ x.dies.enumEnd = none ∨ (x.link n l.toNat).up = true →
      exec (.linkTrainingEnd t d l ok rep) s = .next x) ∧
    ((linkPeer n l.toNat).isSome = true → x.dies.enumEnd.isSome = true → (x.link n l.toNat).up = false →
      Answers (.linkTrainingEnd t d l true rep) s (fun y =>
        (y.link n l.toNat).up = true ∧ (y.link n l.toNat).repaired = rep ∧ y.mem = x.mem ∧ y.coreOf j = x.coreOf j) ∧
      Answers (.linkTrainingEnd t d l false rep) s (fun y =>
        let p := ((linkPeer n l.toNat).getD (0, 0)).1
        let far := if p = 0 then n else p
        (y.die far).fenced = true ∧ (y.die 0).fenced = (x.die 0).fenced ∧
        ((x.die far).fenced = false → (y.die far).fencedAt = x.now ∧
          ((x.link 0 ((linkPeer far 0).getD (0, 0)).2).closedAt = none →
            (y.link 0 ((linkPeer far 0).getD (0, 0)).2).closedAt = some (x.now + 4 * ck4))))) ∧
    (d = 0 → exec (.linkDown t d) s = .next x) ∧
    (d ≠ 0 → (linkPeer n 0).isSome = true → (x.link 0 ((linkPeer n 0).getD (0, 0)).2).up = true →
      Answers (.linkDown t d) s (fun y => (y.die n).fenced = true ∧ (y.link n 0).up = false)) ∧
    (x.clk.markers = 0 → Answers (.alignmentMarker t off) s (fun y =>
      y.clk.marker = x.now ∧ y.clk.markers = 1 ∧ y.clk.rootLk = true ∧ (y.die n).aligned = true ∧ y.mem = x.mem)) ∧
    (x.clk.markers ≠ 0 → x.now < x.clk.marker + x.clk.markers * (4096 * ck8) →
      exec (.alignmentMarker t off) s = .next x) ∧
    (x.clk.markers ≠ 0 → x.clk.marker + x.clk.markers * (4096 * ck8) ≤ x.now →
      Answers (.alignmentMarker t off) s (fun y =>
        y.clk.marker = x.clk.marker ∧ y.clk.markers = x.clk.markers + 1 ∧ (y.die n).aligned = !off.getLsbD n ∧
        y.mem = x.mem)) ∧
    (112 ≤ ref.toNat → ref.toNat ≤ 144 → 105 ≤ ck.toNat → ck.toNat ≤ 135 →
      exec (.monitorWindow t ref ck false) s = .next { x with clk := { x.clk with
        monRef := ref, monCk8 := ck, lastWindow := x.now, monDead := false } }) ∧
    (ref.toNat < 112 ∨ 144 < ref.toNat ∨ ck.toNat < 105 ∨ 135 < ck.toNat ∨ lock = true →
      Answers (.monitorWindow t ref ck lock) s (fun y =>
        y.clk.forced = true ∧ y.clk.monF = true ∧ y.vdg.out = .stop ∧ y.vdg.forced = true ∧ y.clk.oscPulse = some x.now ∧
        (x.clk.monF = false → y.clk.monCause.getLsbD 0 = decide (ref.toNat < 112 ∨ 144 < ref.toNat) ∧
          y.clk.monCause.getLsbD 1 = lock ∧ y.clk.monCause.getLsbD 2 = decide (ck.toNat < 105 ∨ 135 < ck.toNat)) ∧
        (x.clk.monF = true → y.clk.monCause = x.clk.monCause) ∧ y.mem = x.mem ∧ y.coreOf j = x.coreOf j)) ∧
    (x.clk.monDead = true ∨ x.now < x.clk.lastWindow + 1024 * ck8 → exec (.monDead t) s = .next x) ∧
    (x.clk.monDead = false → x.clk.lastWindow + 1024 * ck8 ≤ x.now →
      exec (.monDead t) s = .next (({ x with clk := { x.clk with monDead := true } }).raise 0 0x01 5)) ∧
    (x.clk.oscPulse = none → exec (.monitorPulseEnd t) s = .next x) ∧
    (x.clk.oscPulse = some t0 → x.now < t0 + oscPulseCk1 → exec (.monitorPulseEnd t) s = .next x) ∧
    (x.clk.oscPulse = some t0 → t0 + oscPulseCk1 ≤ x.now →
      exec (.monitorPulseEnd t) s = .next { x with clk := { x.clk with oscPulse := none } }) ∧
    Answers (.pllLockLoss t p1 b) s (fun y =>
      (y.die (5 + portNo p1)).pllA = (b && (x.die (5 + portNo p1)).pllA) ∧
      (y.die (5 + portNo p1)).pllB = (!b && (x.die (5 + portNo p1)).pllB) ∧ y.mem = x.mem ∧ y.coreOf j = x.coreOf j)

/-! ### Configuration, power, resets and start-up -/

/-- Loads and checks (R77 to R84, R87): a load that its checks refuse gives the reason and the item, counts, and changes no
register; a load that they accept stages the image and leaves the registers in force as they are; a check that is refused
gives its reason and leaves every register and the device state; a check that is accepted puts the whole structure in
force at once, with its digest, and the device in RUN or DEGRADED. Without such a job running nothing changes.

Where the manual is silent this rests on the model's choices, log entries 39, 44. -/
def Obligations.LoadsAndChecks : Prop :=
  ∀ (s : State) (t : Nat) (j : CfgJob),
    let x := s.to t
    let u := x.loadReads j.slot
    let r := u.loadCheck j.slot
    let c := x.checkResult j
    (x.cfg.job = none → exec (.loadComplete t) s = .next x ∧ exec (.checkComplete t) s = .next x) ∧
    (x.cfg.job = some j → j.loading = false → exec (.loadComplete t) s = .next x) ∧
    (x.cfg.job = some j → j.loading = true → exec (.checkComplete t) s = .next x) ∧
    (x.cfg.job = some j → j.loading = true → Answers (.loadComplete t) s (fun y =>
      y.csr.live = x.csr.live ∧
      (r.isSome = true → y.cfg.reason = r.elim 0 (fun v => BitVec.ofNat 16 v.1) ∧ y.cfg.detail = r.elim 0 (fun v => v.2) ∧
        y.cfg.refused = satInc x.cfg.refused ∧ y.cfg.job = none ∧ y.cfg.state = x.cfg.state ∧ y.csr.store = x.csr.store) ∧
      (r = none → y.cfg.staged = true ∧ y.cfg.stagedSlot = j.slot ∧ y.cfg.state = .loaded ∧ y.cfg.reason = 0 ∧
        y.csr.store = u.loadedStore (u.sections j.slot) ∧ y.cfg.edited = false))) ∧
    (x.cfg.job = some j → j.loading = false → Answers (.checkComplete t) s (fun y =>
      (c.isSome = true → y.cfg.reason = c.elim 0 (fun v => BitVec.ofNat 16 v.1) ∧ y.cfg.detail = c.elim 0 (fun v => v.2) ∧
        y.cfg.refused = satInc x.cfg.refused ∧ y.cfg.job = none ∧ y.cfg.state = x.cfg.state ∧ y.csr.live = x.csr.live ∧
        y.csr.store = x.csr.store ∧ y.cfg.digest = x.cfg.digest) ∧
      (c = none → y.csr.live = x.csr.store ∧ y.csr.store = x.csr.store ∧ y.cfg.digest = digestOf x.csr.store ∧
        y.cfg.reason = 0 ∧ y.cfg.job = none ∧ y.boot.stage = 4 ∧ y.lat.running = true ∧ y.hbm.switchDue = true ∧
        (y.cfg.state = .run ∨ y.cfg.state = .degraded))))

/-- The reset pins, power and the flush (R187, R447 to R449, R486, R508, R547): PORST_N rising ends power-on reset where
the rails of the detector are good, and its release ends it later; PORST_N falling before the Trifle has started resets at
once, and from then on starts the flush, as RESET_N does; the reset takes place at the end of the flush, 1.2 ms after
PORST_N fell, or when VHOLD collapses, and leaves flash, MRAM and OTP alone but for what the flush writes to MRAM. Every
volatile word then reads 0. Where no such thing is due nothing changes.

Where the manual is silent this rests on the model's choices, log entries 5, 52, 131, 134. -/
def Obligations.PowerAndResets : Prop :=
  ∀ (s : State) (t a k : Nat) (ok : BitVec 13) (lost good : Bool) (since : Nat) (kind : ResetKind),
    let x := s.to t
    let b := x.boot
    let wiped := fun (y : State) =>
      y.boot.copyA = b.copyA ∧ y.cfg.state = .boot ∧ (y.coreOf 0).runst = .reset ∧ y.ldg.pending = [] ∧
      (inRange a flashBase flashLen = true → x.boot.upd.state = 0 → y.rd a = x.rd a) ∧
      (inRange a otpBase otpLen = true → x.boot.upd.state = 0 → y.rd a = x.rd a) ∧
      (inRange a flashBase flashLen = false → inRange a mramBase mramLen = false → inRange a otpBase otpLen = false →
        y.rd a = 0)
    let plain := fun (p : Phase) => p = .rom ∨ p = .firmware ∨ p = .recovery ∨ p = .halted
    (b.phase ≠ .off ∨ b.porst = true → exec (.powerGood t ok lost k) s = .next x) ∧
    (b.phase = .off → b.porst = false → Answers (.powerGood t ok lost k) s (fun y =>
      y.boot.porst = true ∧ y.boot.podOk = coreRails ok ∧ y.boot.offOsc = k ∧ y.boot.vbatLost = lost ∧
      y.boot.phase = (if coreRails ok then (if b.resetLow then .held else .starting x.now) else .off) ∧
      (coreRails ok = true → y.time.tq = (if lost then .unset else .holdover)) ∧
      (coreRails ok = true → lost = true → y.time.unc = 0xFFFFFFFF ∧ y.timeNow = x.headTime))) ∧
    (b.podOk = true → exec (.powerOnDetectorRelease t) s = .next x) ∧
    (b.podOk = false → Answers (.powerOnDetectorRelease t) s (fun y =>
      y.boot.podOk = true ∧
      y.boot.phase = (if b.phase = .off ∧ b.porst = true then (if b.resetLow then .held else .starting x.now) else b.phase))) ∧
    (b.porst = false → exec (.powerLoss t good) s = .next x) ∧
    (b.porst = true → b.phase = .held ∨ b.phase = .starting since → Answers (.powerLoss t good) s (fun y =>
      wiped y ∧ y.boot.phase = .off ∧ y.boot.porst = false ∧ y.boot.rstKind = .powerOn)) ∧
    (b.porst = true → plain b.phase → Answers (.powerLoss t good) s (fun y =>
      y.boot.phase = .flush .powerOn x.now ∧ y.boot.porst = false ∧ y.ldg.closing = true ∧ y.cfg.job = none ∧
      y.bbx.flush = some x.now ∧ (k < 256 → (y.coreOf k).runst = .reset) ∧
      (k % 2 = 0 ∨ x.leads (k - 1) = false → (y.coreOf k).d = (x.coreOf k).d) ∧
      (b.upd.state = 0 → y.mem = x.mem))) ∧
    (b.porst = true → b.phase = .flush kind since → good = true → Answers (.powerLoss t good) s (fun y =>
      y.boot = { b with porst := false, phase := .flush .powerOn x.now } ∧ y.mem = x.mem ∧ y.bbx = x.bbx ∧ y.ldg = x.ldg ∧
      (k < 256 → (y.coreOf k).runst = .reset))) ∧
    (plain b.phase ∨ b.phase = .off ∨ b.phase = .held ∨ b.phase = .starting since →
      exec (.flushDeadline t) s = .next x ∧ exec (.ledgerFlushEnd t) s = .next x ∧ exec (.vholdCollapse t) s = .next x) ∧
    (b.phase = .flush .powerOn since → x.now < since + 1200 * usCk1 → exec (.flushDeadline t) s = .next x) ∧
    (b.phase = .flush .powerOn since → since + 1200 * usCk1 ≤ x.now → Answers (.flushDeadline t) s (fun y =>
      wiped y ∧ y.boot.phase = .off ∧ y.boot.rstKind = .powerOn ∧ y.ldg.copyA.headOk = false ∧ y.ldg.lossNext = true)) ∧
    (b.phase = .flush .powerOn since → Answers (.vholdCollapse t) s (fun y =>
      wiped y ∧ y.boot.phase = .off ∧ y.ldg.copyA.headOk = false ∧ y.ldg.lossNext = true)) ∧
    (b.phase = .flush kind since → kind ≠ .powerOn → exec (.vholdCollapse t) s = .next x ∧
      exec (.flushDeadline t) s = .next x) ∧
    (b.phase = .flush kind since → kind ≠ .powerOn → x.cus.seq.isSome = true → Answers (.ledgerFlushEnd t) s (fun y =>
      y.boot.phase = .flush kind since ∧ y.cus.seq = x.cus.seq ∧ y.cfg.state = x.cfg.state ∧ y.bbx.flush = none ∧
      y.bbx.fifo = [] ∧ y.coreOf 0 = x.coreOf 0 ∧
      (b.upd.state = 0 → inRange a mramBase mramLen = false → y.rd a = x.rd a))) ∧
    (b.phase = .flush kind since → kind = .powerOn ∨ x.cus.seq = none → Answers (.ledgerFlushEnd t) s (fun y =>
      wiped y ∧ y.boot.rstKind = kind ∧
      y.boot.phase = (if kind = .powerOn then .off else if b.resetLow then .held else .starting x.now))) ∧
    (b.phase = .held → exec (.resetNRequest t) s = .next { x with boot := { b with resetLow := true } }) ∧
    (b.phase = .starting since → Answers (.resetNRequest t) s (fun y =>
      wiped y ∧ y.boot.phase = .held ∧ y.boot.rstKind = .resetN)) ∧
    (plain b.phase → Answers (.resetNRequest t) s (fun y =>
      y.boot.phase = .flush .resetN x.now ∧ y.boot.resetLow = true ∧ y.ldg.closing = true ∧
      (b.upd.state = 0 → y.mem = x.mem) ∧ y.coreOf k = x.coreOf k)) ∧
    (b.phase ≠ .held → exec (.resetNRelease t) s = .next { x with boot := { b with resetLow := false } }) ∧
    (b.phase = .held → Answers (.resetNRelease t) s (fun y =>
      y.boot.phase = .starting x.now ∧ y.boot.resetLow = false ∧ y.mem = x.mem ∧ y.coreOf k = x.coreOf k))

/-- Start-up (R22, R441, R447, R450, R453 to R458, R461, R462, R465): the Trifle starts when it is due, with enumeration;
RSTOUT_N is released 1.000 ms later; the ROM starts the first firmware slot that passes, or enters recovery; modules are
placed once, or the slot is rejected and the device resets; a slot is confirmed after 60 s in RUN or DEGRADED; an erased
sector reads 0xFFFF and no other word changes. Where no such step is due nothing changes.

Where the manual is silent this rests on the model's choices, log entries 31, 45. -/
def Obligations.StartUp : Prop :=
  ∀ (s : State) (t a n : Nat) (failed : BitVec 3) (since : Nat) (sec : Nat) (rest : List Nat) (k : BitVec 2),
    let x := s.to t
    let b := x.boot
    let c := x.bootChoose 0
    let f := c.fwTry (c.bootKind 0).cand
    let slot := (x.bootKind 0).slot
    let placeable := b.phase = .firmware ∧ b.stage = 2 ∧ b.hbmDone = true ∧ x.stackFailed = false ∧ b.placed = false ∧
      x.trf.stopped = false
    (b.phase ≠ .starting since → b.phase = .firmware ∨ b.phase = .off → exec (.trifleStart t failed) s = .next x) ∧
    (b.phase = .starting since → x.now < b.trifleDue → exec (.trifleStart t failed) s = .next x) ∧
    (b.phase = .starting since → b.trifleDue ≤ x.now → Answers (.trifleStart t failed) s (fun y =>
      y.boot.phase = .rom ∧ y.boot.trifleAt = x.now ∧ y.dies.enumAt = some x.now ∧ y.cus.voltArmed = true ∧
      y.cus.keyOk = (x.cus.helper && !x.cus.zeroed) ∧
      (n < 3 → failed.getLsbD n = true → y.trf.inVote.getLsbD n = false ∧ y.trf.failed.getLsbD n = true) ∧
      (n < 3 → failed.getLsbD n = false → y.trf.inVote.getLsbD n = x.trf.inVote.getLsbD n) ∧
      y.coreOf n = x.coreOf n)) ∧
    (b.phase.up = false ∨ x.now < b.trifleAt + msCk1 → exec (.rstoutRelease t) s = .next x) ∧
    (b.phase.up = true → b.trifleAt + msCk1 ≤ x.now → exec (.rstoutRelease t) s = .next { x with boot := { b with rstOut := true } }) ∧
    (b.phase ≠ .rom ∨ x.dies.enumEnd = none ∨ x.trf.stopped = true → exec (.firmwareStart t) s = .next x) ∧
    (b.phase = .rom → x.dies.enumEnd.isSome = true → x.trf.stopped = false → Answers (.firmwareStart t) s (fun y =>
      (f.2 = none → y.boot.phase = .recovery ∧ y.boot.stage = 8) ∧
      (f.2.isSome = true → y.boot.phase = .firmware ∧ some (y.bootKind 0).slot = f.2 ∧
        (y.boot.stage = 1 ∨ y.boot.stage = 11)) ∧
      y.coreOf n = x.coreOf n)) ∧
    (¬ placeable → exec (.modulePlace t) s = .next x) ∧
    (placeable → x.modulesOk slot = true → Answers (.modulePlace t) s (fun y =>
      y.boot.placed = true ∧ y.boot.stage = 3 ∧ y.boot.phase = .firmware ∧ y.coreOf n = x.coreOf n)) ∧
    (placeable → x.modulesOk slot = false → x.nvGone = false → Answers (.modulePlace t) s (fun y =>
      (y.slotRec 0 slot).state = slotRejected ∧ y.boot.phase = .flush .resetN x.now ∧ y.boot.placed = false)) ∧
    (b.commitAt = none ∨ x.cfg.state.operates = false ∨ b.phase ≠ .firmware ∨ k.toNat = 2 →
      exec (.slotConfirm t k) s = .next x) ∧
    (b.commitAt = some since → x.now < since + 60 * secCk1 → exec (.slotConfirm t k) s = .next x) ∧
    (b.commitAt = some since → b.phase = .firmware → x.cfg.state.operates = true → since + 60 * secCk1 ≤ x.now →
      x.nvGone = false →
      (k = 0 → (x.slotRec 0 slot).state = slotTrial → Answers (.slotConfirm t k) s (fun y =>
        (y.slotRec 0 slot).state = slotConfirmed ∧ (y.slotRec 0 slot).attempts = 0 ∧ (y.bootKind 0).trial = false)) ∧
      (k = 1 → b.slotCommitted = true → (x.slotRec 1 x.cfg.stagedSlot).state = slotTrial →
        Answers (.slotConfirm t k) s (fun y =>
          (y.slotRec 1 x.cfg.stagedSlot).state = slotConfirmed ∧ (y.slotRec 1 x.cfg.stagedSlot).attempts = 0))) ∧
    (b.upd.state ≠ 1 ∨ b.upd.toErase = [] → exec (.sectorEraseDone t) s = .next x) ∧
    (b.upd.state = 1 → b.upd.toErase = sec :: rest → Answers (.sectorEraseDone t) s (fun y =>
      y.boot.upd.toErase = rest ∧ y.boot.upd.erased = b.upd.erased + 1 ∧
      y.boot.upd.state = (if rest = [] then 2 else 1) ∧
      (x.nvGone = false → inRange a (65536 * sec) 65536 = true → inRange a flashBase flashLen = true → y.rd a = 0xFFFF) ∧
      (x.nvGone = true → y.mem = x.mem) ∧
      (inRange a (65536 * sec) 65536 = false → y.rd a = x.rd a)))

/-! ### Management commands -/

/-- The management commands of the image and of the evidence (R92 to R99, R371, R513): a request on a transport that is not
served changes nothing; an argument block of the wrong length answers 2, a running command 5; GET_STATUS, GET_DIGEST and
GET_FIELD answer what they read and change nothing else; GET_NONCE brings a fresh nonce; an authorised LOAD_IMAGE, ENABLE,
DISABLE, SPLIT or JOIN starts, and uses the nonce, and one whose signature fails answers 4 and does nothing else.

Where the manual is silent this rests on the model's choices, log entries 30, 94, 133. -/
def Obligations.ManagementCommands : Prop :=
  ∀ (s : State) (t : Nat) (q : MgmtReq) (port : MgmtPort) (cmd : Word),
    let x := s.to t
    let up := x.boot.phase = .firmware ∧ x.trf.stopped = false
    let w := x.mspiPeriod q.port
    let v := x.mspiPeriod port
    let idle := x.cfg.running = none ∧ x.cfg.job = none
    let used := { w with cfg := { w.cfg with nonce := none } }
    let owner := fun (c : Word) => x.reqSigned x.ownerKey c q
    let n := x.engOf (reqArg q 0)
    let tin := x.tinFrom (reqArg32 q 0) (reqArg q 2)
    (x.mgmtServed q.port = false → ∀ i ∈ ([(.getStatus t q), (.getNonce t q), (.getDigest t q), (.loadImage t q),
      (.enable t q), (.disable t q), (.splitCommand t q), (.joinCommand t q), (.getBbx t q), (.getField t q),
      (.unknownCommand t cmd q)] : List Instr), exec i s = .next x) ∧
    (x.mgmtServed port = false → exec (.mgmtFrameBad t port) s = .next x) ∧
    (x.mgmtServed port = true → x.cfg.cmdErr = 0xFFFF → exec (.mgmtFrameBad t port) s = .next v) ∧
    (x.mgmtServed port = true → x.cfg.cmdErr ≠ 0xFFFF → exec (.mgmtFrameBad t port) s =
      .next (({ v with cfg := { v.cfg with cmdErr := satInc x.cfg.cmdErr } }).raise 0 0x02 2)) ∧
    (up → mgmtCommands.contains cmd = false → exec (.unknownCommand t cmd q) s = .next (w.respond q.port cmd q.seq 1 [])) ∧
    (up → q.args ≠ [] → exec (.getStatus t q) s = .next (w.respond q.port 0x01 q.seq 2 []) ∧
      exec (.getNonce t q) s = .next (w.respond q.port 0x02 q.seq 2 []) ∧
      exec (.getDigest t q) s = .next (w.respond q.port 0x03 q.seq 2 [])) ∧
    (up → q.args = [] → ¬ idle → exec (.getStatus t q) s = .next (w.respond q.port 0x01 q.seq 5 []) ∧
      exec (.getNonce t q) s = .next (w.respond q.port 0x02 q.seq 5 []) ∧
      exec (.getDigest t q) s = .next (w.respond q.port 0x03 q.seq 5 [])) ∧
    (up → idle → q.args = [] →
      exec (.getStatus t q) s = .next (w.respond q.port 0x01 q.seq 0
        ([x.cfgStatus, x.cfg.reason] ++ lowHigh x.cfg.detail ++ lowHigh x.cfg.imgVer)) ∧
      exec (.getDigest t q) s = .next (w.respond q.port 0x03 q.seq 0 (w256Words x.cfg.digest)) ∧
      Answers (.getNonce t q) s (fun y =>
        let v := y.cfg.nonce.getD 0
        y = ({ w with free := y.free, cfg := { w.cfg with nonce := some v } }).respond q.port 0x02 q.seq 0 (words64 v))) ∧
    (up → idle → q.args.length = 33 → reqArg q 0 ≤ 1 → x.cfg.state.open = true → x.life ≠ 3 →
      Answers (.loadImage t q) s (fun y =>
        (owner 0x10 = true → y.cfg.job = some ⟨true, false, reqArg q 0 == 1, x.now, false⟩ ∧ y.cfg.nonce = none ∧
          y.cfg.running = some ⟨q.port, 0x10, q.seq⟩ ∧ y.cfg.responses = x.cfg.responses ∧ y.csr = x.csr) ∧
        (owner 0x10 = false → y = used.respond q.port 0x10 q.seq 4 []))) ∧
    (up → idle → q.args.length = 33 → reqArg q 0 ≤ 1 → x.cfg.state.open = false → Answers (.loadImage t q) s (fun y =>
      y.cfg.job = none ∧ y.cfg.nonce = none ∧ y.csr = x.csr ∧ y.mem = x.mem ∧
      y.cfg.notNow = (if owner 0x10 then satInc x.cfg.notNow else x.cfg.notNow))) ∧
    (up → idle → q.args.length = 32 → x.cfg.state = .loaded → x.cfg.staged = true → x.life ≠ 3 → x.stackFailed = false →
      Answers (.enable t q) s (fun y =>
        (owner 0x11 = true → y.cfg.job = some ⟨false, false, x.cfg.stagedSlot, x.now, false⟩ ∧ y.cfg.nonce = none ∧
          y.cfg.running = some ⟨q.port, 0x11, q.seq⟩ ∧ y.cfg.responses = x.cfg.responses ∧ y.csr = x.csr) ∧
        (owner 0x11 = false → y = used.respond q.port 0x11 q.seq 4 []))) ∧
    (up → idle → q.args.length = 32 → x.cfg.state = .run → x.moving = false → Answers (.disable t q) s (fun y =>
      (owner 0x12 = true → y.cfg.state = .loaded ∧ y.lat.running = false ∧ y.vdg.out = .stop ∧ y.vdg.forced = true ∧
        y.cfg.nonce = none ∧ y.csr.live = x.csr.live ∧ y.mem = x.mem) ∧
      (owner 0x12 = false → y = used.respond q.port 0x12 q.seq 4 []))) ∧
    (up → idle → q.args.length = 33 → reqArg q 0 < 128 → x.gatedEng (reqArg q 0) = false → x.canSwitch (reqArg q 0) = true →
      (x.modeNotNow (reqArg q 0) true = false → Answers (.splitCommand t q) s (fun y =>
        (owner 0x20 = true → y.engOf (reqArg q 0) = { n with modeCmd := some ⟨true⟩ } ∧
          y.cfg.running = some ⟨q.port, 0x20, q.seq⟩ ∧ y.cfg.nonce = none ∧ y.mem = x.mem) ∧
        (owner 0x20 = false → y = used.respond q.port 0x20 q.seq 4 []))) ∧
      (x.modeNotNow (reqArg q 0) false = false → Answers (.joinCommand t q) s (fun y =>
        (owner 0x21 = true → y.engOf (reqArg q 0) = { n with modeCmd := some ⟨false⟩ } ∧
          y.cfg.running = some ⟨q.port, 0x21, q.seq⟩ ∧ y.cfg.nonce = none ∧ y.mem = x.mem) ∧
        (owner 0x21 = false → y = used.respond q.port 0x21 q.seq 4 [])))) ∧
    (up → idle → q.args.length = 3 → 1 ≤ reqArg q 2 → reqArg q 2 ≤ 16 → x.bbx.ready = true →
      (tin ≠ [] → exec (.getBbx t q) s = .next (w.respond q.port 0x70 q.seq 0
        ([wordAt (tin.headD []) 2, wordAt (tin.headD []) 3, BitVec.ofNat 16 tin.length] ++ tin.flatten))) ∧
      (tin = [] → Answers (.getBbx t q) s (fun y => y.cfg.responses.length = x.cfg.responses.length + 1 ∧
        y.mem = x.mem))) ∧
    (up → idle → q.args.length = 2 → 1 ≤ reqArg q 1 → reqArg q 0 + reqArg q 1 ≤ 640 → x.bbx.ready = true →
      exec (.getField t q) s = .next (w.respond q.port 0x71 q.seq 0
        ((List.range (reqArg q 1)).map (fun i => x.fldWord (reqArg q 0 + i)))))

/-- The custody commands (R471 to R476): GET_CUSTODY and GET_LCERT answer what they read; a request that is not authorised
by a signer of an accepted kind answers 4 and uses the nonce, and no more; ENROL, PROVISION, SEAL, ADVANCE_EPOCH,
REVOKE_ROOT and RETIRE program OTP, in which no bit is ever cleared; SET_OWNER gives the owner key; REENROL brings a new
key after a zeroisation; RETIRE freezes the ledger. No command writes flash, a pool or HBM.

Where the manual is silent this rests on the model's choices, log entries 87, 91. -/
def Obligations.CustodyCommands : Prop :=
  ∀ (s : State) (t a : Nat) (q : MgmtReq) (ok : Bool) (n : Nat),
    let x := s.to t
    let up := x.boot.phase = .firmware ∧ x.trf.stopped = false ∧ x.cfg.running = none ∧ x.cfg.job = none
    let w := x.mspiPeriod q.port
    let used := { w with cfg := { w.cfg with nonce := none } }
    let auth := fun (kinds : List Nat) (c : Word) => x.custodyAuth kinds c q
    let sane := signerBad q = false
    let grows := fun (y : State) =>
      (inRange a otpBase otpLen = true → (x.rd a).getLsbD n = true → (y.rd a).getLsbD n = true) ∧
      (inRange a otpBase otpLen = false → y.rd a = x.rd a)
    (up → q.args = [] → exec (.getCustody t q) s = .next (w.respond q.port 0x60 q.seq 0
      ([x.view 0 0x0B 0, x.view 0 0x0B 1] ++ lowHigh (BitVec.ofNat 32 x.sealEpoch) ++
        lowHigh (BitVec.ofNat 32 x.fwCounter) ++ words64 (Config.dieUid 0)))) ∧
    (up → q.args.length = 1 → reqArg q 0 ≤ 3 →
      exec (.getLcert t q) s = .next (w.respond q.port 0x61 q.seq 0 (x.certWords (reqArg q 0)))) ∧
    (up → q.args.length ≠ 1 → exec (.getLcert t q) s = .next (w.respond q.port 0x61 q.seq 2 [])) ∧
    (up → q.args.length = 162 → sane → reqArg q 1 < 16 → x.life = 0 → x.noRoot = true → Answers (.enrol t q ok) s (fun y =>
      grows y ∧
      (auth [0] 0x62 = true → y.cus.enrols = x.cus.enrols + 1 ∧ y.cus.keyOk = true ∧ y.cus.helper = true ∧
        y.cfg.nonce = none) ∧
      (auth [0] 0x62 = false → y = used.respond q.port 0x62 q.seq 4 []))) ∧
    (up → q.args.length = 76 → x.certWrong q.args = true → exec (.installLcert t q ok) s =
      .next (w.respond q.port 0x63 q.seq 2 [])) ∧
    (up → q.args.length = 76 → x.emptyCert.isSome = true → x.life ≠ 3 → x.cus.keyOk = true →
      Answers (.installLcert t q ok) s (fun y =>
        grows y ∧
        (x.certWrong q.args = false → ok = true →
          y.certWords (x.emptyCert.getD 0) = List.zipWith (fun o n => o ||| n) (x.certWords (x.emptyCert.getD 0)) q.args))) ∧
    (up → q.args.length = 65 → sane → x.life ≠ 3 → Answers (.setOwner t q) s (fun y =>
      let yes := auth (if x.life = 0 then [0] else [1, 2]) 0x64
      (yes = true → y = ({ used with cus := { x.cus with owner := some ((q.args.drop 1).take 32) } }).respond q.port 0x64
        q.seq 0 []) ∧
      (yes = false → y = used.respond q.port 0x64 q.seq 4 []))) ∧
    (up → q.args.length = 33 → sane → x.life = 0 → [0, 1, 2, 3].any x.rootValid = true →
      [0, 1, 2, 3].any x.certWritten = true → x.cus.owner.isSome = true → Answers (.provision t q ok) s (fun y =>
        grows y ∧ (auth [0] 0x65 = true → ok = true → y.life = 1) ∧
        (auth [0] 0x65 = false → y = used.respond q.port 0x65 q.seq 4 []))) ∧
    (up → q.args.length = 33 → sane → x.life = 1 → x.cfg.state.open = true → Answers (.sealDevice t q ok) s (fun y =>
      grows y ∧ (auth [2] 0x66 = true → ok = true → y.life = 2) ∧
      (auth [2] 0x66 = false → y = used.respond q.port 0x66 q.seq 4 []))) ∧
    (up → q.args.length = 35 → sane → x.sealEpoch < reqArg32 q 1 → reqArg32 q 1 ≤ 32768 → x.inService = true →
      Answers (.advanceEpoch t q ok) s (fun y =>
        grows y ∧ (auth [2] 0x67 = true → ok = true → y.sealEpoch = reqArg32 q 1) ∧
        (auth [2] 0x67 = false → y = used.respond q.port 0x67 q.seq 4 []))) ∧
    (up → q.args.length = 34 → sane → reqArg q 1 ≤ 3 →
      ([0, 1, 2, 3].filter (fun k => k != reqArg q 1)).any x.rootValid = true →
      ((signerKind q) == 2 && bits (reqArg q 0) 3 2 == reqArg q 1) = false → x.inService = true →
      Answers (.revokeRoot t q ok) s (fun y =>
        grows y ∧
        (auth [2] 0x68 = true → x.rootValid (reqArg q 1) = true → ok = true → y.rootValid (reqArg q 1) = false) ∧
        (auth [2] 0x68 = false → y = used.respond q.port 0x68 q.seq 4 []))) ∧
    (up → q.args.length = 33 → sane → x.inService = true → x.cus.zeroed = true → Answers (.reenrol t q) s (fun y =>
      (auth [2] 0x69 = true → y.cus.zeroed = false ∧ y.cus.keyOk = true ∧ y.cus.enrols = x.cus.enrols + 1 ∧
        y.mem = x.mem) ∧
      (auth [2] 0x69 = false → y = used.respond q.port 0x69 q.seq 4 []))) ∧
    (up → q.args.length = 33 → sane → x.life ≠ 3 → x.moving = false → Answers (.retire t q ok) s (fun y =>
      let yes := auth (if x.life = 0 then [0, 2] else [2]) 0x6A
      grows y ∧
      (yes = true → y.ldg.frozen = true ∧ (ok = true → y.life = 3) ∧ (x.cfg.state = .run → y.cfg.state = .loaded)) ∧
      (yes = false → y = used.respond q.port 0x6A q.seq 4 [])))

/-- The Gnomi session and the update session (R188 to R191, R464 to R468): HELLO brings a nonce and no session; OPEN with
an inspector's certificate and signature opens the one session, which CLOSE or 60 s without a command end; READ needs the
right and changes nothing held; UPD_BEGIN opens a session for an inactive slot; UPD_WRITE writes its words and no
other; UPD_COMMIT makes the slot one on TRIAL where the hash matches; UPD_ABORT ends the session.

Where the manual is silent this rests on the model's choices, log entries 82, 83, 85, 86. -/
def Obligations.ReadOutAndUpdate : Prop :=
  ∀ (s : State) (t a : Nat) (q : MgmtReq) (ok : Bool) (g : GnomiSession),
    let x := s.to t
    let up := x.boot.phase = .firmware ∧ x.trf.stopped = false ∧ x.cfg.running = none ∧ x.cfg.job = none
    let w := x.mspiPeriod q.port
    let u := x.boot.upd
    let at_ := slotWord u.kind.toNat u.slot + reqArg32 q 0
    let open_ := x.inspectorOk (q.args.take 76) && x.openSigned q
    (up → q.args = [] → Answers (.gnomiHello t q) s (fun y =>
      y.ldg.helloNonce.isSome = true ∧ y.ldg.session.map (fun g => g.cert) = x.ldg.session.map (fun g => g.cert) ∧
      y.ldg.seq = x.ldg.seq ∧ y.mem = x.mem)) ∧
    (up → q.args.length = 108 → x.ldg.session = none → Answers (.gnomiOpen t q) s (fun y =>
      y.ldg.session = (if open_ then some ⟨q.args.take 76, (wordAt q.args 43).setWidth 2, x.now⟩ else none) ∧
      (open_ = false → y = w.respond q.port 0x41 q.seq 4 []) ∧ y.mem = x.mem)) ∧
    (up → q.args.length = 5 → 1 ≤ reqArg q 4 → reqArg q 4 ≤ 8 → Answers (.gnomiRead t q) s (fun y =>
      let rs := x.heldFrom (ofWordsLow (q.args.take 4)) (reqArg q 4)
      (x.gnomiMay 0 = false → y = w.gnomiHeard.respond q.port 0x42 q.seq 4 []) ∧
      (x.gnomiMay 0 = true → rs ≠ [] → y = w.gnomiHeard.respond q.port 0x42 q.seq 0
        (wordsLow 4 (recSeq (rs.headD [])) ++ [BitVec.ofNat 16 rs.length] ++ rs.flatten)) ∧
      y.ldg.copyA = x.ldg.copyA ∧ y.mem = x.mem)) ∧
    (up → q.args.length = 4 → 1 ≤ reqArg q 3 → reqArg q 3 ≤ 8 → Answers (.gnomiArch t q) s (fun y =>
      (x.gnomiMay 1 = false → y = w.gnomiHeard.respond q.port 0x43 q.seq 4 []) ∧
      y.cfg.responses.length = x.cfg.responses.length + 1 ∧ y.ldg.archive = x.ldg.archive ∧ y.mem = x.mem)) ∧
    (up → q.args = [] → x.ldg.session = none →
      exec (.gnomiClose t q) s = .next (w.respond q.port 0x44 q.seq 4 [])) ∧
    (up → q.args = [] → x.ldg.session.isSome = true → exec (.gnomiClose t q) s =
      .next (({ w with ldg := { w.ldg with session := none } }).respond q.port 0x44 q.seq 0 [])) ∧
    (x.ldg.session = none → exec (.gnomiTimeout t) s = .next x) ∧
    (x.ldg.session = some g → exec (.gnomiTimeout t) s = .next (if x.now < g.lastCmd + 60 * secCk1 then x
      else { x with ldg := { x.ldg with session := none } })) ∧
    (up → u.state = 0 → q.args.length = 52 → reqArg q 0 ≤ 2 → reqArg q 1 ≤ 1 → 1 ≤ reqArg32 q 2 →
      reqArg32 q 2 ≤ slotSize (reqArg q 0) - 1 → x.slotActive (reqArg q 0) (reqArg q 1 == 1) = false → x.life ≠ 3 →
      Answers (.updBegin t q) s (fun y =>
        let yes := x.reqSigned x.ownerKey 0x50 q
        y.cfg.nonce = none ∧ (inRange a mramBase mramLen = false → y.rd a = x.rd a) ∧
        y.boot.upd.state = (if yes then 1 else 0) ∧
        (yes = true → y.boot.upd.kind.toNat = reqArg q 0 ∧ y.boot.upd.slot = (reqArg q 1 == 1) ∧
          y.boot.upd.len = reqArg32 q 2 ∧ y.boot.upd.hash = wordsW256 (q.args.drop 4) ∧
          y.boot.upd.toErase = eraseList (reqArg q 0) (reqArg q 1 == 1) (reqArg32 q 2)))) ∧
    (up → u.state = 0 → q.args = [] → exec (.updCommit t q) s = .next (w.respond q.port 0x52 q.seq 4 []) ∧
      exec (.updAbort t q) s = .next (w.respond q.port 0x53 q.seq 4 [])) ∧
    (up → u.state = 2 → 3 ≤ q.args.length → q.args.length ≤ 962 → reqArg32 q 0 + (q.args.length - 2) ≤ u.len →
      x.unerased at_ (q.args.length - 2) = false → x.life ≠ 3 → x.updActive = false → x.nvGone = false →
      Answers (.updWrite t q ok) s (fun y =>
        (ok = true → y.rd a = (if at_ ≤ a ∧ a < at_ + (q.args.length - 2) then wordAt q.args (2 + (a - at_)) else x.rd a) ∧
          y.boot.upd = u) ∧
        (ok = false → y.boot.upd.state = 3 ∧ y.boot.upd.cause = 2 ∧
          (a < at_ ∨ at_ + (q.args.length - 2) ≤ a → y.rd a = x.rd a)))) ∧
    (up → u.state = 2 → q.args = [] → x.life ≠ 3 → x.updActive = false → x.nvGone = false →
      Answers (.updCommit t q) s (fun y =>
        (x.updMatches = true → y.boot.upd.state = 0 ∧ y.slotValid u.kind.toNat u.slot = true ∧
          (y.slotRec u.kind.toNat u.slot).state = slotTrial ∧ (y.slotRec u.kind.toNat u.slot).attempts = 0 ∧
          (y.slotRec u.kind.toNat u.slot).gen = x.topGen u.kind.toNat + 1) ∧
        (x.updMatches = false → y = w.respond q.port 0x52 q.seq 0 [1])) ∧
      Answers (.updAbort t q) s (fun y => y.boot.upd.state = 0))

/-! ### Debug, the biscuit tin, watchdogs and tamper -/

/-- The TAP and debug sessions (R487, R489 to R491): each instruction loads its capture; a boundary instruction acts only
under the BOUNDARY right in BOOT or LOADED and selects BYPASS otherwise; a token always uses the nonce, gives its outcome,
and opens a session with its rights and scope only where the outcome is 0; in RETIRED the debug instructions select
BYPASS. TRST closes the session. No word of memory changes, and no register of a core, a checker apart, which follows its
main core.

Where the manual is silent this rests on the model's choices, log entries 77, 79, 80. -/
def Obligations.TapAndTokens : Prop :=
  ∀ (s : State) (t j : Nat) (code : BitVec 8) (shifted : List Bool) (words : List Word),
    let x := s.to t
    let sel := fun (ir : BitVec 8) (c : BitVec 64) => { x with dbg := { x.dbg with ir := ir, capture := c } }
    let ws := fitW 52 words
    let retired := x.life = 3
    let leader := j % 2 = 0 ∨ x.leads (j - 1) = false
    exec (.tapReset t false) s = .next (sel 0x01 0x1A8C11D7) ∧
    Answers (.tapReset t true) s (fun y =>
      y.dbg.ir = 0x01 ∧ y.dbg.session = none ∧ y.mem = x.mem ∧ (leader → (y.coreOf j).d = (x.coreOf j).d) ∧
      (x.dbg.session.isSome = true → y.dbg.trifleHalted = false)) ∧
    (tapCodes.contains code = true → exec (.bypass t code) s = .next x) ∧
    (tapCodes.contains code = false → exec (.bypass t code) s = .next (sel 0xFF 0)) ∧
    exec (.idcode t) s = .next (sel 0x01 0x1A8C11D7) ∧
    exec (.samplePreload t shifted) s = .next { x with dbg := { x.dbg with ir := 0x02, capture := 0, boundary := shifted } } ∧
    (x.boundaryOk = false → exec (.extest t shifted) s = .next (sel 0xFF 0) ∧ exec (.clamp t) s = .next (sel 0xFF 0) ∧
      exec (.highz t) s = .next (sel 0xFF 0)) ∧
    (x.boundaryOk = true →
      exec (.extest t shifted) s = .next { x with dbg := { x.dbg with ir := 0x03, capture := 0, boundary := shifted } } ∧
      exec (.clamp t) s = .next (sel 0x04 0) ∧ exec (.highz t) s = .next (sel 0x05 0)) ∧
    (retired → exec (.dbgNonce t) s = .next (sel 0xFF 0) ∧ exec (.dbgToken t words) s = .next (sel 0xFF 0)) ∧
    (¬ retired → Answers (.dbgNonce t) s (fun y =>
      y.dbg.ir = 0x10 ∧ y.dbg.nonce = some y.dbg.capture ∧
      (x.dbg.nonce.isSome = true → y.dbg.nonce = x.dbg.nonce) ∧ y.dbg.session = x.dbg.session ∧ y.mem = x.mem)) ∧
    (¬ retired → x.tokenCode ws ≠ 0 → exec (.dbgToken t words) s =
      .next { x with dbg := { x.dbg with tokRes := x.tokenCode ws, nonce := none, ir := 0x11 } }) ∧
    (¬ retired → Answers (.dbgToken t words) s (fun y =>
      y.dbg.tokRes = x.tokenCode ws ∧ y.dbg.nonce = none ∧ y.mem = x.mem ∧ y.coreOf j = x.coreOf j ∧
      (x.tokenCode ws = 0 → y.dbg.session = some ⟨(wordAt ws 9).setWidth 5,
          BitVec.ofNat 128 (ofWordsLow ((ws.drop 10).take 8)), wordAt ws 8, false⟩ ∧
        y.dbg.sessions = satInc x.dbg.sessions))) ∧
    (x.dbg.nonce = none → ofWordsLow (ws.take 4) = (Config.dieUid 0).toNat → x.tokenCode ws = 2)

/-- Debug accesses (R372, R373, R480, R488, R490 to R493, R498): DBG_AP captures the last answer, and acts only where its
bits 39:36 are 0; an access that is denied counts, gives its reason and changes no register of a core and no word;
DBG_CTRL.OPEN opens a session in MANUFACTURE alone; a session with HALT over a core halts, steps and resumes it; a halted
core's D registers are read and written through DBG_RDATA, and the checker of a locked engine follows; a word that is not locked is read and written through DBG_MDATA,
and no other word changes.

Where the manual is silent this rests on the model's choices, log entries 32, 76, 78, 129. -/
def Obligations.DebugAccesses : Prop :=
  ∀ (s : State) (t a j : Nat) (dr : BitVec 40) (die : DieAddr) (slot : BitVec 5) (core : BitVec 1) (v : Word) (wr : Bool)
    (d : DbgSession) (r : BitVec 4),
    let x := s.to t
    let c := 2 * engAt die.toNat slot.toNat + core.toNat
    let k := x.coreOf c
    let ma := x.regN 0 0x0D 0x10 3
    let plain := x.life ≠ 3 ∧ x.flag 0 0x0D 0x14 0 = false
    let free := (x.die die.toNat).fenced = false ∧ (x.decodeRefuses false wr (csrBase + die.toNat * 0x1000000 + 0x0D0012)) = none
    (x.life = 3 → exec (.dbgCtrlOpen t) s = .next { x with dbg := { x.dbg with ir := 0xFF } } ∧
      exec (.dbgMemoryAccess t wr v) s = .next { x with dbg := { x.dbg with ir := 0xFF } }) ∧
    (4 ≤ dr.toNat / 2 ^ 34 → bits dr.toNat 39 36 ≠ 0 → exec (.dbgAp t dr) s =
      .next { x with dbg := { x.dbg with capture := x.dbg.apCapture } }) ∧
    (dr = 0x800010000 ||| (v &&& 2).setWidth 40 → x.life ≠ 3 → x.dbg.session = none → Answers (.dbgAp t dr) s (fun y =>
      y.dbg.session = none ∧ y.mem = x.mem ∧ y.coreOf j = x.coreOf j)) ∧
    (x.life = 0 → Answers (.dbgCtrlOpen t) s (fun y =>
      y.dbg.session = some ⟨0x1F, BitVec.allOnes 128, 0, false⟩ ∧ y.dbg.sessions = satInc x.dbg.sessions ∧
      y.mem = x.mem ∧ y.coreOf j = x.coreOf j)) ∧
    (x.life = 1 ∨ x.life = 2 → Answers (.dbgCtrlOpen t) s (fun y =>
      y.dbg.session = x.dbg.session ∧ y.mem = x.mem ∧ y.coreOf j = x.coreOf j)) ∧
    (x.life ≠ 3 → Answers (.dbgCtrlClose t) s (fun y =>
      y.dbg.session = none ∧ y.mem = x.mem ∧
      (j % 2 = 0 ∨ x.leads (j - 1) = false → (y.coreOf j).d = (x.coreOf j).d))) ∧
    (x.dbg.session = none → Answers (.debugHalt t die slot core) s (fun y =>
      (die.toNat ≤ 4 → y.dbg.denyInfo = 5 ∧ y.dbg.denyCnt = satInc x.dbg.denyCnt) ∧ y.coreOf j = x.coreOf j ∧
      y.mem = x.mem)) ∧
    (die = 0 → x.dbg.session = some d → d.rights.getLsbD 4 = true →
      Answers (.debugHalt t die slot core) s (fun y => y.dbg.trifleHalted = true ∧ y.coreOf j = x.coreOf j ∧ y.mem = x.mem) ∧
      Answers (.debugResume t die slot core) s (fun y => y.dbg.trifleHalted = false ∧ y.coreOf j = x.coreOf j ∧
        (x.dbg.trifleHalted = true → ∀ n ∈ ([0, 1] : List Nat), (y.wdtOf n).frozenAt =
          (if (x.wdtOf n).byErase then (x.wdtOf n).frozenAt else none))) ∧
      exec (.debugStep t die slot core) s = .next x) ∧
    (isCompute die.toNat = true → x.dbg.session = some d → d.rights.getLsbD 0 = true → d.has c = true → x.noCore c = false →
      Answers (.debugHalt t die slot core) s (fun y =>
        (k.runst = .halted → y = x) ∧
        (k.runst = .run → x.coreLive c = true → k.resumeAt ≤ x.now → (x.engOf (coreEng c)).modeCmd = none →
          y.coreOf c = { k with haltReq := false, runst := .halted, haltedAt := x.now }) ∧
        (x.Apart c j → y.coreOf j = x.coreOf j) ∧ y.mem = x.mem) ∧
      Answers (.debugStep t die slot core) s (fun y =>
        y.coreOf c = (if k.runst = .halted then { k with runst := .run, haltReq := true } else k) ∧
        (x.Apart c j → y.coreOf j = x.coreOf j) ∧ y.mem = x.mem) ∧
      Answers (.debugResume t die slot core) s (fun y =>
        y.coreOf c = { k with haltReq := false, runst := if k.runst = .halted then .run else k.runst } ∧
        (x.Apart c j → y.coreOf j = x.coreOf j) ∧ y.mem = x.mem)) ∧
    (plain → isCompute die.toNat = true → free → x.dbg.session = none → Answers (.dbgRegisterAccess t die wr v) s (fun y =>
      y.dbg.denyInfo = 5 ∧ y.dbg.apDenied = true ∧ y.coreOf j = x.coreOf j ∧ y.mem = x.mem)) ∧
    (plain → isCompute die.toNat = true → free → x.dbg.session = some d → d.rights.getLsbD 0 = true → d.has c = true →
      x.noCore c = false → x.reg die.toNat 0x0D 0x10 = slot.setWidth 16 ||| core.setWidth 16 <<< 5 → x.fld die.toNat 0x0D 0x11 9 0 = 0x100 + r.toNat →
      k.runst = .halted → Answers (.dbgRegisterAccess t die wr v) s (fun y =>
        (wr = false → y.dbg.apData = k.dr r.toNat ∧ y.coreOf c = k) ∧ (wr = true → y.coreOf c = k.setD r.toNat v) ∧
        y.dbg.apDenied = false ∧ (x.Apart c j → y.coreOf j = x.coreOf j) ∧ y.mem = x.mem)) ∧
    (plain → x.dbg.session = none → Answers (.dbgMemoryAccess t wr v) s (fun y =>
      y.dbg.apDenied = true ∧ y.dbg.denyCnt = satInc x.dbg.denyCnt ∧ y.dbg.denyInfo = (if x.dbgLocked wr ma then 1 else 5) ∧
      y.mem = x.mem)) ∧
    (plain → x.dbg.session = some d → d.rights.getLsbD 1 = true → x.dbgLocked wr ma = false → spadLen ≤ ma → isCsr ma = false →
      (x.decodeRefuses true wr ma) = none → hbmStackOf ma = none → inRange ma flashBase flashLen = false →
      inRange ma mramBase mramLen = false → inRange ma otpBase otpLen = false → x.classAt (ma / 8) = .none →
      (x.die 0).fenced = false → (poolOf ma).isSome = true →
      Answers (.dbgMemoryAccess t wr v) s (fun y =>
        (wr = false → y.dbg.apData = x.rd ma ∧ y.mem = x.mem) ∧ (a ≠ ma → y.rd a = x.rd a) ∧
        (wr = true → y.rd ma = v) ∧ y.dbg.denyCnt = x.dbg.denyCnt))

/-- The biscuit tin and the field record (R505 to R512, R546, R547, R551): a request of a listed kind joins the FIFO of at most 16,
and one that finds it full is lost and counted; the oldest entry is written 512 CK4 after its writing began; the boot scan
gives READY and the next sequence number; a second of operation counts a bin for each present die and advances SECS; an
excursion counts once, and does no more unless a hub-core rail falls, or in the flush of a power loss a hold-up rail, which
puts the device in power-on reset. No other step changes a core, and only the writes and the scan change memory, in the
MRAM alone.

Where the manual is silent this rests on the model's choices, log entries 5, 102, 112, 131. -/
def Obligations.BiscuitTin : Prop :=
  ∀ (s : State) (t a j n : Nat) (kind : Byte) (body : List Word) (cs : List Int) (c : Int) (rail : BitVec 4) (high : Bool)
    (w : Nat) (r : BbxReq) (rs : List BbxReq),
    let x := s.to t
    let b := x.bbx
    let listed := (1 ≤ kind.toNat ∧ kind.toNat ≤ 0x0F) ∨ kind = 0x80
    let room := (x.flushing = false ∨ kind = 0x0C) ∧ b.full = false ∧ b.fifo.length < 16
    let core := !high && (rail == 1 || rail == 2 || rail == 5)
    let dying := match x.boot.phase with
      | .flush .powerOn _ => true
      | _ => false
    let resets := x.boot.phase ≠ .off ∧ high = false ∧ (core = true ∨ (dying = true ∧ (rail = 9 ∨ rail = 10)))
    let mramOnly := fun (y : State) => inRange a mramBase mramLen = false → y.rd a = x.rd a
    (¬ listed ∨ x.nvGone = true → exec (.bbxEntryRequest t kind body) s = .next x) ∧
    (listed → x.nvGone = false → room → Answers (.bbxEntryRequest t kind body) s (fun y =>
      y.bbx.fifo.length = b.fifo.length + 1 ∧ y.bbx.lost = b.lost ∧ y.mem = x.mem ∧ y.coreOf j = x.coreOf j)) ∧
    (listed → x.nvGone = false → ¬ room → Answers (.bbxEntryRequest t kind body) s (fun y =>
      y.bbx.fifo = b.fifo ∧ y.bbx.lost = satInc b.lost ∧ y.bbx.lossNext = true ∧ y.mem = x.mem ∧
      y.coreOf j = x.coreOf j)) ∧
    (b.writing = none ∨ b.fifo = [] ∨ b.flush.isSome = true ∨ x.nvGone = true → exec (.bbxEntryWrite t) s = .next x) ∧
    (b.writing = some w → x.now < w + 512 * ck4 → exec (.bbxEntryWrite t) s = .next x) ∧
    (b.writing = some w → b.fifo = r :: rs → w + 512 * ck4 ≤ x.now → b.flush = none → x.nvGone = false → b.full = false →
      Answers (.bbxEntryWrite t) s (fun y =>
        y.bbx.fifo = rs ∧ y.bbx.next = (if b.next = 0xFFFFFFFF then b.next else b.next + 1) ∧
        y.bbx.full = decide (b.next = 0xFFFFFFFF) ∧ mramOnly y ∧ y.coreOf j = x.coreOf j)) ∧
    (b.ready = true ∨ x.dies.enumAt = none → exec (.bbxScanEnd t) s = .next x) ∧
    (b.ready = false → x.dies.enumAt.isSome = true → Answers (.bbxScanEnd t) s (fun y =>
      let q := x.scanFrom 0 none (List.range 4128)
      y.bbx.ready = true ∧ (q.2.1 = 0 → y.bbx.next = q.2.2.elim 0 (fun m => BitVec.ofNat 32 (m + 1))) ∧ mramOnly y ∧
      y.coreOf j = x.coreOf j)) ∧
    (b.fldDue = false → exec (.fieldRecordWrite t) s = .next x) ∧
    (b.fldDue = true → Answers (.fieldRecordWrite t) s (fun y =>
      y.bbx.fldDue = false ∧ mramOnly y ∧ y.coreOf j = x.coreOf j)) ∧
    (x.boot.phase = .off ∨ x.now < b.fldAt + (b.fldSecs + 1) * secCk1 → exec (.tempSample t cs) s = .next x) ∧
    (x.boot.phase = .firmware → b.fldAt + (b.fldSecs + 1) * secCk1 ≤ x.now → n < 8 → cs[n]? = some c →
      n = 0 ∨ (x.die n).present = true → (b.fld.get (dflt 0) 14).toNat < 360 → Answers (.tempSample t cs) s (fun y =>
        y.fld32 (16 + 32 * n + 2 * tempBin c) = satAdd (x.fld32 (16 + 32 * n + 2 * tempBin c)) 1 ∧
        y.bbx.fldSecs = b.fldSecs + 1 ∧ y.mem = x.mem ∧ y.coreOf j = x.coreOf j ∧
        y.bbx.fld.get (dflt 0) 14 = (if (b.fld.get (dflt 0) 14).toNat = 359 then 0 else b.fld.get (dflt 0) 14 + 1))) ∧
    (12 < rail.toNat → exec (.railExcursion t rail high) s = .next x) ∧
    (rail.toNat ≤ 12 → ¬ resets → Answers (.railExcursion t rail high) s (fun y =>
      let at_ := 272 + 2 * rail.toNat + b2n high
      y.bbx.fld.get (dflt 0) at_ = satAdd (b.fld.get (dflt 0) at_) 1 ∧
      (n ≠ at_ → y.bbx.fld.get (dflt 0) n = b.fld.get (dflt 0) n) ∧
      y.cus.vddio33Lost = (x.cus.vddio33Lost || (decide (rail = 10) && !high)) ∧
      y.boot = { x.boot with podOk := x.boot.podOk && !core } ∧ y.mem = x.mem ∧ y.coreOf j = x.coreOf j)) ∧
    (rail.toNat ≤ 12 → resets → Answers (.railExcursion t rail high) s (fun y =>
      y.boot.phase = .off ∧ y.boot.rstKind = .powerOn ∧ y.boot.podOk = (x.boot.podOk && !core) ∧
      (y.coreOf 0).runst = .reset ∧ y.cfg.state = .boot))

/-- The watchdogs' own events (R431, R185, R433 to R440): WCLOSE reached without a service is LATE, a CHECKIN period that ends with
tasks missing is MISSING, and both start the next period at the edge or reset the engine; the warning point sets the
notice once; erase-busy freezes a Trifle watchdog whose last period was good and its fall thaws it; the erase cap ends an
erase of 250 ms and fails the session, or the write of the archive that needed it. Where no such point is reached nothing changes. -/
def Obligations.WatchdogEvents : Prop :=
  ∀ (s : State) (t a j : Nat) (w : WdtId) (t0 : Nat) (sec : Nat) (rest : List Nat)
    (e : ArchEntry) (es : List ArchEntry),
    let x := s.to t
    let k := wdtNo w
    let u := x.wdtOf k
    let due := x.wdtRuns k = true ∧ x.wdtLimit k ≤ x.wdtPos k
    let missing := BitVec.ofNat 16 (x.wdtWord k 5) &&& ~~~u.done
    (¬ due ∨ x.wdtMode k ≠ 1 → exec (.wdtWindowClose t w) s = .next x) ∧
    (¬ due ∨ x.wdtMode k ≠ 2 → exec (.wdtPeriodEnd t w) s = .next x) ∧
    (due → x.wdtMode k = 1 → x.wdtActs k = false → Answers (.wdtWindowClose t w) s (fun y =>
      y.wdtOf k = { u with
        start := u.start + x.wdtLimit k, bad := false, badPrev := true, warned := false, done := 0
        violCnt := satInc u.violCnt, seen := setBit u.seen 1 true
        cause := if x.flag (wdtDie k) 4 (wdtOff k + 8) 15 then u.cause else 2 } ∧
      (256 ≤ k ∨ u.badPrev = false → y.mem = x.mem ∧ y.boot = x.boot))) ∧
    (due → x.wdtMode k = 1 → x.wdtActs k = true → Answers (.wdtWindowClose t w) s (fun y =>
      (y.wdtOf k).violCnt = satInc u.violCnt ∧ (y.coreOf (k - 256)).lastRst = 3 ∧
      ((y.coreOf (k - 256)).resumeAt = x.now + engResetCk1))) ∧
    (due → x.wdtMode k = 2 → missing ≠ 0 → x.wdtActs k = false → Answers (.wdtPeriodEnd t w) s (fun y =>
      y.wdtOf k = { u with
        start := u.start + x.wdtLimit k, bad := false, badPrev := true, warned := false, done := 0
        violCnt := satInc u.violCnt, seen := setBit u.seen 4 true
        cause := if x.flag (wdtDie k) 4 (wdtOff k + 8) 15 then u.cause else 5 })) ∧
    (due → x.wdtMode k = 2 → missing = 0 → Answers (.wdtPeriodEnd t w) s (fun y =>
      y.wdtOf k = { u with
        start := u.start + x.wdtLimit k, bad := false, badPrev := u.bad, warned := false, done := 0 } ∧
      (256 ≤ k ∨ u.badPrev = false → y.mem = x.mem ∧ y.boot = x.boot))) ∧
    (u.warned = true ∨ x.wdtRuns k = false ∨ x.wdtWord k 4 = 0 ∨ x.wdtPos k < x.wdtLimit k - x.wdtCk8 k 4 →
      exec (.wdtWarning t w) s = .next x) ∧
    (u.warned = false → x.wdtRuns k = true → x.wdtWord k 4 ≠ 0 → x.wdtLimit k - x.wdtCk8 k 4 ≤ x.wdtPos k →
      u.start ≤ x.clkTick → Answers (.wdtWarning t w) s (fun y =>
        y.wdtOf k = { u with warned := true } ∧ (256 ≤ k → (y.coreOf (k - 256)).warn = true) ∧ y.mem = x.mem)) ∧
    (x.wdt.eraseBusy.isSome = true → exec (.eraseBusyRise t) s = .next x) ∧
    (x.wdt.eraseBusy = none → Answers (.eraseBusyRise t) s (fun y =>
      y.wdt.eraseBusy = some x.now ∧ y.mem = x.mem ∧ y.coreOf j = x.coreOf j ∧
      (k < 2 → u.running = true → u.frozenAt = none →
        (y.wdtOf k).frozenAt = (if u.badPrev then none else some (x.clkTick - u.start))) ∧
      (k < 2 → u.badPrev = false → (y.wdtOf k).byErase = true) ∧
      (256 ≤ k → y.wdtOf k = u))) ∧
    (x.wdt.eraseBusy = none → exec (.eraseBusyFall t) s = .next x ∧ exec (.eraseCap t) s = .next x) ∧
    (x.wdt.eraseBusy.isSome = true → x.dbg.trifleHalted = false → Answers (.eraseBusyFall t) s (fun y =>
      y.wdt.eraseBusy = none ∧ y.mem = x.mem ∧ y.coreOf j = x.coreOf j ∧ (k < 2 → (y.wdtOf k).frozenAt = none))) ∧
    (x.wdt.eraseBusy = some t0 → x.now < t0 + 93750000 * ck8 → exec (.eraseCap t) s = .next x) ∧
    (x.wdt.eraseBusy = some t0 → t0 + 93750000 * ck8 ≤ x.now → Answers (.eraseCap t) s (fun y =>
      y.wdt.eraseBusy = none ∧ y.wdt.eraseCap = satInc x.wdt.eraseCap ∧
      (x.boot.upd.state ≠ 1 ∨ x.boot.upd.toErase = [] → y.boot.upd = x.boot.upd ∧
        (x.ldg.toArchive = [] → y.mem = x.mem ∧ y.ldg = x.ldg) ∧
        (x.ldg.toArchive = e :: es → x.archDirty e = [] → y.mem = x.mem ∧ y.ldg = x.ldg) ∧
        (x.ldg.toArchive = e :: es → x.archDirty e = sec :: rest → y.ldg.toArchive = es ∧
          y.ldg.archive = x.ldg.archive.filter (fun o => !o.touches sec) ∧
          (inRange a (65536 * sec) 65536 = false → y.rd a = x.rd a))) ∧
      (x.boot.upd.state = 1 → x.boot.upd.toErase = sec :: rest → y.boot.upd.state = 3 ∧ y.boot.upd.cause = 1 ∧
        y.boot.upd.toErase = [] ∧ (inRange a (65536 * sec) 65536 = false → y.rd a = x.rd a))))

/-- Tamper (R481 to R486): sensors that cannot trip change nothing; a trip with main power is latched with its time, and
forces STOP where one of its sensors ZEROISES; one without main power is latched on VBAT; zeroisation waits for the
end of a flush, and for the signature or its time limit, erases the helper data, the session keys and the Trifle memory, and ends in ZEROED with a
reset of kind tamper. Nothing else in memory changes.

Where the manual is silent this rests on the model's choices, log entries 47, 49, 52, 134. -/
def Obligations.TamperAndZeroisation : Prop :=
  ∀ (s : State) (t a : Nat) (m : BitVec 8) (t0 z : Nat),
    let x := s.to t
    let u := x.tripMask m
    let zer := u &&& x.zerMask
    let trf := (List.range 3).any (fun i => inRange a (trfBase i) trfLen)
    (u = 0 → exec (.tamperTrip t m) s = .next x) ∧
    (u ≠ 0 → x.boot.phase = .off → Answers (.tamperTrip t m) s (fun y =>
      y.cus.offMap = x.cus.offMap ||| u ∧ y.cus.tMap = x.cus.tMap ∧ y.mem = x.mem)) ∧
    (u ≠ 0 → x.boot.phase ≠ .off → x.cus.seq.isSome = true → Answers (.tamperTrip t m) s (fun y =>
      y.cus.tMap = x.cus.tMap ||| u ∧ y.cus.seq = x.cus.seq ∧ y.mem = x.mem)) ∧
    (u ≠ 0 → x.boot.phase ≠ .off → x.cus.seq = none → Answers (.tamperTrip t m) s (fun y =>
      y.cus.tMap = u ∧ y.cus.tValid = true ∧ y.cus.tTime = x.timeNow ∧
      (zer = 0 → y.cus.seq = none ∧ y.vdg.out = x.vdg.out ∧ y.mem = x.mem) ∧
      (zer ≠ 0 → y.cus.seq = some ⟨x.now, none⟩ ∧ y.vdg.out = .stop ∧ y.clk.forced = true ∧ y.dbg.session = none))) ∧
    (x.cus.seq = none → exec (.zeroisationStart t) s = .next x ∧ exec (.zeroisationEnd t) s = .next x) ∧
    (x.cus.seq = some ⟨t0, some z⟩ → exec (.zeroisationStart t) s = .next x) ∧
    (x.cus.seq = some ⟨t0, none⟩ → exec (.zeroisationEnd t) s = .next x) ∧
    (x.cus.seq = some ⟨t0, none⟩ → x.tamperSigned = false ∨ x.now < t0 + oscMin 4 → x.now < t0 + oscMin 400000 →
      exec (.zeroisationStart t) s = .next x) ∧
    (x.bbx.flush.isSome = true → exec (.zeroisationStart t) s = .next x) ∧
    (x.cus.seq = some ⟨t0, none⟩ → x.bbx.flush = none → (x.tamperSigned = true ∧ t0 + oscMin 4 ≤ x.now) ∨ t0 + oscMin 400000 ≤ x.now →
      Answers (.zeroisationStart t) s (fun y =>
        y.cus.seq = some ⟨t0, some x.now⟩ ∧ y.cus.helper = false ∧ y.cus.keyOk = false ∧
        y.rd a = (if trf then 0 else x.rd a))) ∧
    (x.cus.seq = some ⟨t0, some z⟩ → x.now < z + oscMin 20000 → exec (.zeroisationEnd t) s = .next x) ∧
    (x.cus.seq = some ⟨t0, some z⟩ → z + oscMin 20000 ≤ x.now → x.boot.phase = .firmware → x.boot.upd.state = 0 →
      Answers (.zeroisationEnd t) s (fun y =>
        y.cus.seq = none ∧ y.cus.zeroed = true ∧ y.cus.helper = false ∧ y.boot.phase = .flush .tamper x.now ∧
        y.rd a = (if trf then 0 else x.rd a)))

/-! ### The Crumb tray, the line interfaces, Ethernet, CAN, the CVU and DMA -/

/-- The Crumb tray's events (R401 to R403, R411 to R422): nothing is taken in before the next latch cycle; one report of a
source that is not latched, alone in its cycle under the boot map, latches its bit at that cycle, counts in the storm
count, and is logged with a FAULT record at L1, without touching EOUT, the Gate or any word; a second classifier that
decides it otherwise brings CRB_MISM; a broken line is ignored and its source latched once; a grace timer that has not run
out does nothing, and one that has takes its ESC level 12 CK4 later; a half-period of EOUT inverts the pair that toggles
at the pads; the pulse ends at its end; EOUT_PIN is reported 8 CK4 after the 4 that follow a change.

Where the manual is silent this rests on the model's choices, log entries 113, 114, 119. -/
def Obligations.FaultTray : Prop :=
  ∀ (s : State) (t j : Nat) (other : OtherClass) (r : Report) (die : DieAddr) (blk : Byte) (src : BitVec 7) (n : Nat) (g : Grace),
    let x := s.to t
    let c := x.crb
    let rsvd := blk = 3 ∧ src = 1
    let fid := if rsvd then 0x0181 else faultId die.toNat blk.toNat src.toNat
    let tray := die = 0 ∧ blk = 3 ∧ src.toNat < 0x71 ∧ ¬ rsvd
    let alone := c.inflight = [r] ∧ c.injAt = none ∧ r.latchAt ≤ x.now
    let plain := x.lineBroken r = false ∧ x.testMode r.fid = false ∧ c.mapLive = false ∧ x.latched r.fid = false ∧
      r.lost = false ∧ alwaysL0 r.fid = false ∧ floorOf r.fid 1 = 1 ∧ c.log.length < 64 ∧ x.ldg.frozen = false ∧
      x.ldg.closing = false ∧ x.ldg.pending.length < 256
    let pair := c.eout.settle x.now
    (x.nextLatch = none → exec (.faultReport t other) s = .next x) ∧
    (x.nextLatch = some n → x.now < n → exec (.faultReport t other) s = .next x) ∧
    (alone → plain → Answers (.faultReport t none) s (fun y =>
        y.latched r.fid = true ∧ y.crb.latchedAt.get (dflt none) r.fid.toNat = some r.latchAt ∧
        y.crb.storm = satAdd c.storm 1 ∧ y.crb.conseq = c.conseq ∧ y.crb.inflight = [] ∧
        y.crb.log.length = c.log.length + 1 ∧ (y.crb.log.getLast?.map (fun e => e.fid)) = some r.fid ∧
        (y.crb.log.getLast?.map (fun e => e.level)) = some 1 ∧ y.ldg.pending.length = x.ldg.pending.length + 1 ∧
        (x.flag 0 0x03 0x11 15 = false → y.crb.firstFid = r.fid ∧ y.crb.firstLevel = 1 ∧ y.flag 0 0x03 0x11 15 = true) ∧
        y.crb.eout = c.eout ∧ y.vdg = x.vdg ∧ y.cfg = x.cfg ∧ y.mem = x.mem ∧ y.coreOf j = x.coreOf j)) ∧
    (alone → plain → Answers (.faultReport t (some (r.fid, none))) s (fun y =>
        y.latched r.fid = true ∧ y.crb.log.length = c.log.length + 1 ∧
        (y.crb.inflight.getLast?.map (fun q => q.fid)) = some 0x0182 ∧ y.mem = x.mem)) ∧
    (alone → x.lineBroken r = true → Answers (.faultReport t none) s (fun y =>
      y.crb.inflight = [] ∧ y.crb.storm = c.storm ∧ y.crb.log = c.log ∧ y.latched r.fid = x.latched r.fid ∧
      y.mem = x.mem)) ∧
    (c.broken.contains (lineKey die.toNat fid) = true ∨ tray ∨ raised fid = false →
      exec (.lineBreak t die blk src) s = .next x) ∧
    (c.broken.contains (lineKey die.toNat fid) = false → ¬ tray → raised fid = true → c.mapLive = false → c.inflight = [] →
      x.testMode fid = false → Answers (.lineBreak t die blk src) s (fun y =>
        y.crb.broken = c.broken ++ [lineKey die.toNat fid] ∧ y.latched fid = true ∧
        y.latched (BitVec.ofNat 16 (0x0190 + die.toNat)) = true ∧ y.mem = x.mem)) ∧
    (x.firstGrace = none → exec (.graceExpiry t) s = .next x) ∧
    (x.firstGrace = some (n, g) → x.now < g.due → exec (.graceExpiry t) s = .next x) ∧
    (x.firstGrace = some (n, g) → g.due ≤ x.now → g.esc = 0 ∨ g.esc = 1 → c.log.length < 64 →
      Answers (.graceExpiry t) s (fun y =>
        y.crb.grace.get (dflt none) n = none ∧
        (y.crb.log.getLast?.map (fun e => (e.fid, e.esc, e.inj))) = some (g.fid, true, g.inj) ∧
        y.cfg = x.cfg ∧ y.mem = x.mem)) ∧
    (x.firstGrace = some (n, g) → g.due ≤ x.now → g.esc = 4 → x.cfg.state = .run ∨ x.cfg.state = .degraded →
      Answers (.graceExpiry t) s (fun y =>
        y.cfg.state = .safe ∧ y.vdg.out = .stop ∧ y.vdg.forced = true ∧
        y.crb.eout = c.eout.command (edgeUp x ck4 (max x.now (g.due + 12 * ck4)) + 26 * ck4) false ∧ y.crb.eout.goal = false)) ∧
    (pair.toggling = false ∨ x.now < pair.changedAt + 3750 * ck4 →
      exec (.eoutToggle t) s = .next { x with crb := { c with eout := pair } }) ∧
    (pair.toggling = true → pair.changedAt + 3750 * ck4 ≤ x.now → exec (.eoutToggle t) s = .next { x with crb := { c with
      eout := { pair with t := pair.c, c := pair.t, changedAt := pair.changedAt + 3750 * ck4 } } }) ∧
    (c.pulseEnd = none → exec (.epulseEnd t) s = .next x) ∧
    (c.pulseEnd = some n → exec (.epulseEnd t) s =
      .next (if n ≤ x.now then { x with crb := { c with pulseEnd := none, pulsed := true } } else x)) ∧
    (x.now < pair.changedAt + 12 * ck4 → exec (.eoutPin t) s = .next x) ∧
    (pair.changedAt + 12 * ck4 ≤ x.now → exec (.eoutPin t) s = .next { x with crb := { c with
      inflight := c.inflight ++ [⟨0x0183, edgeUp x ck4 x.now, false, 0, 0x03, false⟩] } })

/-- The line interfaces (R531 to R538): on a port die that stands, a pulse of MS_SPEED counts and one less than 250 µs after
the last is a rate error; a byte or a character that comes joins its FIFO; a card's removal deactivates it and counts; an
SPI transfer that ends moves one word out and one in, or gives the step its yaw increment; PPS_OUT rises at a whole second
of known time and falls 37,500,000 CK8 later. On a die that does not stand nothing changes.

Where the manual is silent this rests on the model's choices, log entries 37, 38. -/
def Obligations.LineInterfaces : Prop :=
  ∀ (s : State) (t a : Nat) (p1 perr : Bool) (b : Byte) (u : BitVec 1) (rx : List Word),
    let x := s.to t
    let p := portNo p1
    let m := x.port.msi
    let c := x.cardOf p
    let unit := spiNo p (if p1 then u.toNat else 0)
    let sp := x.spiOf unit
    let ut := (x.pdie p).uart
    let fast := m.edgeAt.any (fun e => decide (x.now < e + 250 * usCk1))
    (x.pdOn 0 = false → exec (.msSpeedPulse t) s = .next x ∧ exec (.msiByteReceive t b) s = .next x) ∧
    (x.pdOn 0 = true →
      Answers (.msSpeedPulse t) s (fun y =>
        y.port.msi = { m with
          pulses := m.pulses + 1, edgeAt := some x.now, rateErr := if fast then satInc m.rateErr else m.rateErr } ∧
        y.mem = x.mem) ∧
      exec (.msiByteReceive t b) s = .next { x with port := { x.port with msi := { m with drx := m.drx ++ [b] } } }) ∧
    (x.pdOn p = false → ∀ i ∈ ([(.cardCharReceive t p1 b perr), (.cardRemoval t p1), (.cardInsertion t p1),
      (.spiTransferDone t p1 u rx), (.uartRxByte t p1 b perr)] : List Instr), exec i s = .next x) ∧
    (x.pdOn p = true →
      Answers (.cardCharReceive t p1 b perr) s (fun y =>
        y.cardOf p = { c with rx := if c.active then c.rx ++ [(b, perr)] else c.rx } ∧ y.mem = x.mem) ∧
      Answers (.cardInsertion t p1) s (fun y => y.cardOf p = { c with present := true } ∧ y.mem = x.mem) ∧
      (c.present = false → exec (.cardRemoval t p1) s = .next x) ∧
      (c.present = true → Answers (.cardRemoval t p1) s (fun y =>
        y.cardOf p = { c with present := false, active := false, rx := [], removals := satInc c.removals } ∧
        y.mem = x.mem)) ∧
      Answers (.uartRxByte t p1 b perr) s (fun y =>
        (y.pdie p).uart = { ut with rx := if ut.rx.length < uartDepth then ut.rx ++ [(b, perr)] else ut.rx } ∧
        y.mem = x.mem) ∧
      (sp.autoAt = none → sp.tx = [] → exec (.spiTransferDone t p1 u rx) s = .next x) ∧
      (sp.autoAt = none → sp.tx ≠ [] → sp.rx.length < spiDepth → Answers (.spiTransferDone t p1 u rx) s (fun y =>
        (y.spiOf unit).tx = sp.tx.tail ∧ (y.spiOf unit).rx.length = sp.rx.length + 1 ∧
        (y.spiOf unit).busy = decide (2 ≤ sp.tx.length) ∧ y.mem = x.mem)) ∧
      (sp.autoAt.isSome = true → Answers (.spiTransferDone t p1 u rx) s (fun y =>
        (y.spiOf unit).autoAt = none ∧ y.integ.dpsi = some (x.imuYaw rx) ∧ (y.spiOf unit).tx = sp.tx ∧ y.mem = x.mem))) ∧
    (x.pdOn 1 = false ∨ x.committed = false ∨ x.flagL 6 0x45 0x180 0 = false ∨ (x.spiOf 1).autoAt.isSome = true →
      exec (.spiAutoTransfer t) s = .next x) ∧
    (x.pdOn 1 = true → x.committed = true → x.flagL 6 0x45 0x180 0 = true → (x.spiOf 1).autoAt = none →
      Answers (.spiAutoTransfer t) s (fun y =>
        y.spiOf 1 = { x.spiOf 1 with autoAt := some x.now, busy := true } ∧ y.mem = x.mem)) ∧
    ((x.spiOf 1).autoAt = none → exec (.spiAutoLate t) s = .next x) ∧
    ((x.spiOf 1).autoAt = some a → x.now < a + 20000 * ck8 → exec (.spiAutoLate t) s = .next x) ∧
    ((x.spiOf 1).autoAt = some a → a + 20000 * ck8 ≤ x.now → Answers (.spiAutoLate t) s (fun y =>
      (y.spiOf 1).autoAt = none ∧ (y.spiOf 1).autoLate = satInc (x.spiOf 1).autoLate ∧ y.integ = x.integ)) ∧
    (x.time.tq = .unset ∨ x.onSecond = false → exec (.ppsOutRise t) s = .next x) ∧
    (x.time.tq ≠ .unset → x.onSecond = true →
      exec (.ppsOutRise t) s = .next { x with port := { x.port with ppsOut := true, ppsAt := x.now } }) ∧
    exec (.ppsOutFall t) s = .next (if x.port.ppsOut ∧ x.port.ppsAt + 37500000 * ck8 ≤ x.now then
      { x with port := { x.port with ppsOut := false } } else x)

/-- Ethernet (R387, R393, R519 to R528, R538): a frame that is too long, whose FCS is bad, or that is not for this port counts
in its counter alone; an accepted one counts in ETH_RXFRM; a route's message waits for its time and its destinations'
credit; a formed message is handed to the MAC at its hand-over, which takes the counter; a handed-over frame starts in its
turn and counts; a link's fall loses the frames handed over; on 10BASE-T1S a
follower without a BEACON for 1 ms stops until the next. Where the port does not run nothing changes, and no word of memory
is touched by any of them.

Where the manual is silent this rests on the model's choices, log entries 33, 34, 35, 48, 113, 128. -/
def Obligations.EthernetPorts : Prop :=
  ∀ (s : State) (t : Nat) (p1 inFrame : Bool) (pos : BitVec 3) (a : BitVec 4) (f : EthRx) (w : TxFrame) (ws : List TxFrame)
    (m : RouteMsg) (b : MbxSend) (t0 : Nat) (fl : Flit) (h : TxHand),
    let x := s.to t
    let p := portNo p1
    let n := pos.toNat
    let e := x.ethOf p n
    let z := x.handed p
    let ez := z.ethOf p n
    let q := ethParts f.bytes
    let runs := x.ethRuns p n = true ∧ e.link = true
    let room := (x.pdie p).room + rxRoom f ≤ rxBuffer
    let len := f.bytes.length + 4
    let t1 := (x.pdie p).t1s
    let as := x.txAssign p a.toNat
    let pop := edgeUp x ck4 x.now
    (¬ runs → exec (.ethFrameReceive t p1 pos f) s = .next x) ∧
    (runs → room → f.sec = none → ethMax n < len → Answers (.ethFrameReceive t p1 pos f) s (fun y =>
      y.ethOf p n = { e with rxLong := satInc e.rxLong } ∧ y.mem = x.mem)) ∧
    (runs → room → f.sec = none → len ≤ ethMax n → f.fcsOk = false ∨ len < 64 → Answers (.ethFrameReceive t p1 pos f) s (fun y =>
      y.ethOf p n = { e with rxBad := satInc e.rxBad } ∧ y.mem = x.mem)) ∧
    (runs → room → f.sec = none → len ≤ ethMax n → f.fcsOk = true → 64 ≤ len →
      (x.ethTakes p n q.dst && x.ethTag p n q.tagged q.vid) = false → Answers (.ethFrameReceive t p1 pos f) s (fun y =>
        y.ethOf p n = { e with rxOther := satInc e.rxOther } ∧ y.mem = x.mem)) ∧
    (runs → room → f.sec = none → len ≤ ethMax n → f.fcsOk = true → 64 ≤ len →
      (x.ethTakes p n q.dst && x.ethTag p n q.tagged q.vid) = true → Answers (.ethFrameReceive t p1 pos f) s (fun y =>
        (y.ethOf p n).rxFrm = e.rxFrm + 1 ∧ (y.ethOf p n).rxBad = e.rxBad ∧ (y.ethOf p n).rxLong = e.rxLong ∧
        y.mem = x.mem)) ∧
    ((x.pdie p).waiting = [] → exec (.routeFlitPush t p1 a) s = .next x) ∧
    ((x.pdie p).waiting = [m] → m.a = a.toNat → pop < m.readyAt → exec (.routeFlitPush t p1 a) s = .next x) ∧
    ((x.pdie p).waiting = [m] → m.a = a.toNat → m.first = false → m.readyAt ≤ pop → x.pdOn p = true →
      (∀ d ∈ x.routePlan p m, x.consFenced d.die d.q = false ∧ 1 ≤ x.credit d.die d.q (.port (pd p) a.toNat)) →
      Answers (.routeFlitPush t p1 a) s (fun y =>
        (y.pdie p).waiting = (if m.flits.length ≤ 1 then [] else [{ m with
          flits := m.flits.drop 1, readyAt := max m.readyAt (pop + ck4) }]) ∧
        (y.pdie p).room = (if m.flits.length ≤ 1 then (x.pdie p).room - m.room else (x.pdie p).room) ∧ y.mem = x.mem)) ∧
    ((x.pdie p).hands = [h] → x.now < h.at_ → z.pdie p = x.pdie p ∧ z.txOf p h.a = x.txOf p h.a ∧ ez = e ∧ z.mem = x.mem) ∧
    ((x.pdie p).hands = [h] → h.at_ ≤ x.now → x.pdOn p = true →
      (z.pdie p).hands = [] ∧
      z.txOf p h.a = { x.txOf p h.a with ctr := (x.txOf p h.a).ctr + 1, sent := (x.txOf p h.a).sent + 1 } ∧
      (h.pos = n → runs → 2 * h.words.length + 22 ≤ ethMax n → x.macsec p n = false →
        ez.txq.length = e.txq.length + 1 ∧ ez.txLost = e.txLost) ∧
      (h.pos = n → ¬ runs → ez.txq = e.txq ∧ ez.txLost = satInc e.txLost) ∧ z.mem = x.mem) ∧
    (x.committed = false ∨ as.en = false ∨ x.pdOn p = false ∨ z.head (pd p) as.q = none ∨ pop < (z.txOf p a.toNat).popFrom →
      exec (.cvuTxFlitPop t p1 a) s = .next z) ∧
    (x.committed = true → as.en = true → x.pdOn p = true → z.mbxHolds p a.toNat = false → z.head (pd p) as.q = some fl →
      fl.last = false → fl.poison = false → (z.txOf p a.toNat).bad = false → (z.txOf p a.toNat).flits.length < 575 →
      (z.txOf p a.toNat).popFrom ≤ pop →
      (z.queueOf (pd p) as.q).consumer.isSome = true → Answers (.cvuTxFlitPop t p1 a) s (fun y =>
        y.txOf p a.toNat = { z.txOf p a.toNat with
          flits := (z.txOf p a.toNat).flits ++ [fl.words], popFrom := pop + ck4 } ∧
        (y.queueOf (pd p) as.q).flits = (z.queueOf (pd p) as.q).flits.drop 1 ∧ y.mem = x.mem)) ∧
    (x.committed = true → as.en = true → x.pdOn p = true → z.mbxHolds p a.toNat = false → z.head (pd p) as.q = some fl →
      fl.last = true → fl.poison = false → (z.txOf p a.toNat).bad = false → (z.txOf p a.toNat).popFrom ≤ pop →
      (z.pdie p).hands = [] → Answers (.cvuTxFlitPop t p1 a) s (fun y =>
        (y.pdie p).hands.map (fun h => (h.a, h.pos, h.at_)) = [(a.toNat, as.port, pop + 14 * ck4)] ∧
        (y.txOf p a.toNat).flits = [] ∧ (y.txOf p a.toNat).ctr = (z.txOf p a.toNat).ctr ∧ y.mem = x.mem)) ∧
    ((z.pdie p).send = none → exec (.cvuMbxStart t p1) s = .next z) ∧
    ((z.pdie p).send = some b → b.startAt = some t0 → b.doneAt = none → x.now < t0 → exec (.cvuMbxStart t p1) s = .next z) ∧
    ((z.pdie p).send = some b → b.startAt = some t0 → b.doneAt = none → t0 ≤ x.now → x.pdOn p = true → (z.pdie p).hands = [] →
      Answers (.cvuMbxStart t p1) s (fun y =>
        let done := pop + (b.flits.length - 1 + 14) * ck4
        (y.pdie p).send = some { b with doneAt := some done } ∧
        (y.pdie p).hands.map (fun h => (h.a, h.pos, h.at_)) = [(b.assign, (x.txAssign p b.assign).port, done)] ∧
        y.mem = x.mem)) ∧
    (ez.txq = [] ∨ n = 5 ∨ x.now < ez.freeAt ∨ x.ethRuns p n = false → exec (.macTxStart t p1 pos) s = .next z) ∧
    (ez.txq = w :: ws → x.now < w.handedAt + 6 * ck4 → exec (.macTxStart t p1 pos) s = .next z) ∧
    (ez.txq = w :: ws → n ≠ 5 → w.handedAt + 6 * ck4 ≤ x.now → ez.freeAt ≤ x.now → x.ethRuns p n = true → w.secured = false →
      Answers (.macTxStart t p1 pos) s (fun y =>
        (y.ethOf p n).txq = ws ∧ (y.ethOf p n).txFrm = ez.txFrm + 1 ∧
        (y.ethOf p n).freeAt = edgeUp x ck4 (pop + bitCk1 n (8 * (8 + w.bytes) + 96)) ∧ y.mem = x.mem)) ∧
    Answers (.ethLinkUp t p1 pos) s (fun y =>
      y.ethOf p n = { ez with link := ez.link || x.ethRuns p n } ∧ y.mem = x.mem) ∧
    (ez.link = false → exec (.ethLinkDown t p1 pos inFrame) s = .next z) ∧
    (ez.link = true → Answers (.ethLinkDown t p1 pos inFrame) s (fun y =>
      y.ethOf p n = { ez with
        link := false, txq := [], txLost := satAdd ez.txLost ez.txq.length
        rxBad := if inFrame then satInc ez.rxBad else ez.rxBad } ∧ y.mem = x.mem)) ∧
    (x.t1sRuns p = false → exec (.plcaTxOpportunity t p1) s = .next z ∧ exec (.t1sNobcn t p1) s = .next x ∧
      exec (.t1sCollision t p1) s = .next z ∧ exec (.beaconReceive t p1) s = .next x) ∧
    (x.t1sRuns p = true →
      ((z.ethOf p 5).txq = [] → Answers (.plcaTxOpportunity t p1) s (fun y => (y.ethOf p 5).txFrm = (z.ethOf p 5).txFrm)) ∧
      (t1.noBeacon = true ∨ (x.t1sCoord p = false ∧ t1.beaconAt + msCk1 ≤ x.now) →
        exec (.plcaTxOpportunity t p1) s = .next z) ∧
      ((z.ethOf p 5).txq = [w] → w.secured = false → w.handedAt + 6 * ck4 ≤ x.now → (z.ethOf p 5).link = true →
        t1.noBeacon = false → x.t1sCoord p = true ∨ x.now < t1.beaconAt + msCk1 →
        Answers (.plcaTxOpportunity t p1) s (fun y =>
          (y.ethOf p 5).txq = [] ∧ (y.ethOf p 5).txFrm = (z.ethOf p 5).txFrm + 1 ∧ (y.pdie p).t1s.run = 0 ∧
          y.mem = x.mem)) ∧
      (x.t1sCoord p = true ∨ t1.noBeacon = true ∨ x.now < t1.beaconAt + msCk1 → exec (.t1sNobcn t p1) s = .next x) ∧
      (x.t1sCoord p = false → t1.noBeacon = false → t1.beaconAt + msCk1 ≤ x.now → Answers (.t1sNobcn t p1) s (fun y =>
        (y.pdie p).t1s = { t1 with noBeacon := true, noBcnCnt := satInc t1.noBcnCnt } ∧ y.mem = x.mem)) ∧
      ((z.ethOf p 5).txq ≠ [] → t1.run < 15 → Answers (.t1sCollision t p1) s (fun y =>
        (y.pdie p).t1s = { t1 with run := t1.run + 1, dupCnt := satInc t1.dupCnt } ∧
        (y.ethOf p 5).txq = (z.ethOf p 5).txq)) ∧
      ((z.ethOf p 5).txq ≠ [] → 15 ≤ t1.run → Answers (.t1sCollision t p1) s (fun y =>
        (y.pdie p).t1s = { t1 with run := 0, dupCnt := satInc t1.dupCnt, txDrop := satInc t1.txDrop } ∧
        (y.ethOf p 5).txq = (z.ethOf p 5).txq.tail)) ∧
      Answers (.beaconReceive t p1) s (fun y =>
        (y.pdie p).t1s = (if x.t1sCoord p then { t1 with dupCnt := satInc t1.dupCnt }
          else { t1 with noBeacon := false, beaconAt := x.now }) ∧ y.mem = x.mem))

/-- CAN, the CVU's timers and the DMA channels (R344, R393, R397, R529, R530): a frame that no filter takes counts in RXMISS,
and one that finds the FIFO full in RXOVF; a message is sent once it is whole, and stays after lost arbitration; bus-off
ends at its recovery; a timer that expires is counted and waits for the next message; a burst of a pool to the same pool
that its unit allows copies its words and no other; a channel that the die does not have does nothing.

That a controller in restricted operation sends no frame is the model's choice, log entry 135.

Where the manual is silent this rests on the model's choices, log entries 18, 37, 108. -/
def Obligations.CanCvuDma : Prop :=
  ∀ (s : State) (t a : Nat) (p1 : Bool) (k : BitVec 1) (f : CanFrame) (out : CanOutcome) (as : BitVec 4) (b : Burst)
    (m : CanRx) (t0 : Nat) (ws : List Word),
    let x := s.to t
    let p := portNo p1
    let n := k.toNat
    let c := x.canOf p n
    let found := (List.range 16).find? (x.canMatch p n f)
    let left := { c with state := f.err.state, tec := f.err.tec, recv := f.err.recv }
    let r := x.rxOf p as.toNat
    let src := pieces (wordsFrom b.src.toNat b.n)
    let dst := pieces (wordsFrom b.dst.toNat b.n)
    let unit := x.dieUnit b.die.toNat b.ch.toNat
    (x.canRuns p n = false ∨ c.state = 2 → exec (.canFrameReceive t p1 k f) s = .next x) ∧
    (x.canRuns p n = true → c.state ≠ 2 → found = none → Answers (.canFrameReceive t p1 k f) s (fun y =>
      y.canOf p n = { left with rxMiss := satInc c.rxMiss } ∧ y.mem = x.mem)) ∧
    (x.canRuns p n = true → c.state ≠ 2 → found.isSome = true → 64 ≤ c.fifo.length →
      Answers (.canFrameReceive t p1 k f) s (fun y => y.canOf p n = { left with rxOvf := satInc c.rxOvf } ∧ y.mem = x.mem)) ∧
    (x.canRuns p n = true → c.state ≠ 2 → found.isSome = true → c.fifo.length < 64 →
      Answers (.canFrameReceive t p1 k f) s (fun y =>
        (y.canOf p n).fifo.length = c.fifo.length + 1 ∧ (y.canOf p n).rxMiss = c.rxMiss ∧
        ((y.canOf p n).fifo.getLast?.map (fun m => m.flits.flatten)) = some (canWords f) ∧ y.mem = x.mem)) ∧
    (c.fifo = [] → exec (.canFifoPush t p1 k) s = .next x) ∧
    (c.fifo = [m] → x.now < m.readyAt ∨ x.pdOn p = false → exec (.canFifoPush t p1 k) s = .next x) ∧
    (c.fifo = [m] → m.readyAt ≤ x.now → x.pdOn p = true → x.consFenced m.die m.q = false →
      1 ≤ x.credit m.die m.q (.port (pd p) (16 + n)) → Answers (.canFifoPush t p1 k) s (fun y =>
        (y.canOf p n).fifo = (if m.flits.length ≤ 1 then [] else [{ m with flits := m.flits.drop 1 }]) ∧ y.mem = x.mem)) ∧
    (x.canRuns p n = false ∨ x.canQuiet p n = true → exec (.canFrameTransmit t p1 k out) s = .next x) ∧
    (x.canRuns p n = true → x.canQuiet p n = false → c.state ≠ 2 → c.sending = some ws → Answers (.canFrameTransmit t p1 k out) s (fun y =>
      y.canOf p n = { c with
        state := out.err.state, tec := out.err.tec, recv := out.err.recv
        sending := if out.sent ∨ out.err.state = 2 then none else some ws
        txDrop := if out.sent = false ∧ out.err.state = 2 then satInc c.txDrop else c.txDrop } ∧ y.mem = x.mem)) ∧
    (x.canRuns p n = false ∨ c.state ≠ 2 → exec (.busoffRecovery t p1 k) s = .next x) ∧
    (x.canRuns p n = true → c.state = 2 → Answers (.busoffRecovery t p1 k) s (fun y =>
      y.canOf p n = { c with state := 0, tec := 0, recv := 0 } ∧ y.mem = x.mem)) ∧
    (r.dueAt = none → exec (.cvuTimeout t p1 as) s = .next x) ∧
    (r.dueAt = some t0 → x.now < t0 ∨ (x.die (pd p)).fenced = true → exec (.cvuTimeout t p1 as) s = .next x) ∧
    (r.dueAt = some t0 → t0 ≤ x.now → (x.die (pd p)).fenced = false → Answers (.cvuTimeout t p1 as) s (fun y =>
      y.rxOf p as.toNat = { r with run := false, dueAt := none, tmo := satInc r.tmo } ∧ y.mem = x.mem)) ∧
    (dmaExists b.die.toNat b.ch.toNat = false ∨ (x.die b.die.toNat).fenced = true → exec (.dmaBurst t b) s = .next x) ∧
    (isCompute b.die.toNat = true → (x.die b.die.toNat).fenced = false → (x.die 0).fenced = false →
      x.mpuCheck unit .read false src = none → x.mpuCheck unit .write (!src.isEmpty) dst = none →
      x.flag b.die.toNat 0x31 (0x104 + 0x100 * b.ch.toNat) 15 = false →
      refusedPiece (x.dmaRefuses b .read) false src = none → refusedPiece (x.dmaRefuses b .write) false dst = none →
      inRange b.src.toNat (poolBase b.die.toNat) poolLen = true →
      b.n ≤ 8 → b.src.toNat % 8 + b.n ≤ 8 → b.dst.toNat = b.src.toNat + 8 →
      b.src.toNat + 16 ≤ poolBase b.die.toNat + poolLen → x.classAt (b.src.toNat / 8) = .none →
      x.classAt (b.src.toNat / 8 + 1) = .none → Answers (.dmaBurst t b) s (fun y =>
        y.rd a = (if b.dst.toNat ≤ a ∧ a < b.dst.toNat + b.n then x.rd (a - 8) else x.rd a)))

/-! ### Writes of registers by the Trifle -/

/-- Register writes of the hub and the engines (R6, R8, R9, R39, R77, R80, R87, R135, R166 to R169, R232, R295, R319, R344,
R374): an address that is no register, a refused write and a read-only word change nothing; an RW-L register takes its bits
where its state is open and is refused with 0x0F01 where not; a reserved encoding is dropped and sets the block's RSVD; and
each command's register brings about its effect: a fence, a load, a check, the pack's expansion, the time base, the software
interrupts, a poisoned head's removal, an armed injection, a cleared VALID.

Where the manual is silent this rests on the model's choices, log entries 17, 19, 28, 50. -/
def Obligations.RegisterWrites : Prop :=
  ∀ (s : State) (t : Nat) (m : Master) (a : Addr) (v : Word) (w32 : BitVec 32) (w80 : BitVec 80) (die : DieAddr) (c : CoreId)
    (r : Row) (f : Flit),
    let x := s.to t
    let d := csrDie a.toNat
    let b := csrBlk a.toNat
    let o := csrOff a.toNat
    let may : Nat → Nat → Nat → Word → Prop := fun die blk off v => x.csrRefuses .trifle true (csrAddr die blk off) v = none
    let fn := v.toNat % 8
    let q := v.toNat % 512
    let inj := v ||| 0x8000
    (isCsr a.toNat = false → exec (.registerWrite t m a v) s = .next x) ∧
    (isCsr a.toNat = true → x.csrRefuses .trifle true a.toNat v ≠ none → exec (.registerWrite t .trifle a v) s = .next x) ∧
    (isCsr a.toNat = true → x.csrRefuses .trifle true a.toNat v = none → regAt d b o = some r →
      (r.writable = 0 → exec (.registerWrite t .trifle a v) s = .next x) ∧
      (r.words = 1 → r.onlyRwl = true → x.cfg.state.open = false → Answers (.registerWrite t .trifle a v) s (fun y =>
        y.cfg = { x.cfg with reason := 0x0F01, refused := satInc x.cfg.refused } ∧ y.csr = x.csr ∧ y.mem = x.mem)) ∧
      (r.words = 1 → r.onlyRwl = true → x.cfg.state.open = true → reservedEnc d b o v.toNat = false → b ≠ 0x07 →
        Answers (.registerWrite t .trifle a v) s (fun y =>
          y.reg d b o = (x.reg d b o &&& ~~~(BitVec.ofNat 16 r.rwl)) ||| (v &&& BitVec.ofNat 16 r.rwl) ∧
          y.cfg.edited = true ∧ y.cfg.state = x.cfg.state ∧ y.mem = x.mem)) ∧
      (r.words = 1 → r.onlyRwl = true → x.cfg.state.open = true → reservedEnc d b o v.toNat = true → b < 0x10 →
        Answers (.registerWrite t .trifle a v) s (fun y =>
          y.reg d b o = x.reg d b o ∧ y.flag d b (rsvdOffset d b) 15 = true ∧ y.cfg = x.cfg ∧ y.mem = x.mem))) ∧
    (may 0 0x00 0x22 v →
      (fn = 0 ∨ fn = 7 → Answers (.dieFence t .trifle v) s (fun y =>
        y.dies = x.dies ∧ y.flag 0 0x00 5 15 = true ∧ y.mem = x.mem)) ∧
      (1 ≤ fn → fn ≤ 6 → (x.die fn).fenced = false → Answers (.dieFence t .trifle v) s (fun y =>
        (y.die fn).fenced = true ∧ (y.die fn).fencedAt = x.now ∧ (x.cfg.state = .run → y.cfg.state = .degraded ∨ y.cfg.state = .safe) ∧
        y.mem = x.mem))) ∧
    (may 0 0x02 0 inj →
      (x.cfg.job.isSome = true → Answers (.cfgCtrlLoad t .trifle v) s (fun y =>
          y.cfg = { x.cfg with reason := 0x0F05, refused := satInc x.cfg.refused }) ∧
        Answers (.cfgCtrlEn t .trifle v) s (fun y =>
          y.cfg = { x.cfg with reason := 0x0F05, refused := satInc x.cfg.refused })) ∧
      (x.cfg.job = none → x.cfg.state.open = false → Answers (.cfgCtrlLoad t .trifle v) s (fun y =>
          y.cfg.reason = 0x0F04 ∧ y.cfg.job = none ∧ y.cfg.state = x.cfg.state) ∧
        (v.getLsbD 1 = false → Answers (.cfgCtrlEn t .trifle v) s (fun y =>
          y.cfg.reason = 0x0F02 ∧ y.cfg.job = none ∧ y.cfg.state = x.cfg.state))) ∧
      (x.cfg.job = none → x.cfg.state.open = true → x.life ≠ 3 → Answers (.cfgCtrlLoad t .trifle v) s (fun y =>
          y.cfg.job = some ⟨true, v.getLsbD 0, v.getLsbD 2, x.now, false⟩ ∧ y.cfg.state = x.cfg.state ∧ y.mem = x.mem) ∧
        (v.getLsbD 1 = false → x.cfg.staged = false → Answers (.cfgCtrlEn t .trifle v) s (fun y =>
          y.cfg.reason = 0x0F03 ∧ y.cfg.job = none)) ∧
        (v.getLsbD 1 = false → x.cfg.staged = true → Answers (.cfgCtrlEn t .trifle v) s (fun y =>
          y.cfg.job = some ⟨false, false, x.cfg.stagedSlot, x.now, false⟩ ∧ y.cfg.reason = x.cfg.reason ∧ y.mem = x.mem)))) ∧
    (may 0 0x07 0x18 (v ||| 1) → x.cfg.state.open = true → x.pLen = 0 → Answers (.latPctrlGo t .trifle v) s (fun y =>
      y.lat.pack = (if x.lat.pack.state = .running then x.lat.pack else
        { x.lat.pack with state := .running, fail := 0, slot := v.getLsbD 1, startedAt := x.now }) ∧ y.mem = x.mem)) ∧
    ((∀ i < 0x14, 8 ≤ i → (regAt 0 0x47 i).isSome = true → may 0 0x47 i 0) →
      (500000 < w32.toNat → w32.toNat < 2 ^ 32 - 500000 → Answers (.timeAdj t .trifle w32) s (fun y =>
        y.time = x.time ∧ y.flag 0 0x47 1 15 = true)) ∧
      (w32.toNat ≤ 500000 ∨ 2 ^ 32 - 500000 ≤ w32.toNat → Answers (.timeAdj t .trifle w32) s (fun y =>
        y.time = { x.rebase.time with step := stepFor w32.toInt } ∧ y.regN 0 0x47 8 2 = w32.toNat ∧ y.mem = x.mem)) ∧
      (999999999 < w80.toNat % 2 ^ 32 → Answers (.timeStep t .trifle w80) s (fun y =>
        y.time = x.time ∧ y.flag 0 0x47 1 15 = true)) ∧
      (w80.toNat % 2 ^ 32 ≤ 999999999 → Answers (.timeStep t .trifle w80) s (fun y =>
        y.time = { x.rebase.time with base := time32Of w80 } ∧ y.mem = x.mem)) ∧
      Answers (.timeSync t .trifle w32) s (fun y =>
        y.time = { x.rebase.time with tq := .locked, unc := w32, syncAt := x.now, hoAcc := 0 } ∧ y.mem = x.mem)) ∧
    (may (coreDie c.toNat) (coreBlk c.toNat) (coreOff c.toNat + 6) 0 → may (coreDie c.toNat) (coreBlk c.toNat) (coreOff c.toNat + 7) 0 →
      Answers (.engSwint t .trifle c w32) s (fun y =>
        (∀ i < 32, (y.coreOf c.toNat).soft.getLsbD i =
          ((x.coreOf c.toNat).soft.getLsbD i || (w32.getLsbD i && x.intSel c.toNat i % 4 == 3))) ∧
        y.coreOf c.toNat = { x.coreOf c.toNat with soft := (y.coreOf c.toNat).soft } ∧ y.mem = x.mem)) ∧
    (may die.toNat 0x30 5 v → q < queueCount die.toNat →
      (x.head die.toNat q = some f → f.poison = true → (x.queueOf die.toNat q).consumer.isSome = true →
        Answers (.queDrop t .trifle die v) s (fun y =>
          (y.queueOf die.toNat q).flits = (x.queueOf die.toNat q).flits.drop 1 ∧ y.mem = x.mem)) ∧
      (x.head die.toNat q = none ∨ (x.head die.toNat q = some f ∧ f.poison = false) → Answers (.queDrop t .trifle die v) s (fun y =>
        y.queue = x.queue ∧ y.mem = x.mem))) ∧
    (may 0 0x05 0x20 inj → Answers (.hbmInjtArm t .trifle v) s (fun y =>
      (rsvInjt inj.toNat = false → y.reg 0 0x05 0x20 = inj) ∧
      (rsvInjt inj.toNat = true → y.reg 0 0x05 0x20 = x.reg 0 0x05 0x20 ∧ y.flag 0 0x05 1 15 = true) ∧ y.mem = x.mem)) ∧
    (isCsr a.toNat = true → x.csrRefuses .trifle true a.toNat inj = none → regAt d b o = some r → r.words = 1 → r.rwl = 0 → r.rw = 0 →
      r.wo = 0 → r.w1c = 0x8000 → b = 0x31 ∨ (0x10 ≤ b ∧ b < 0x30) → Answers (.mpuSyninfoClear t .trifle a v) s (fun y =>
        y.reg d b o = x.reg d b o &&& 0x7FFF ∧ y.core = x.core ∧ y.mem = x.mem)) ∧
    (may die.toNat 0x32 3 inj → Answers (.lksInjArm t .trifle die v) s (fun y =>
      y.reg die.toNat 0x32 3 =
        (if x.isSplit (engAt die.toNat (v.toNat % 32)) then v &&& 0x007F
          else (x.reg die.toNat 0x32 3 &&& ~~~0x807F) ||| (inj &&& 0x807F)) ∧ y.mem = x.mem))

/-- Register writes of the Crumb tray, the watchdogs and the biscuit tin (R412, R417, R425, R427, R429 to R434, R512): an
acknowledgement cancels the open graces of its fault ID alone; a latch's written bits clear; the log's head goes; an
injection is armed for its cycle or cancelled; a good service or check-in in its window counts and moves the challenge or
marks its task; a stopped watchdog takes nothing; the last word of a firmware entry requests it unless FWEN is 0. -/
def Obligations.EventRegisterWrites : Prop :=
  ∀ (s : State) (t i n : Nat) (v : Word) (w : WdtId),
    let x := s.to t
    let c := x.crb
    let may : Nat → Nat → Nat → Word → Prop := fun die blk off v => x.csrRefuses .trifle true (csrAddr die blk off) v = none
    let k := wdtNo w
    let u := x.wdtOf k
    let svc := may (wdtDie k) 0x04 (wdtOff k + 6) v
    let p := ck8Up x x.now - u.start
    (may 0 0x03 8 v → n < 32 → Answers (.crbAck t .trifle v) s (fun y =>
      y.crb.grace.get (dflt none) n =
        (if (c.grace.get (dflt none) n).any (fun g => g.fid == v && decide (x.now < g.due)) then none
          else c.grace.get (dflt none) n) ∧ y.csr = { x.csr with store := y.csr.store } ∧ y.mem = x.mem)) ∧
    (may 0 0x03 (0x1000 + i % 0x1000) v → Answers (.crbLatchClear t .trifle i v) s (fun y =>
      y.reg 0 0x03 (0x1000 + i % 0x1000) = x.reg 0 0x03 (0x1000 + i % 0x1000) &&& ~~~v ∧ y.crb = c ∧ y.mem = x.mem)) ∧
    (may 0 0x03 0x25 v → Answers (.crbLogpop t .trifle v) s (fun y =>
      y.crb = { c with log := c.log.drop 1 } ∧ y.mem = x.mem)) ∧
    (may 0 0x03 0xA 0 →
      (∀ j ∈ ([((.crbInjReport t .trifle v), 0), ((.crbInjDry t .trifle v), 1), ((.crbInjLine t .trifle v), 2)] :
          List (Instr × Nat)), Answers j.1 s (fun y =>
        y.fld 0 0x03 0xA 1 0 = j.2 ∧ y.crb = { c with injAt := some (edgeUp x ck4 (x.now + 2 * ck4)) } ∧ y.mem = x.mem)) ∧
      (v.toNat % 4 ≠ 3 → Answers (.crbInjCancel t .trifle v) s (fun y => y.crb = { c with injAt := none } ∧ y.mem = x.mem))) ∧
    (svc → k < 256 → u.running = false → Answers (.wdtService t .trifle w v) s (fun y =>
        y.wdtOf k = u ∧ y.wdt = x.wdt) ∧
      Answers (.wdtCheckin t .trifle w v) s (fun y => y.wdtOf k = u ∧ y.wdt = x.wdt)) ∧
    (svc → k < 256 → u.running = true → u.frozenAt = none → x.wdtMode k = 1 → p < x.wdtLimit k → x.wdtOpen k p = true →
      v = wdtToken u.chal (BitVec.ofNat 16 (x.wdtWord k 5)) → Answers (.wdtService t .trifle w v) s (fun y =>
        y.wdtOf k = { u with
          chal := nextChal u.chal, svcCnt := u.svcCnt + 1, start := ck8Up x x.now, bad := false, badPrev := false
          warned := false, done := 0 } ∧ y.mem = x.mem)) ∧
    (svc → k < 256 → u.running = true → u.frozenAt = none → x.wdtMode k = 2 → v.toNat < 16 → p < x.wdtLimit k →
      x.wdtOpen k p = true → bit (x.wdtWord k 5) v.toNat = true → u.done.getLsbD v.toNat = false →
      Answers (.wdtCheckin t .trifle w v) s (fun y =>
        y.wdtOf k = { u with done := setBit u.done v.toNat true, svcCnt := u.svcCnt + 1 } ∧ y.mem = x.mem)) ∧
    (svc → k < 256 → u.running = true → u.frozenAt = none → x.wdtMode k = 2 → 16 ≤ v.toNat → Answers (.wdtCheckin t .trifle w v) s (fun y =>
        y.wdtOf k = u ∧ y.flag 0 0x04 0 15 = true ∧ y.mem = x.mem)) ∧
    (may 0 0x0C 0x1F v →
      (x.flagL 0 0x0C 1 0 = false → Answers (.bbxFwdata t .trifle v) s (fun y =>
        y.bbx = { x.bbx with fwData := x.bbx.fwData.set (dflt 0) 15 v } ∧ y.mem = x.mem)) ∧
      (x.flagL 0 0x0C 1 0 = true → x.bbx.fwHour = x.bbx.fldSecs / 3600 → x.bbx.fwTaken < x.fldL 0 0x0C 1 5 1 → x.nvGone = false →
        x.flushing = false → x.bbx.full = false → x.bbx.fifo.length < 16 → Answers (.bbxFwdata t .trifle v) s (fun y =>
          y.bbx.fwTaken = x.bbx.fwTaken + 1 ∧ y.bbx.fifo.length = x.bbx.fifo.length + 1 ∧ y.bbx.fwDrop = x.bbx.fwDrop ∧
          y.mem = x.mem)) ∧
      (x.flagL 0 0x0C 1 0 = true → x.bbx.fwHour = x.bbx.fldSecs / 3600 → x.fldL 0 0x0C 1 5 1 ≤ x.bbx.fwTaken →
        Answers (.bbxFwdata t .trifle v) s (fun y =>
          y.bbx.fwDrop = satInc x.bbx.fwDrop ∧ y.bbx.fifo = x.bbx.fifo ∧ y.mem = x.mem)))

/-- Register writes of a port die (R397, R398, R523, R524, R531 to R533, R535, R539, R542): a CRC channel starts at its
profile's value and folds each word; a mailbox entry that is sent, dropped or ignored while one runs; received words are
removed from the head; an association takes the staged key with PN 1; a byte or a word joins its FIFO, is sent on MS_DATA
or, at a card that is not active, is lost; a card is activated where present, and deactivated.

Where the manual is silent this rests on the model's choices, log entries 36, 37, 55, 120, 132. -/
def Obligations.PortRegisterWrites : Prop :=
  ∀ (s : State) (t : Nat) (p1 : Bool) (n : BitVec 2) (u1 : BitVec 1) (v : Word),
    let x := s.to t
    let p := portNo p1
    let d := pd p
    let may : Nat → Nat → Nat → Word → Prop := fun die blk off v => x.csrRefuses .trifle true (csrAddr die blk off) v = none
    let co := calcOff n.toNat
    let z := x.handed p
    let pdie := z.pdie p
    let msi := x.port.msi
    let card := x.cardOf p
    let un := 0x40 * u1.toNat
    let unit := spiNo p u1.toNat
    let spi := x.spiOf unit
    let e := pdie.mbxTx
    let key := (List.range 16).map (fun i => pdie.saKey.get (dflt 0) i)
    (may d 0x46 co (v ||| 4) → x.cfg.state.open = true → v.toNat % 4 ≠ 3 → v.toNat / 8 % 2 = 0 → Answers (.cvuCalcStart t .trifle p1 n v) s (fun y =>
      y.calcVal d n.toNat = polyInit (v.toNat % 4) ∧ y.calcPoly d n.toNat = v.toNat % 4 ∧ y.mem = x.mem)) ∧
    (may d 0x46 (co + 1) v → Answers (.cvuCalcData t .trifle p1 n v) s (fun y =>
      y.calcVal d n.toNat = polyFold (x.calcPoly d n.toNat) (x.calcVal d n.toNat) (bytesOf [v]) ∧ y.pdie p = pdie ∧ y.mem = x.mem)) ∧
    (may d 0x46 8 (v ||| 0x8000) → Answers (.cvuInjArm t .trifle p1 v) s (fun y =>
      y.flag d 0x46 8 15 = true ∧ y.fld d 0x46 8 4 0 = v.toNat % 32 ∧ y.pdie p = pdie ∧ y.mem = x.mem)) ∧
    (may d 0x40 4 v →
      (v.getLsbD 0 = false ∨ x.mbxBusy p = true → Answers (.ethMbxgo t .trifle p1 v) s (fun y => y.pdie p = pdie ∧ y.mem = x.mem)) ∧
      (v.getLsbD 0 = true → x.mbxBusy p = false → wordAt e 0 = 1 → (z.txAssign p (bits (wordAt e 1).toNat 11 8)).en = true →
        Answers (.ethMbxgo t .trifle p1 v) s (fun y =>
          (y.pdie p).mbxTx = [] ∧ ((y.pdie p).send.map (fun b => b.assign)) = some (bits (wordAt e 1).toNat 11 8) ∧
          (y.pdie p).mbxDrop = pdie.mbxDrop ∧ y.mem = x.mem)) ∧
      (v.getLsbD 0 = true → x.mbxBusy p = false → wordAt e 0 ≠ 1 → wordAt e 0 ≠ 2 → Answers (.ethMbxgo t .trifle p1 v) s (fun y =>
        (y.pdie p).mbxTx = [] ∧ (y.pdie p).send = none ∧ (y.pdie p).mbxDrop = satInc pdie.mbxDrop ∧ y.mem = x.mem))) ∧
    (may d 0x40 7 v → Answers (.ethMbxpop t .trifle p1 v) s (fun y =>
      y.pdie p = { pdie with mbxRx := pdie.mbxRx.drop (v.toNat % 4096) } ∧ y.mem = x.mem)) ∧
    (may d 0x40 0x210 (v ||| 8) → Answers (.ethSactlInstall t .trifle p1 v) s (fun y =>
      y.saOf p (v.getLsbD 2) (v.toNat % 4) = some ⟨key, 1, false⟩ ∧ (y.pdie p).saKey = pdie.saKey ∧ y.mem = x.mem)) ∧
    (may 5 0x43 3 v → Answers (.msiDtx t .trifle v) s (fun y => y.port.msi = { msi with dtx := some (v.setWidth 8) } ∧ y.mem = x.mem)) ∧
    (may 5 0x43 4 v → Answers (.msiDrxRemove t .trifle v) s (fun y => y.port.msi = { msi with drx := msi.drx.drop 1 } ∧ y.mem = x.mem)) ∧
    (may d 0x44 2 v → may d 0x44 2 (v ||| 1) → may d 0x44 2 (v ||| 2) →
      Answers (.cardActivate t .trifle p1 v) s (fun y =>
        y.cardOf p = { card with active := !(v.getLsbD 1) && (card.active || card.present) } ∧ y.mem = x.mem) ∧
      Answers (.cardDeactivate t .trifle p1 v) s (fun y => y.cardOf p = { card with active := false } ∧ y.mem = x.mem)) ∧
    (may d 0x44 6 v → Answers (.cardTx t .trifle p1 v) s (fun y =>
      y.cardOf p = { card with tx := if card.active then v.setWidth 8 :: card.tx else card.tx } ∧ y.mem = x.mem)) ∧
    (may d 0x44 7 v → Answers (.cardRxRemove t .trifle p1 v) s (fun y =>
      y.cardOf p = { card with rx := card.rx.drop 1 } ∧ y.mem = x.mem)) ∧
    (may d 0x45 (0x102 + un) v → Answers (.spiuTx t .trifle p1 u1 v) s (fun y =>
      y.spiOf unit = (if spi.tx.length < spiDepth then { spi with tx := spi.tx ++ [v], busy := true } else spi) ∧ y.mem = x.mem)) ∧
    (may d 0x45 (0x103 + un) v → Answers (.spiuRxRemove t .trifle p1 u1 v) s (fun y =>
      y.spiOf unit = { spi with rx := spi.rx.drop 1 } ∧ y.mem = x.mem)) ∧
    (may d 0x45 (0x105 + un) v → Answers (.spiuCs t .trifle p1 u1 v) s (fun y =>
      y.flag d 0x45 (0x105 + un) 0 = v.getLsbD 0 ∧ y.spiOf unit = spi ∧ y.mem = x.mem)) ∧
    (may d 0x45 0x302 v → Answers (.spiuUtx t .trifle p1 v) s (fun y =>
      y.pdie p = { pdie with uart := { pdie.uart with
        tx := if pdie.uart.tx.length < uartDepth then pdie.uart.tx ++ [v.setWidth 8] else pdie.uart.tx } } ∧ y.mem = x.mem)) ∧
    (may d 0x45 0x303 v → Answers (.spiuUrxRemove t .trifle p1 v) s (fun y =>
      y.pdie p = { pdie with uart := { pdie.uart with rx := pdie.uart.rx.drop 1 } } ∧ y.mem = x.mem))

/-! ### Rules stated whole, and what every command and step keeps -/

/-- R78: a load that fails writes no register; it leaves the state, STAGED, CFG_STATUS.SLOT, CFG_IMGVER and CFG_EPOCH as they
were, and it sets CFG_REASON and CFG_DETAIL. -/
def Obligations.FailedLoads : Prop :=
  ∀ (s : State) (t code : Nat) (item : BitVec 32) (j : CfgJob),
    let x := s.to t
    x.cfg.job = some j → j.loading = true → (x.loadReads j.slot).loadCheck j.slot = some (code, item) →
      Answers (.loadComplete t) s (fun y =>
        y.csr = x.csr ∧ y.cfg.state = x.cfg.state ∧ y.cfg.staged = x.cfg.staged ∧ y.cfg.stagedSlot = x.cfg.stagedSlot ∧
        y.cfg.imgVer = x.cfg.imgVer ∧ y.cfg.epoch = x.cfg.epoch ∧ y.cfg.reason = BitVec.ofNat 16 code ∧ y.cfg.detail = item)

/-- R84: on a refusal by the check the state stays LOADED and no register changes; CFG_REASON takes the code and CFG_DETAIL
the item, CFG_REFUSED is incremented, a biscuit tin entry records both where the tin takes entries and its FIFO has room,
and IMG_REFUSED is reported on its line (R402). -/
def Obligations.RefusedChecks : Prop :=
  ∀ (s : State) (t code : Nat) (item : BitVec 32) (j : CfgJob),
    let x := s.to t
    let due := edgeUp x ck4 x.now
    let again := (x.crb.launched.get (dflt none) (lineKey 0 0x0101)).any (fun l => decide (due < l + 8 * ck4))
    x.cfg.job = some j → j.loading = false → x.checkResult j = some (code, item) → x.cfg.state = .loaded →
      Answers (.checkComplete t) s (fun y =>
        y.cfg.state = .loaded ∧ y.csr = x.csr ∧ y.cfg.reason = BitVec.ofNat 16 code ∧ y.cfg.detail = item ∧
        y.cfg.refused = satInc x.cfg.refused ∧
        (again = false → ⟨0x0101, due + crossing 0, false, 0, 0x02, false⟩ ∈ y.crb.inflight) ∧
        (x.nvGone = false → x.flushing = false → x.bbx.full = false → x.bbx.fifo.length < 16 →
          ∃ e ∈ y.bbx.fifo, e.kind = 0x09 ∧ e.body.take 4 = [2, BitVec.ofNat 16 code] ++ lowHigh item))

/-- R8: a write of a field that carries a reserved encoding is dropped whole: no register changes but the block's sticky RSVD,
which is set, and RSVD_WRITE, which is always at L0, is posted to the Crumb tray on the die's line. A report in the 7 CK4
after the last of its line is held by that one (R402). The state check, which comes first, has let the write through
(R567). -/
def Obligations.ReservedWrites : Prop :=
  ∀ (s : State) (t o : Nat) (a : Addr) (v : Word) (r : Row),
    let x := s.to t
    let d := csrDie a.toNat
    let b := csrBlk a.toNat
    let off := csrOff a.toNat
    let base := r.base off
    let n := ofWordsLow (x.heldWords d b base (r.word off) ++ [v])
    let y := x.csrSet d b off v
    let rs := if 0x10 ≤ b ∧ b ≤ 0x2F ∧ 0x140 ≤ base then 0x100 else rsvdOffset d b
    let due := edgeUp x ck4 x.now
    let again := (x.crb.launched.get (dflt none) (lineKey d 0x0181)).any (fun l => decide (due < l + 8 * ck4))
    regAt d b off = some r → r.word off + 1 = r.words → r.writable ≠ 0 →
    r.rwl = 0 ∨ x.cfg.state.open = true ∨ (r.onlyRwl = false ∧ (x.regN d b base r.words ^^^ n) &&& r.rwl = 0) →
    reservedEnc d b base n = true ∨ x.reservedNow d b base n = true →
      y.flag d b rs 15 = true ∧ (o ≠ rs → y.reg d b o = x.reg d b o) ∧
      y.reg d b rs = x.reg d b rs ||| 0x8000 ∧ alwaysL0 0x0181 = true ∧
      y.crb.inflight = x.crb.inflight ++
        (if again then [] else [⟨0x0181, due + crossing d, false, BitVec.ofNat 3 d, BitVec.ofNat 8 b, false⟩]) ∧
      y.cfg = x.cfg ∧ y.mem = x.mem ∧
      (isCsr a.toNat = true → x.csrRefuses .trifle true a.toNat v = none → exec (.registerWrite t .trifle a v) s = .next y)

/-- R414: CRB_STORM counts every report that the Crumb tray latches in a cycle, whatever its class, and saturates at
0xFFFF_FFFF. Reports of a broken line and of a die in its start-up tests are not latched (R403, R424). -/
def Obligations.StormCount : Prop :=
  ∀ (s : State) (t T : Nat) (other : OtherClass),
    let x := s.to t
    let c := x.crb
    let due := (c.inflight.filter (fun r => r.latchAt == T && !(x.lineBroken r) && !(x.testMode r.fid))).length
    let mode := x.fld 0 0x03 0xA 1 0
    let inj := if mode = 0 then b2n (!(x.testMode (x.reg 0 0x03 9))) else b2n (mode != 1)
    x.nextLatch = some T → T ≤ x.now →
      Answers (.faultReport t other) s (fun y =>
        y.crb.storm = BitVec.ofNat 32 (min 0xFFFFFFFF (c.storm.toNat + due + (if c.injAt = some T then inj else 0))))

/-- A step takes the command at the front of the queue: it answers what that command's effect on the state with the queue's
rest is, and on an empty queue the block idles (assumption 1). -/
def Obligations.StepRunsFront : Prop :=
  (∀ (s : State) (c : Instr), step { s with pending := c :: s.pending } = exec c s) ∧
  (∀ (s : State) (c : Instr) (cs : List Instr), s.pending = c :: cs → step s = exec c { s with pending := cs }) ∧
  ∀ s : State, s.pending = [] → step s = .next s

/-- Every command of the table completes in every sound state: it answers a next state that is sound, with the same commands
waiting and a time that is not earlier. -/
def Obligations.CommandsKeepSound : Prop :=
  ∀ (i : Instr) (s : State), s.Sound → Answers i s (fun y => y.Sound ∧ y.pending = s.pending ∧ s.now ≤ y.now)

/-- A step from a sound state leaves a sound state: memory and its error overlay in canonical form, and the hub not fenced. It
takes one command off the queue. -/
def Obligations.StepsKeepSound : Prop :=
  ∀ (s t : State), s.Sound → step s = .next t → t.Sound ∧ t.pending = s.pending.tail ∧ s.now ≤ t.now

/-- The state after reset is sound, with no command waiting, no die fenced and no word written, and its registers read what
the spec gives (R66, R141, R156, R312, R420, R445): BOOT, nothing staged, the frame period at 100 units, both Trifle watchdogs in
CHALLENGE with PERIOD and WCLOSE at 65535, EOUT_T low and EOUT_C high. -/
def Obligations.ResetState : Prop :=
  let r := State.reset
  r.Sound ∧ r.pending = [] ∧ r.cfg.state = .boot ∧ r.cfg.staged = false ∧ r.cfg.reason = 0 ∧ r.lat.running = false ∧
  r.reg 0 0x07 0 = 100 ∧ r.reg 0 0x03 0 = 4 ∧ r.regN 0 0x01 1 2 = 0x07FF ∧ r.regN 1 0x01 1 2 = 0x3FFFFF ∧ r.reg 0 0x0B 0x11 = 0x21 ∧
  r.reg 0 0x31 8 = 0x2A ∧ r.reg 0 0x31 0xA = 0x0A ∧ r.reg 5 0x44 3 = 375 ∧ r.reg 5 0x44 4 = 372 ∧ r.reg 5 0x45 0x301 = 407 ∧
  r.crb.eout.t = false ∧ r.crb.eout.c = true ∧ r.vdg.veto.t = false ∧ r.vdg.veto.c = true ∧ r.vdg.out = .stop ∧
  (∀ k < 2, r.wdtMode k = 1 ∧ r.wdtWord k 1 = 65535 ∧ r.wdtWord k 3 = 65535) ∧ (∀ d < 8, (r.die d).fenced = false) ∧
  (∀ a, (poolOf a).isSome = true ∨ (hbmStackOf a).isSome = true → r.rd a = 0 ∧ r.classAt (a / 8) = .none) ∧ r.time.tq = .unset
end

