-- ==== Sys2Proof/Laws/SMap.lean ====
section
/-!
SUPPORT. Laws of sparse maps: a read after a write, and the canonical form through every operation.
-/

namespace Sys2Proof.Machine

variable {α : Type}

/-- A lower bound may be lowered. -/
theorem SMap.wfFrom_lower [DecidableEq α] (d : Nat → α) (m : SMap α) (b c : Nat)
    (h : SMap.wfFrom d (some b) m = true) (hc : c ≤ b) : SMap.wfFrom d (some c) m = true := by
  cases m with
  | nil => rfl
  | cons e m =>
    obtain ⟨j, v⟩ := e
    simp only [SMap.wfFrom, Bool.and_eq_true, decide_eq_true_eq] at h ⊢
    exact ⟨⟨by omega, h.1.2⟩, h.2⟩

/-- No bound at all is the weakest. -/
theorem SMap.wfFrom_none [DecidableEq α] (d : Nat → α) (m : SMap α) (b : Option Nat)
    (h : SMap.wfFrom d b m = true) : SMap.wfFrom d none m = true := by
  cases m with
  | nil => rfl
  | cons e m =>
    obtain ⟨j, v⟩ := e
    simp only [SMap.wfFrom, Bool.and_eq_true] at h ⊢
    exact ⟨⟨trivial, h.1.2⟩, h.2⟩

/-- An entry in front of a list whose keys lie above it. -/
theorem SMap.wfFrom_cell [DecidableEq α] (d : Nat → α) (m : SMap α) (lo : Option Nat) (k : Nat) (v : α)
    (hlo : (match lo with | none => true | some b => decide (b < k)) = true)
    (hm : SMap.wfFrom d (some k) m = true) (hb : SMap.wfFrom d lo m = true) :
    SMap.wfFrom d lo (SMap.cell d k v ++ m) = true := by
  unfold SMap.cell
  split
  · exact hb
  · rename_i hv
    simp only [List.singleton_append, SMap.wfFrom, Bool.and_eq_true]
    exact ⟨⟨hlo, by simpa using hv⟩, hm⟩

/-- Putting a key that is not listed keeps the canonical form. -/
theorem SMap.wfFrom_put [DecidableEq α] (d : Nat → α) (m : SMap α) (lo : Option Nat) (k : Nat) (v : α)
    (hlo : (match lo with | none => true | some b => decide (b < k)) = true) (h : SMap.wfFrom d lo m = true)
    (hk : ∀ e ∈ m, e.1 ≠ k) : SMap.wfFrom d lo (SMap.put d m k v) = true := by
  induction m generalizing lo with
  | nil =>
    have := SMap.wfFrom_cell d [] lo k v hlo rfl rfl
    simpa [SMap.put] using this
  | cons e m ih =>
    obtain ⟨j, w⟩ := e
    simp only [SMap.put]
    split
    · rename_i hkj
      refine SMap.wfFrom_cell d _ lo k v hlo ?_ h
      simp only [SMap.wfFrom, Bool.and_eq_true, decide_eq_true_eq] at h ⊢
      exact ⟨⟨hkj, h.1.2⟩, h.2⟩
    · rename_i hkj
      have hne : j ≠ k := hk (j, w) (by simp)
      have hjk : j < k := by omega
      simp only [SMap.wfFrom, Bool.and_eq_true] at h ⊢
      exact ⟨h.1, ih (some j) (by simpa using hjk) h.2 (fun e he => hk e (by simp [he]))⟩

/-- Dropping entries keeps the canonical form. -/
theorem SMap.wfFrom_filter [DecidableEq α] (d : Nat → α) (p : Nat × α → Bool) (m : SMap α) (lo : Option Nat)
    (h : SMap.wfFrom d lo m = true) : SMap.wfFrom d lo (m.filter p) = true := by
  induction m generalizing lo with
  | nil => rfl
  | cons e m ih =>
    obtain ⟨j, w⟩ := e
    have h' := h
    simp only [SMap.wfFrom, Bool.and_eq_true] at h
    simp only [List.filter]
    split
    · simp only [SMap.wfFrom, Bool.and_eq_true]
      exact ⟨h.1, ih _ h.2⟩
    · refine ih _ ?_
      cases lo with
      | none => exact SMap.wfFrom_none d m _ h.2
      | some b => exact SMap.wfFrom_lower d m _ b h.2 (by simpa using Nat.le_of_lt (by simpa using h.1.1))

/-- Dropping entries keeps the canonical form. -/
theorem SMap.wf_filter [DecidableEq α] (d : Nat → α) (p : Nat × α → Bool) (m : SMap α) (h : SMap.wf d m = true) :
    SMap.wf d (m.filter p) = true := SMap.wfFrom_filter d p m none h

/-- Writing a key keeps the canonical form. -/
theorem SMap.wf_set [DecidableEq α] (d : Nat → α) (m : SMap α) (k : Nat) (v : α) (h : SMap.wf d m = true) :
    SMap.wf d (SMap.set d m k v) = true :=
  SMap.wfFrom_put d _ none k v rfl (SMap.wf_filter d _ m h) (by simp)

/-- A read after a key is put. -/
theorem SMap.get_put [DecidableEq α] (d : Nat → α) (m : SMap α) (k l : Nat) (v : α) (hk : ∀ e ∈ m, e.1 ≠ k) :
    SMap.get d (SMap.put d m k v) l = if l = k then v else SMap.get d m l := by
  induction m with
  | nil =>
    simp only [SMap.put, SMap.cell]
    by_cases hl : l = k
    · subst hl
      split <;> simp [SMap.get, *]
    · split <;> simp [SMap.get, hl]
  | cons e m ih =>
    obtain ⟨j, w⟩ := e
    have hne : j ≠ k := hk (j, w) (by simp)
    have hm : ∀ e ∈ m, e.1 ≠ k := fun e he => hk e (by simp [he])
    simp only [SMap.put, SMap.cell]
    by_cases hl : l = k
    · subst hl
      split
      · split
        · rename_i hv
          have hkm : ∀ n : SMap α, (∀ e ∈ n, e.1 ≠ l) → SMap.get d n l = d l := by
            intro n
            induction n with
            | nil => intro _; rfl
            | cons f n ihn =>
              intro hf
              have hf1 := hf f (by simp)
              simp [SMap.get, Ne.symm hf1, ihn (fun e he => hf e (by simp [he]))]
          simp [hv, hkm _ hk]
        · simp [SMap.get]
      · simp [SMap.get, Ne.symm hne, ih hm]
    · split
      · split <;> simp [SMap.get, hl]
      · simp [SMap.get, hl, ih hm]

/-- Dropping one key leaves every other as it was. -/
theorem SMap.get_filter_other (d : Nat → α) (m : SMap α) (k l : Nat) (hl : l ≠ k) :
    SMap.get d (m.filter (fun e => e.1 != k)) l = SMap.get d m l := by
  induction m with
  | nil => rfl
  | cons e m ih =>
    obtain ⟨j, w⟩ := e
    by_cases hj : j = k
    · subst hj
      simp [SMap.get, hl, ih]
    · simp [hj, SMap.get, ih]

/-- A read after a write. -/
theorem SMap.get_set [DecidableEq α] (d : Nat → α) (m : SMap α) (k l : Nat) (v : α) :
    SMap.get d (SMap.set d m k v) l = if l = k then v else SMap.get d m l := by
  rw [SMap.set, SMap.get_put d _ k l v (by simp)]
  split
  · rfl
  · rename_i hl
    exact SMap.get_filter_other d m k l hl

/-- A read after a write of the same key gives the value written. -/
@[simp] theorem SMap.get_set_same [DecidableEq α] (d : Nat → α) (m : SMap α) (k : Nat) (v : α) :
    SMap.get d (SMap.set d m k v) k = v := by simp [SMap.get_set]

/-- A write of one key leaves every other as it was. -/
theorem SMap.get_set_other [DecidableEq α] (d : Nat → α) (m : SMap α) (k l : Nat) (v : α) (hne : l ≠ k) :
    SMap.get d (SMap.set d m k v) l = SMap.get d m l := by simp [SMap.get_set, hne]

end Sys2Proof.Machine
end

