-- ==== Sys2Proof/Laws/State.lean ====
section
/-!
SUPPORT. The laws of reading after an update: each updater of the state gives every part it does not change back, and
what it changes reads as changed, the rest as before.
-/

namespace Sys2Proof.Machine

@[simp] theorem State.to_free (s : State) (t : Nat) : (s.to t).free = s.free := rfl
@[simp] theorem State.to_dies (s : State) (t : Nat) : (s.to t).dies = s.dies := rfl
@[simp] theorem State.to_clk (s : State) (t : Nat) : (s.to t).clk = s.clk := rfl
@[simp] theorem State.to_csr (s : State) (t : Nat) : (s.to t).csr = s.csr := rfl
@[simp] theorem State.to_cfg (s : State) (t : Nat) : (s.to t).cfg = s.cfg := rfl
@[simp] theorem State.to_lat (s : State) (t : Nat) : (s.to t).lat = s.lat := rfl
@[simp] theorem State.to_sifter (s : State) (t : Nat) : (s.to t).sifter = s.sifter := rfl
@[simp] theorem State.to_vdg (s : State) (t : Nat) : (s.to t).vdg = s.vdg := rfl
@[simp] theorem State.to_time (s : State) (t : Nat) : (s.to t).time = s.time := rfl
@[simp] theorem State.to_pos (s : State) (t : Nat) : (s.to t).pos = s.pos := rfl
@[simp] theorem State.to_integ (s : State) (t : Nat) : (s.to t).integ = s.integ := rfl
@[simp] theorem State.to_ldg (s : State) (t : Nat) : (s.to t).ldg = s.ldg := rfl
@[simp] theorem State.to_core (s : State) (t : Nat) : (s.to t).core = s.core := rfl
@[simp] theorem State.to_eng (s : State) (t : Nat) : (s.to t).eng = s.eng := rfl
@[simp] theorem State.to_trf (s : State) (t : Nat) : (s.to t).trf = s.trf := rfl
@[simp] theorem State.to_queue (s : State) (t : Nat) : (s.to t).queue = s.queue := rfl
@[simp] theorem State.to_mem (s : State) (t : Nat) : (s.to t).mem = s.mem := rfl
@[simp] theorem State.to_hbm (s : State) (t : Nat) : (s.to t).hbm = s.hbm := rfl
@[simp] theorem State.to_pool (s : State) (t : Nat) : (s.to t).pool = s.pool := rfl
@[simp] theorem State.to_cvu (s : State) (t : Nat) : (s.to t).cvu = s.cvu := rfl
@[simp] theorem State.to_crb (s : State) (t : Nat) : (s.to t).crb = s.crb := rfl
@[simp] theorem State.to_wdt (s : State) (t : Nat) : (s.to t).wdt = s.wdt := rfl
@[simp] theorem State.to_boot (s : State) (t : Nat) : (s.to t).boot = s.boot := rfl
@[simp] theorem State.to_cus (s : State) (t : Nat) : (s.to t).cus = s.cus := rfl
@[simp] theorem State.to_dbg (s : State) (t : Nat) : (s.to t).dbg = s.dbg := rfl
@[simp] theorem State.to_bbx (s : State) (t : Nat) : (s.to t).bbx = s.bbx := rfl
@[simp] theorem State.to_port (s : State) (t : Nat) : (s.to t).port = s.port := rfl
@[simp] theorem State.to_pending (s : State) (t : Nat) : (s.to t).pending = s.pending := rfl
@[simp] theorem State.to_now (s : State) (t : Nat) : (s.to t).now = max s.now t := rfl

@[simp] theorem State.modDie_now (s : State) (k : Nat) (f : DieSt → DieSt) : (s.modDie k f).now = s.now := rfl
@[simp] theorem State.modDie_free (s : State) (k : Nat) (f : DieSt → DieSt) : (s.modDie k f).free = s.free := rfl
@[simp] theorem State.modDie_clk (s : State) (k : Nat) (f : DieSt → DieSt) : (s.modDie k f).clk = s.clk := rfl
@[simp] theorem State.modDie_csr (s : State) (k : Nat) (f : DieSt → DieSt) : (s.modDie k f).csr = s.csr := rfl
@[simp] theorem State.modDie_cfg (s : State) (k : Nat) (f : DieSt → DieSt) : (s.modDie k f).cfg = s.cfg := rfl
@[simp] theorem State.modDie_lat (s : State) (k : Nat) (f : DieSt → DieSt) : (s.modDie k f).lat = s.lat := rfl
@[simp] theorem State.modDie_sifter (s : State) (k : Nat) (f : DieSt → DieSt) : (s.modDie k f).sifter = s.sifter := rfl
@[simp] theorem State.modDie_vdg (s : State) (k : Nat) (f : DieSt → DieSt) : (s.modDie k f).vdg = s.vdg := rfl
@[simp] theorem State.modDie_time (s : State) (k : Nat) (f : DieSt → DieSt) : (s.modDie k f).time = s.time := rfl
@[simp] theorem State.modDie_pos (s : State) (k : Nat) (f : DieSt → DieSt) : (s.modDie k f).pos = s.pos := rfl
@[simp] theorem State.modDie_integ (s : State) (k : Nat) (f : DieSt → DieSt) : (s.modDie k f).integ = s.integ := rfl
@[simp] theorem State.modDie_ldg (s : State) (k : Nat) (f : DieSt → DieSt) : (s.modDie k f).ldg = s.ldg := rfl
@[simp] theorem State.modDie_core (s : State) (k : Nat) (f : DieSt → DieSt) : (s.modDie k f).core = s.core := rfl
@[simp] theorem State.modDie_eng (s : State) (k : Nat) (f : DieSt → DieSt) : (s.modDie k f).eng = s.eng := rfl
@[simp] theorem State.modDie_trf (s : State) (k : Nat) (f : DieSt → DieSt) : (s.modDie k f).trf = s.trf := rfl
@[simp] theorem State.modDie_queue (s : State) (k : Nat) (f : DieSt → DieSt) : (s.modDie k f).queue = s.queue := rfl
@[simp] theorem State.modDie_mem (s : State) (k : Nat) (f : DieSt → DieSt) : (s.modDie k f).mem = s.mem := rfl
@[simp] theorem State.modDie_hbm (s : State) (k : Nat) (f : DieSt → DieSt) : (s.modDie k f).hbm = s.hbm := rfl
@[simp] theorem State.modDie_pool (s : State) (k : Nat) (f : DieSt → DieSt) : (s.modDie k f).pool = s.pool := rfl
@[simp] theorem State.modDie_cvu (s : State) (k : Nat) (f : DieSt → DieSt) : (s.modDie k f).cvu = s.cvu := rfl
@[simp] theorem State.modDie_crb (s : State) (k : Nat) (f : DieSt → DieSt) : (s.modDie k f).crb = s.crb := rfl
@[simp] theorem State.modDie_wdt (s : State) (k : Nat) (f : DieSt → DieSt) : (s.modDie k f).wdt = s.wdt := rfl
@[simp] theorem State.modDie_boot (s : State) (k : Nat) (f : DieSt → DieSt) : (s.modDie k f).boot = s.boot := rfl
@[simp] theorem State.modDie_cus (s : State) (k : Nat) (f : DieSt → DieSt) : (s.modDie k f).cus = s.cus := rfl
@[simp] theorem State.modDie_dbg (s : State) (k : Nat) (f : DieSt → DieSt) : (s.modDie k f).dbg = s.dbg := rfl
@[simp] theorem State.modDie_bbx (s : State) (k : Nat) (f : DieSt → DieSt) : (s.modDie k f).bbx = s.bbx := rfl
@[simp] theorem State.modDie_port (s : State) (k : Nat) (f : DieSt → DieSt) : (s.modDie k f).port = s.port := rfl
@[simp] theorem State.modDie_pending (s : State) (k : Nat) (f : DieSt → DieSt) : (s.modDie k f).pending = s.pending := rfl
@[simp] theorem State.die_modDie (s : State) (k : Nat) (f : DieSt → DieSt) :
    (s.modDie k f).die k = f (s.die k) := SMap.get_set_same ..
theorem State.die_modDie_other (s : State) (k j : Nat) (f : DieSt → DieSt) (h : j ≠ k) :
    (s.modDie k f).die j = s.die j := SMap.get_set_other _ _ _ _ _ h

@[simp] theorem State.modLink_now (s : State) (d n : Nat) (f : LinkSt → LinkSt) : (s.modLink d n f).now = s.now := rfl
@[simp] theorem State.modLink_free (s : State) (d n : Nat) (f : LinkSt → LinkSt) : (s.modLink d n f).free = s.free := rfl
@[simp] theorem State.modLink_clk (s : State) (d n : Nat) (f : LinkSt → LinkSt) : (s.modLink d n f).clk = s.clk := rfl
@[simp] theorem State.modLink_csr (s : State) (d n : Nat) (f : LinkSt → LinkSt) : (s.modLink d n f).csr = s.csr := rfl
@[simp] theorem State.modLink_cfg (s : State) (d n : Nat) (f : LinkSt → LinkSt) : (s.modLink d n f).cfg = s.cfg := rfl
@[simp] theorem State.modLink_lat (s : State) (d n : Nat) (f : LinkSt → LinkSt) : (s.modLink d n f).lat = s.lat := rfl
@[simp] theorem State.modLink_sifter (s : State) (d n : Nat) (f : LinkSt → LinkSt) : (s.modLink d n f).sifter = s.sifter := rfl
@[simp] theorem State.modLink_vdg (s : State) (d n : Nat) (f : LinkSt → LinkSt) : (s.modLink d n f).vdg = s.vdg := rfl
@[simp] theorem State.modLink_time (s : State) (d n : Nat) (f : LinkSt → LinkSt) : (s.modLink d n f).time = s.time := rfl
@[simp] theorem State.modLink_pos (s : State) (d n : Nat) (f : LinkSt → LinkSt) : (s.modLink d n f).pos = s.pos := rfl
@[simp] theorem State.modLink_integ (s : State) (d n : Nat) (f : LinkSt → LinkSt) : (s.modLink d n f).integ = s.integ := rfl
@[simp] theorem State.modLink_ldg (s : State) (d n : Nat) (f : LinkSt → LinkSt) : (s.modLink d n f).ldg = s.ldg := rfl
@[simp] theorem State.modLink_core (s : State) (d n : Nat) (f : LinkSt → LinkSt) : (s.modLink d n f).core = s.core := rfl
@[simp] theorem State.modLink_eng (s : State) (d n : Nat) (f : LinkSt → LinkSt) : (s.modLink d n f).eng = s.eng := rfl
@[simp] theorem State.modLink_trf (s : State) (d n : Nat) (f : LinkSt → LinkSt) : (s.modLink d n f).trf = s.trf := rfl
@[simp] theorem State.modLink_queue (s : State) (d n : Nat) (f : LinkSt → LinkSt) : (s.modLink d n f).queue = s.queue := rfl
@[simp] theorem State.modLink_mem (s : State) (d n : Nat) (f : LinkSt → LinkSt) : (s.modLink d n f).mem = s.mem := rfl
@[simp] theorem State.modLink_hbm (s : State) (d n : Nat) (f : LinkSt → LinkSt) : (s.modLink d n f).hbm = s.hbm := rfl
@[simp] theorem State.modLink_pool (s : State) (d n : Nat) (f : LinkSt → LinkSt) : (s.modLink d n f).pool = s.pool := rfl
@[simp] theorem State.modLink_cvu (s : State) (d n : Nat) (f : LinkSt → LinkSt) : (s.modLink d n f).cvu = s.cvu := rfl
@[simp] theorem State.modLink_crb (s : State) (d n : Nat) (f : LinkSt → LinkSt) : (s.modLink d n f).crb = s.crb := rfl
@[simp] theorem State.modLink_wdt (s : State) (d n : Nat) (f : LinkSt → LinkSt) : (s.modLink d n f).wdt = s.wdt := rfl
@[simp] theorem State.modLink_boot (s : State) (d n : Nat) (f : LinkSt → LinkSt) : (s.modLink d n f).boot = s.boot := rfl
@[simp] theorem State.modLink_cus (s : State) (d n : Nat) (f : LinkSt → LinkSt) : (s.modLink d n f).cus = s.cus := rfl
@[simp] theorem State.modLink_dbg (s : State) (d n : Nat) (f : LinkSt → LinkSt) : (s.modLink d n f).dbg = s.dbg := rfl
@[simp] theorem State.modLink_bbx (s : State) (d n : Nat) (f : LinkSt → LinkSt) : (s.modLink d n f).bbx = s.bbx := rfl
@[simp] theorem State.modLink_port (s : State) (d n : Nat) (f : LinkSt → LinkSt) : (s.modLink d n f).port = s.port := rfl
@[simp] theorem State.modLink_pending (s : State) (d n : Nat) (f : LinkSt → LinkSt) : (s.modLink d n f).pending = s.pending := rfl
@[simp] theorem State.link_modLink (s : State) (d n : Nat) (f : LinkSt → LinkSt) :
    (s.modLink d n f).link d n = f (s.link d n) := SMap.get_set_same ..

@[simp] theorem State.modSft_now (s : State) (n : Nat) (f : SifterSt → SifterSt) : (s.modSft n f).now = s.now := rfl
@[simp] theorem State.modSft_free (s : State) (n : Nat) (f : SifterSt → SifterSt) : (s.modSft n f).free = s.free := rfl
@[simp] theorem State.modSft_dies (s : State) (n : Nat) (f : SifterSt → SifterSt) : (s.modSft n f).dies = s.dies := rfl
@[simp] theorem State.modSft_clk (s : State) (n : Nat) (f : SifterSt → SifterSt) : (s.modSft n f).clk = s.clk := rfl
@[simp] theorem State.modSft_csr (s : State) (n : Nat) (f : SifterSt → SifterSt) : (s.modSft n f).csr = s.csr := rfl
@[simp] theorem State.modSft_cfg (s : State) (n : Nat) (f : SifterSt → SifterSt) : (s.modSft n f).cfg = s.cfg := rfl
@[simp] theorem State.modSft_lat (s : State) (n : Nat) (f : SifterSt → SifterSt) : (s.modSft n f).lat = s.lat := rfl
@[simp] theorem State.modSft_vdg (s : State) (n : Nat) (f : SifterSt → SifterSt) : (s.modSft n f).vdg = s.vdg := rfl
@[simp] theorem State.modSft_time (s : State) (n : Nat) (f : SifterSt → SifterSt) : (s.modSft n f).time = s.time := rfl
@[simp] theorem State.modSft_pos (s : State) (n : Nat) (f : SifterSt → SifterSt) : (s.modSft n f).pos = s.pos := rfl
@[simp] theorem State.modSft_integ (s : State) (n : Nat) (f : SifterSt → SifterSt) : (s.modSft n f).integ = s.integ := rfl
@[simp] theorem State.modSft_ldg (s : State) (n : Nat) (f : SifterSt → SifterSt) : (s.modSft n f).ldg = s.ldg := rfl
@[simp] theorem State.modSft_core (s : State) (n : Nat) (f : SifterSt → SifterSt) : (s.modSft n f).core = s.core := rfl
@[simp] theorem State.modSft_eng (s : State) (n : Nat) (f : SifterSt → SifterSt) : (s.modSft n f).eng = s.eng := rfl
@[simp] theorem State.modSft_trf (s : State) (n : Nat) (f : SifterSt → SifterSt) : (s.modSft n f).trf = s.trf := rfl
@[simp] theorem State.modSft_queue (s : State) (n : Nat) (f : SifterSt → SifterSt) : (s.modSft n f).queue = s.queue := rfl
@[simp] theorem State.modSft_mem (s : State) (n : Nat) (f : SifterSt → SifterSt) : (s.modSft n f).mem = s.mem := rfl
@[simp] theorem State.modSft_hbm (s : State) (n : Nat) (f : SifterSt → SifterSt) : (s.modSft n f).hbm = s.hbm := rfl
@[simp] theorem State.modSft_pool (s : State) (n : Nat) (f : SifterSt → SifterSt) : (s.modSft n f).pool = s.pool := rfl
@[simp] theorem State.modSft_cvu (s : State) (n : Nat) (f : SifterSt → SifterSt) : (s.modSft n f).cvu = s.cvu := rfl
@[simp] theorem State.modSft_crb (s : State) (n : Nat) (f : SifterSt → SifterSt) : (s.modSft n f).crb = s.crb := rfl
@[simp] theorem State.modSft_wdt (s : State) (n : Nat) (f : SifterSt → SifterSt) : (s.modSft n f).wdt = s.wdt := rfl
@[simp] theorem State.modSft_boot (s : State) (n : Nat) (f : SifterSt → SifterSt) : (s.modSft n f).boot = s.boot := rfl
@[simp] theorem State.modSft_cus (s : State) (n : Nat) (f : SifterSt → SifterSt) : (s.modSft n f).cus = s.cus := rfl
@[simp] theorem State.modSft_dbg (s : State) (n : Nat) (f : SifterSt → SifterSt) : (s.modSft n f).dbg = s.dbg := rfl
@[simp] theorem State.modSft_bbx (s : State) (n : Nat) (f : SifterSt → SifterSt) : (s.modSft n f).bbx = s.bbx := rfl
@[simp] theorem State.modSft_port (s : State) (n : Nat) (f : SifterSt → SifterSt) : (s.modSft n f).port = s.port := rfl
@[simp] theorem State.modSft_pending (s : State) (n : Nat) (f : SifterSt → SifterSt) : (s.modSft n f).pending = s.pending := rfl
@[simp] theorem State.sft_modSft (s : State) (n : Nat) (f : SifterSt → SifterSt) :
    (s.modSft n f).sft n = f (s.sft n) := SMap.get_set_same ..
theorem State.sft_modSft_other (s : State) (n j : Nat) (f : SifterSt → SifterSt) (h : j ≠ n) :
    (s.modSft n f).sft j = s.sft j := SMap.get_set_other _ _ _ _ _ h

@[simp] theorem State.modCore_now (s : State) (c : Nat) (f : CoreSt → CoreSt) : (s.modCore c f).now = s.now := rfl
@[simp] theorem State.modCore_free (s : State) (c : Nat) (f : CoreSt → CoreSt) : (s.modCore c f).free = s.free := rfl
@[simp] theorem State.modCore_dies (s : State) (c : Nat) (f : CoreSt → CoreSt) : (s.modCore c f).dies = s.dies := rfl
@[simp] theorem State.modCore_clk (s : State) (c : Nat) (f : CoreSt → CoreSt) : (s.modCore c f).clk = s.clk := rfl
@[simp] theorem State.modCore_csr (s : State) (c : Nat) (f : CoreSt → CoreSt) : (s.modCore c f).csr = s.csr := rfl
@[simp] theorem State.modCore_cfg (s : State) (c : Nat) (f : CoreSt → CoreSt) : (s.modCore c f).cfg = s.cfg := rfl
@[simp] theorem State.modCore_lat (s : State) (c : Nat) (f : CoreSt → CoreSt) : (s.modCore c f).lat = s.lat := rfl
@[simp] theorem State.modCore_sifter (s : State) (c : Nat) (f : CoreSt → CoreSt) : (s.modCore c f).sifter = s.sifter := rfl
@[simp] theorem State.modCore_vdg (s : State) (c : Nat) (f : CoreSt → CoreSt) : (s.modCore c f).vdg = s.vdg := rfl
@[simp] theorem State.modCore_time (s : State) (c : Nat) (f : CoreSt → CoreSt) : (s.modCore c f).time = s.time := rfl
@[simp] theorem State.modCore_pos (s : State) (c : Nat) (f : CoreSt → CoreSt) : (s.modCore c f).pos = s.pos := rfl
@[simp] theorem State.modCore_integ (s : State) (c : Nat) (f : CoreSt → CoreSt) : (s.modCore c f).integ = s.integ := rfl
@[simp] theorem State.modCore_ldg (s : State) (c : Nat) (f : CoreSt → CoreSt) : (s.modCore c f).ldg = s.ldg := rfl
@[simp] theorem State.modCore_eng (s : State) (c : Nat) (f : CoreSt → CoreSt) : (s.modCore c f).eng = s.eng := rfl
@[simp] theorem State.modCore_trf (s : State) (c : Nat) (f : CoreSt → CoreSt) : (s.modCore c f).trf = s.trf := rfl
@[simp] theorem State.modCore_queue (s : State) (c : Nat) (f : CoreSt → CoreSt) : (s.modCore c f).queue = s.queue := rfl
@[simp] theorem State.modCore_mem (s : State) (c : Nat) (f : CoreSt → CoreSt) : (s.modCore c f).mem = s.mem := rfl
@[simp] theorem State.modCore_hbm (s : State) (c : Nat) (f : CoreSt → CoreSt) : (s.modCore c f).hbm = s.hbm := rfl
@[simp] theorem State.modCore_pool (s : State) (c : Nat) (f : CoreSt → CoreSt) : (s.modCore c f).pool = s.pool := rfl
@[simp] theorem State.modCore_cvu (s : State) (c : Nat) (f : CoreSt → CoreSt) : (s.modCore c f).cvu = s.cvu := rfl
@[simp] theorem State.modCore_crb (s : State) (c : Nat) (f : CoreSt → CoreSt) : (s.modCore c f).crb = s.crb := rfl
@[simp] theorem State.modCore_wdt (s : State) (c : Nat) (f : CoreSt → CoreSt) : (s.modCore c f).wdt = s.wdt := rfl
@[simp] theorem State.modCore_boot (s : State) (c : Nat) (f : CoreSt → CoreSt) : (s.modCore c f).boot = s.boot := rfl
@[simp] theorem State.modCore_cus (s : State) (c : Nat) (f : CoreSt → CoreSt) : (s.modCore c f).cus = s.cus := rfl
@[simp] theorem State.modCore_dbg (s : State) (c : Nat) (f : CoreSt → CoreSt) : (s.modCore c f).dbg = s.dbg := rfl
@[simp] theorem State.modCore_bbx (s : State) (c : Nat) (f : CoreSt → CoreSt) : (s.modCore c f).bbx = s.bbx := rfl
@[simp] theorem State.modCore_port (s : State) (c : Nat) (f : CoreSt → CoreSt) : (s.modCore c f).port = s.port := rfl
@[simp] theorem State.modCore_pending (s : State) (c : Nat) (f : CoreSt → CoreSt) : (s.modCore c f).pending = s.pending := rfl
@[simp] theorem State.coreOf_modCore (s : State) (c : Nat) (f : CoreSt → CoreSt) :
    (s.modCore c f).coreOf c = f (s.coreOf c) := by
  unfold State.modCore
  dsimp only
  split
  · show SMap.get _ (SMap.modify _ _ _ _) c = _
    exact (SMap.get_set_other _ _ _ _ _ (by omega)).trans (SMap.get_set_same ..)
  · exact SMap.get_set_same ..
/-- What the main core of a pair becomes, its checker becomes. -/
theorem State.coreOf_modCore_checker (s : State) (c : Nat) (f : CoreSt → CoreSt) (h : s.leads c = true) :
    (s.modCore c f).coreOf (c + 1) = (f (s.coreOf c)).mirror (s.coreOf (c + 1)) := by
  unfold State.modCore
  dsimp only
  split
  · refine (SMap.get_set_same ..).trans ?_
    show CoreSt.mirror (SMap.get _ (SMap.set _ _ c _) c) (SMap.get _ (SMap.set _ _ c _) (c + 1)) = _
    rw [SMap.get_set_same, SMap.get_set_other _ _ _ _ _ (by omega)]
    rfl
  · contradiction
theorem State.coreOf_modCore_other (s : State) (c j : Nat) (f : CoreSt → CoreSt) (h : j ≠ c)
    (hm : s.leads c = true → j ≠ c + 1) : (s.modCore c f).coreOf j = s.coreOf j := by
  unfold State.modCore
  dsimp only
  split
  · next hl => exact (SMap.get_set_other _ _ _ _ _ (hm hl)).trans (SMap.get_set_other _ _ _ _ _ h)
  · exact SMap.get_set_other _ _ _ _ _ h

@[simp] theorem State.modEng_now (s : State) (e : Nat) (f : EngSt → EngSt) : (s.modEng e f).now = s.now := rfl
@[simp] theorem State.modEng_free (s : State) (e : Nat) (f : EngSt → EngSt) : (s.modEng e f).free = s.free := rfl
@[simp] theorem State.modEng_dies (s : State) (e : Nat) (f : EngSt → EngSt) : (s.modEng e f).dies = s.dies := rfl
@[simp] theorem State.modEng_clk (s : State) (e : Nat) (f : EngSt → EngSt) : (s.modEng e f).clk = s.clk := rfl
@[simp] theorem State.modEng_csr (s : State) (e : Nat) (f : EngSt → EngSt) : (s.modEng e f).csr = s.csr := rfl
@[simp] theorem State.modEng_cfg (s : State) (e : Nat) (f : EngSt → EngSt) : (s.modEng e f).cfg = s.cfg := rfl
@[simp] theorem State.modEng_lat (s : State) (e : Nat) (f : EngSt → EngSt) : (s.modEng e f).lat = s.lat := rfl
@[simp] theorem State.modEng_sifter (s : State) (e : Nat) (f : EngSt → EngSt) : (s.modEng e f).sifter = s.sifter := rfl
@[simp] theorem State.modEng_vdg (s : State) (e : Nat) (f : EngSt → EngSt) : (s.modEng e f).vdg = s.vdg := rfl
@[simp] theorem State.modEng_time (s : State) (e : Nat) (f : EngSt → EngSt) : (s.modEng e f).time = s.time := rfl
@[simp] theorem State.modEng_pos (s : State) (e : Nat) (f : EngSt → EngSt) : (s.modEng e f).pos = s.pos := rfl
@[simp] theorem State.modEng_integ (s : State) (e : Nat) (f : EngSt → EngSt) : (s.modEng e f).integ = s.integ := rfl
@[simp] theorem State.modEng_ldg (s : State) (e : Nat) (f : EngSt → EngSt) : (s.modEng e f).ldg = s.ldg := rfl
@[simp] theorem State.modEng_core (s : State) (e : Nat) (f : EngSt → EngSt) : (s.modEng e f).core = s.core := rfl
@[simp] theorem State.modEng_trf (s : State) (e : Nat) (f : EngSt → EngSt) : (s.modEng e f).trf = s.trf := rfl
@[simp] theorem State.modEng_queue (s : State) (e : Nat) (f : EngSt → EngSt) : (s.modEng e f).queue = s.queue := rfl
@[simp] theorem State.modEng_mem (s : State) (e : Nat) (f : EngSt → EngSt) : (s.modEng e f).mem = s.mem := rfl
@[simp] theorem State.modEng_hbm (s : State) (e : Nat) (f : EngSt → EngSt) : (s.modEng e f).hbm = s.hbm := rfl
@[simp] theorem State.modEng_pool (s : State) (e : Nat) (f : EngSt → EngSt) : (s.modEng e f).pool = s.pool := rfl
@[simp] theorem State.modEng_cvu (s : State) (e : Nat) (f : EngSt → EngSt) : (s.modEng e f).cvu = s.cvu := rfl
@[simp] theorem State.modEng_crb (s : State) (e : Nat) (f : EngSt → EngSt) : (s.modEng e f).crb = s.crb := rfl
@[simp] theorem State.modEng_wdt (s : State) (e : Nat) (f : EngSt → EngSt) : (s.modEng e f).wdt = s.wdt := rfl
@[simp] theorem State.modEng_boot (s : State) (e : Nat) (f : EngSt → EngSt) : (s.modEng e f).boot = s.boot := rfl
@[simp] theorem State.modEng_cus (s : State) (e : Nat) (f : EngSt → EngSt) : (s.modEng e f).cus = s.cus := rfl
@[simp] theorem State.modEng_dbg (s : State) (e : Nat) (f : EngSt → EngSt) : (s.modEng e f).dbg = s.dbg := rfl
@[simp] theorem State.modEng_bbx (s : State) (e : Nat) (f : EngSt → EngSt) : (s.modEng e f).bbx = s.bbx := rfl
@[simp] theorem State.modEng_port (s : State) (e : Nat) (f : EngSt → EngSt) : (s.modEng e f).port = s.port := rfl
@[simp] theorem State.modEng_pending (s : State) (e : Nat) (f : EngSt → EngSt) : (s.modEng e f).pending = s.pending := rfl
@[simp] theorem State.engOf_modEng (s : State) (e : Nat) (f : EngSt → EngSt) :
    (s.modEng e f).engOf e = f (s.engOf e) := SMap.get_set_same ..
theorem State.engOf_modEng_other (s : State) (e j : Nat) (f : EngSt → EngSt) (h : j ≠ e) :
    (s.modEng e f).engOf j = s.engOf j := SMap.get_set_other _ _ _ _ _ h

@[simp] theorem State.modQueue_now (s : State) (d q : Nat) (f : QueueSt → QueueSt) : (s.modQueue d q f).now = s.now := rfl
@[simp] theorem State.modQueue_free (s : State) (d q : Nat) (f : QueueSt → QueueSt) : (s.modQueue d q f).free = s.free := rfl
@[simp] theorem State.modQueue_dies (s : State) (d q : Nat) (f : QueueSt → QueueSt) : (s.modQueue d q f).dies = s.dies := rfl
@[simp] theorem State.modQueue_clk (s : State) (d q : Nat) (f : QueueSt → QueueSt) : (s.modQueue d q f).clk = s.clk := rfl
@[simp] theorem State.modQueue_csr (s : State) (d q : Nat) (f : QueueSt → QueueSt) : (s.modQueue d q f).csr = s.csr := rfl
@[simp] theorem State.modQueue_cfg (s : State) (d q : Nat) (f : QueueSt → QueueSt) : (s.modQueue d q f).cfg = s.cfg := rfl
@[simp] theorem State.modQueue_lat (s : State) (d q : Nat) (f : QueueSt → QueueSt) : (s.modQueue d q f).lat = s.lat := rfl
@[simp] theorem State.modQueue_sifter (s : State) (d q : Nat) (f : QueueSt → QueueSt) : (s.modQueue d q f).sifter = s.sifter := rfl
@[simp] theorem State.modQueue_vdg (s : State) (d q : Nat) (f : QueueSt → QueueSt) : (s.modQueue d q f).vdg = s.vdg := rfl
@[simp] theorem State.modQueue_time (s : State) (d q : Nat) (f : QueueSt → QueueSt) : (s.modQueue d q f).time = s.time := rfl
@[simp] theorem State.modQueue_pos (s : State) (d q : Nat) (f : QueueSt → QueueSt) : (s.modQueue d q f).pos = s.pos := rfl
@[simp] theorem State.modQueue_integ (s : State) (d q : Nat) (f : QueueSt → QueueSt) : (s.modQueue d q f).integ = s.integ := rfl
@[simp] theorem State.modQueue_ldg (s : State) (d q : Nat) (f : QueueSt → QueueSt) : (s.modQueue d q f).ldg = s.ldg := rfl
@[simp] theorem State.modQueue_core (s : State) (d q : Nat) (f : QueueSt → QueueSt) : (s.modQueue d q f).core = s.core := rfl
@[simp] theorem State.modQueue_eng (s : State) (d q : Nat) (f : QueueSt → QueueSt) : (s.modQueue d q f).eng = s.eng := rfl
@[simp] theorem State.modQueue_trf (s : State) (d q : Nat) (f : QueueSt → QueueSt) : (s.modQueue d q f).trf = s.trf := rfl
@[simp] theorem State.modQueue_mem (s : State) (d q : Nat) (f : QueueSt → QueueSt) : (s.modQueue d q f).mem = s.mem := rfl
@[simp] theorem State.modQueue_hbm (s : State) (d q : Nat) (f : QueueSt → QueueSt) : (s.modQueue d q f).hbm = s.hbm := rfl
@[simp] theorem State.modQueue_pool (s : State) (d q : Nat) (f : QueueSt → QueueSt) : (s.modQueue d q f).pool = s.pool := rfl
@[simp] theorem State.modQueue_cvu (s : State) (d q : Nat) (f : QueueSt → QueueSt) : (s.modQueue d q f).cvu = s.cvu := rfl
@[simp] theorem State.modQueue_crb (s : State) (d q : Nat) (f : QueueSt → QueueSt) : (s.modQueue d q f).crb = s.crb := rfl
@[simp] theorem State.modQueue_wdt (s : State) (d q : Nat) (f : QueueSt → QueueSt) : (s.modQueue d q f).wdt = s.wdt := rfl
@[simp] theorem State.modQueue_boot (s : State) (d q : Nat) (f : QueueSt → QueueSt) : (s.modQueue d q f).boot = s.boot := rfl
@[simp] theorem State.modQueue_cus (s : State) (d q : Nat) (f : QueueSt → QueueSt) : (s.modQueue d q f).cus = s.cus := rfl
@[simp] theorem State.modQueue_dbg (s : State) (d q : Nat) (f : QueueSt → QueueSt) : (s.modQueue d q f).dbg = s.dbg := rfl
@[simp] theorem State.modQueue_bbx (s : State) (d q : Nat) (f : QueueSt → QueueSt) : (s.modQueue d q f).bbx = s.bbx := rfl
@[simp] theorem State.modQueue_port (s : State) (d q : Nat) (f : QueueSt → QueueSt) : (s.modQueue d q f).port = s.port := rfl
@[simp] theorem State.modQueue_pending (s : State) (d q : Nat) (f : QueueSt → QueueSt) : (s.modQueue d q f).pending = s.pending := rfl
@[simp] theorem State.queueOf_modQueue (s : State) (d q : Nat) (f : QueueSt → QueueSt) :
    (s.modQueue d q f).queueOf d q = f (s.queueOf d q) := SMap.get_set_same ..

@[simp] theorem State.modStack_now (s : State) (n : Nat) (f : StackSt → StackSt) : (s.modStack n f).now = s.now := rfl
@[simp] theorem State.modStack_free (s : State) (n : Nat) (f : StackSt → StackSt) : (s.modStack n f).free = s.free := rfl
@[simp] theorem State.modStack_dies (s : State) (n : Nat) (f : StackSt → StackSt) : (s.modStack n f).dies = s.dies := rfl
@[simp] theorem State.modStack_clk (s : State) (n : Nat) (f : StackSt → StackSt) : (s.modStack n f).clk = s.clk := rfl
@[simp] theorem State.modStack_csr (s : State) (n : Nat) (f : StackSt → StackSt) : (s.modStack n f).csr = s.csr := rfl
@[simp] theorem State.modStack_cfg (s : State) (n : Nat) (f : StackSt → StackSt) : (s.modStack n f).cfg = s.cfg := rfl
@[simp] theorem State.modStack_lat (s : State) (n : Nat) (f : StackSt → StackSt) : (s.modStack n f).lat = s.lat := rfl
@[simp] theorem State.modStack_sifter (s : State) (n : Nat) (f : StackSt → StackSt) : (s.modStack n f).sifter = s.sifter := rfl
@[simp] theorem State.modStack_vdg (s : State) (n : Nat) (f : StackSt → StackSt) : (s.modStack n f).vdg = s.vdg := rfl
@[simp] theorem State.modStack_time (s : State) (n : Nat) (f : StackSt → StackSt) : (s.modStack n f).time = s.time := rfl
@[simp] theorem State.modStack_pos (s : State) (n : Nat) (f : StackSt → StackSt) : (s.modStack n f).pos = s.pos := rfl
@[simp] theorem State.modStack_integ (s : State) (n : Nat) (f : StackSt → StackSt) : (s.modStack n f).integ = s.integ := rfl
@[simp] theorem State.modStack_ldg (s : State) (n : Nat) (f : StackSt → StackSt) : (s.modStack n f).ldg = s.ldg := rfl
@[simp] theorem State.modStack_core (s : State) (n : Nat) (f : StackSt → StackSt) : (s.modStack n f).core = s.core := rfl
@[simp] theorem State.modStack_eng (s : State) (n : Nat) (f : StackSt → StackSt) : (s.modStack n f).eng = s.eng := rfl
@[simp] theorem State.modStack_trf (s : State) (n : Nat) (f : StackSt → StackSt) : (s.modStack n f).trf = s.trf := rfl
@[simp] theorem State.modStack_queue (s : State) (n : Nat) (f : StackSt → StackSt) : (s.modStack n f).queue = s.queue := rfl
@[simp] theorem State.modStack_mem (s : State) (n : Nat) (f : StackSt → StackSt) : (s.modStack n f).mem = s.mem := rfl
@[simp] theorem State.modStack_pool (s : State) (n : Nat) (f : StackSt → StackSt) : (s.modStack n f).pool = s.pool := rfl
@[simp] theorem State.modStack_cvu (s : State) (n : Nat) (f : StackSt → StackSt) : (s.modStack n f).cvu = s.cvu := rfl
@[simp] theorem State.modStack_crb (s : State) (n : Nat) (f : StackSt → StackSt) : (s.modStack n f).crb = s.crb := rfl
@[simp] theorem State.modStack_wdt (s : State) (n : Nat) (f : StackSt → StackSt) : (s.modStack n f).wdt = s.wdt := rfl
@[simp] theorem State.modStack_boot (s : State) (n : Nat) (f : StackSt → StackSt) : (s.modStack n f).boot = s.boot := rfl
@[simp] theorem State.modStack_cus (s : State) (n : Nat) (f : StackSt → StackSt) : (s.modStack n f).cus = s.cus := rfl
@[simp] theorem State.modStack_dbg (s : State) (n : Nat) (f : StackSt → StackSt) : (s.modStack n f).dbg = s.dbg := rfl
@[simp] theorem State.modStack_bbx (s : State) (n : Nat) (f : StackSt → StackSt) : (s.modStack n f).bbx = s.bbx := rfl
@[simp] theorem State.modStack_port (s : State) (n : Nat) (f : StackSt → StackSt) : (s.modStack n f).port = s.port := rfl
@[simp] theorem State.modStack_pending (s : State) (n : Nat) (f : StackSt → StackSt) : (s.modStack n f).pending = s.pending := rfl
@[simp] theorem State.stackOf_modStack (s : State) (n : Nat) (f : StackSt → StackSt) :
    (s.modStack n f).stackOf n = f (s.stackOf n) := by
  unfold State.modStack State.stackOf; split <;> rfl

@[simp] theorem State.modWdt_now (s : State) (k : Nat) (f : WdtUnit → WdtUnit) : (s.modWdt k f).now = s.now := rfl
@[simp] theorem State.modWdt_free (s : State) (k : Nat) (f : WdtUnit → WdtUnit) : (s.modWdt k f).free = s.free := rfl
@[simp] theorem State.modWdt_dies (s : State) (k : Nat) (f : WdtUnit → WdtUnit) : (s.modWdt k f).dies = s.dies := rfl
@[simp] theorem State.modWdt_clk (s : State) (k : Nat) (f : WdtUnit → WdtUnit) : (s.modWdt k f).clk = s.clk := rfl
@[simp] theorem State.modWdt_csr (s : State) (k : Nat) (f : WdtUnit → WdtUnit) : (s.modWdt k f).csr = s.csr := rfl
@[simp] theorem State.modWdt_cfg (s : State) (k : Nat) (f : WdtUnit → WdtUnit) : (s.modWdt k f).cfg = s.cfg := rfl
@[simp] theorem State.modWdt_lat (s : State) (k : Nat) (f : WdtUnit → WdtUnit) : (s.modWdt k f).lat = s.lat := rfl
@[simp] theorem State.modWdt_sifter (s : State) (k : Nat) (f : WdtUnit → WdtUnit) : (s.modWdt k f).sifter = s.sifter := rfl
@[simp] theorem State.modWdt_vdg (s : State) (k : Nat) (f : WdtUnit → WdtUnit) : (s.modWdt k f).vdg = s.vdg := rfl
@[simp] theorem State.modWdt_time (s : State) (k : Nat) (f : WdtUnit → WdtUnit) : (s.modWdt k f).time = s.time := rfl
@[simp] theorem State.modWdt_pos (s : State) (k : Nat) (f : WdtUnit → WdtUnit) : (s.modWdt k f).pos = s.pos := rfl
@[simp] theorem State.modWdt_integ (s : State) (k : Nat) (f : WdtUnit → WdtUnit) : (s.modWdt k f).integ = s.integ := rfl
@[simp] theorem State.modWdt_ldg (s : State) (k : Nat) (f : WdtUnit → WdtUnit) : (s.modWdt k f).ldg = s.ldg := rfl
@[simp] theorem State.modWdt_core (s : State) (k : Nat) (f : WdtUnit → WdtUnit) : (s.modWdt k f).core = s.core := rfl
@[simp] theorem State.modWdt_eng (s : State) (k : Nat) (f : WdtUnit → WdtUnit) : (s.modWdt k f).eng = s.eng := rfl
@[simp] theorem State.modWdt_trf (s : State) (k : Nat) (f : WdtUnit → WdtUnit) : (s.modWdt k f).trf = s.trf := rfl
@[simp] theorem State.modWdt_queue (s : State) (k : Nat) (f : WdtUnit → WdtUnit) : (s.modWdt k f).queue = s.queue := rfl
@[simp] theorem State.modWdt_mem (s : State) (k : Nat) (f : WdtUnit → WdtUnit) : (s.modWdt k f).mem = s.mem := rfl
@[simp] theorem State.modWdt_hbm (s : State) (k : Nat) (f : WdtUnit → WdtUnit) : (s.modWdt k f).hbm = s.hbm := rfl
@[simp] theorem State.modWdt_pool (s : State) (k : Nat) (f : WdtUnit → WdtUnit) : (s.modWdt k f).pool = s.pool := rfl
@[simp] theorem State.modWdt_cvu (s : State) (k : Nat) (f : WdtUnit → WdtUnit) : (s.modWdt k f).cvu = s.cvu := rfl
@[simp] theorem State.modWdt_crb (s : State) (k : Nat) (f : WdtUnit → WdtUnit) : (s.modWdt k f).crb = s.crb := rfl
@[simp] theorem State.modWdt_boot (s : State) (k : Nat) (f : WdtUnit → WdtUnit) : (s.modWdt k f).boot = s.boot := rfl
@[simp] theorem State.modWdt_cus (s : State) (k : Nat) (f : WdtUnit → WdtUnit) : (s.modWdt k f).cus = s.cus := rfl
@[simp] theorem State.modWdt_dbg (s : State) (k : Nat) (f : WdtUnit → WdtUnit) : (s.modWdt k f).dbg = s.dbg := rfl
@[simp] theorem State.modWdt_bbx (s : State) (k : Nat) (f : WdtUnit → WdtUnit) : (s.modWdt k f).bbx = s.bbx := rfl
@[simp] theorem State.modWdt_port (s : State) (k : Nat) (f : WdtUnit → WdtUnit) : (s.modWdt k f).port = s.port := rfl
@[simp] theorem State.modWdt_pending (s : State) (k : Nat) (f : WdtUnit → WdtUnit) : (s.modWdt k f).pending = s.pending := rfl
@[simp] theorem State.wdtOf_modWdt (s : State) (k : Nat) (f : WdtUnit → WdtUnit) :
    (s.modWdt k f).wdtOf k = f (s.wdtOf k) := SMap.get_set_same ..
theorem State.wdtOf_modWdt_other (s : State) (k j : Nat) (f : WdtUnit → WdtUnit) (h : j ≠ k) :
    (s.modWdt k f).wdtOf j = s.wdtOf j := SMap.get_set_other _ _ _ _ _ h

@[simp] theorem State.modRx_now (s : State) (p a : Nat) (f : RxAssign → RxAssign) : (s.modRx p a f).now = s.now := rfl
@[simp] theorem State.modRx_free (s : State) (p a : Nat) (f : RxAssign → RxAssign) : (s.modRx p a f).free = s.free := rfl
@[simp] theorem State.modRx_dies (s : State) (p a : Nat) (f : RxAssign → RxAssign) : (s.modRx p a f).dies = s.dies := rfl
@[simp] theorem State.modRx_clk (s : State) (p a : Nat) (f : RxAssign → RxAssign) : (s.modRx p a f).clk = s.clk := rfl
@[simp] theorem State.modRx_csr (s : State) (p a : Nat) (f : RxAssign → RxAssign) : (s.modRx p a f).csr = s.csr := rfl
@[simp] theorem State.modRx_cfg (s : State) (p a : Nat) (f : RxAssign → RxAssign) : (s.modRx p a f).cfg = s.cfg := rfl
@[simp] theorem State.modRx_lat (s : State) (p a : Nat) (f : RxAssign → RxAssign) : (s.modRx p a f).lat = s.lat := rfl
@[simp] theorem State.modRx_sifter (s : State) (p a : Nat) (f : RxAssign → RxAssign) : (s.modRx p a f).sifter = s.sifter := rfl
@[simp] theorem State.modRx_vdg (s : State) (p a : Nat) (f : RxAssign → RxAssign) : (s.modRx p a f).vdg = s.vdg := rfl
@[simp] theorem State.modRx_time (s : State) (p a : Nat) (f : RxAssign → RxAssign) : (s.modRx p a f).time = s.time := rfl
@[simp] theorem State.modRx_pos (s : State) (p a : Nat) (f : RxAssign → RxAssign) : (s.modRx p a f).pos = s.pos := rfl
@[simp] theorem State.modRx_integ (s : State) (p a : Nat) (f : RxAssign → RxAssign) : (s.modRx p a f).integ = s.integ := rfl
@[simp] theorem State.modRx_ldg (s : State) (p a : Nat) (f : RxAssign → RxAssign) : (s.modRx p a f).ldg = s.ldg := rfl
@[simp] theorem State.modRx_core (s : State) (p a : Nat) (f : RxAssign → RxAssign) : (s.modRx p a f).core = s.core := rfl
@[simp] theorem State.modRx_eng (s : State) (p a : Nat) (f : RxAssign → RxAssign) : (s.modRx p a f).eng = s.eng := rfl
@[simp] theorem State.modRx_trf (s : State) (p a : Nat) (f : RxAssign → RxAssign) : (s.modRx p a f).trf = s.trf := rfl
@[simp] theorem State.modRx_queue (s : State) (p a : Nat) (f : RxAssign → RxAssign) : (s.modRx p a f).queue = s.queue := rfl
@[simp] theorem State.modRx_mem (s : State) (p a : Nat) (f : RxAssign → RxAssign) : (s.modRx p a f).mem = s.mem := rfl
@[simp] theorem State.modRx_hbm (s : State) (p a : Nat) (f : RxAssign → RxAssign) : (s.modRx p a f).hbm = s.hbm := rfl
@[simp] theorem State.modRx_pool (s : State) (p a : Nat) (f : RxAssign → RxAssign) : (s.modRx p a f).pool = s.pool := rfl
@[simp] theorem State.modRx_crb (s : State) (p a : Nat) (f : RxAssign → RxAssign) : (s.modRx p a f).crb = s.crb := rfl
@[simp] theorem State.modRx_wdt (s : State) (p a : Nat) (f : RxAssign → RxAssign) : (s.modRx p a f).wdt = s.wdt := rfl
@[simp] theorem State.modRx_boot (s : State) (p a : Nat) (f : RxAssign → RxAssign) : (s.modRx p a f).boot = s.boot := rfl
@[simp] theorem State.modRx_cus (s : State) (p a : Nat) (f : RxAssign → RxAssign) : (s.modRx p a f).cus = s.cus := rfl
@[simp] theorem State.modRx_dbg (s : State) (p a : Nat) (f : RxAssign → RxAssign) : (s.modRx p a f).dbg = s.dbg := rfl
@[simp] theorem State.modRx_bbx (s : State) (p a : Nat) (f : RxAssign → RxAssign) : (s.modRx p a f).bbx = s.bbx := rfl
@[simp] theorem State.modRx_port (s : State) (p a : Nat) (f : RxAssign → RxAssign) : (s.modRx p a f).port = s.port := rfl
@[simp] theorem State.modRx_pending (s : State) (p a : Nat) (f : RxAssign → RxAssign) : (s.modRx p a f).pending = s.pending := rfl
@[simp] theorem State.rxOf_modRx (s : State) (p a : Nat) (f : RxAssign → RxAssign) :
    (s.modRx p a f).rxOf p a = f (s.rxOf p a) := SMap.get_set_same ..

@[simp] theorem State.modTx_now (s : State) (p a : Nat) (f : TxAssign → TxAssign) : (s.modTx p a f).now = s.now := rfl
@[simp] theorem State.modTx_free (s : State) (p a : Nat) (f : TxAssign → TxAssign) : (s.modTx p a f).free = s.free := rfl
@[simp] theorem State.modTx_dies (s : State) (p a : Nat) (f : TxAssign → TxAssign) : (s.modTx p a f).dies = s.dies := rfl
@[simp] theorem State.modTx_clk (s : State) (p a : Nat) (f : TxAssign → TxAssign) : (s.modTx p a f).clk = s.clk := rfl
@[simp] theorem State.modTx_csr (s : State) (p a : Nat) (f : TxAssign → TxAssign) : (s.modTx p a f).csr = s.csr := rfl
@[simp] theorem State.modTx_cfg (s : State) (p a : Nat) (f : TxAssign → TxAssign) : (s.modTx p a f).cfg = s.cfg := rfl
@[simp] theorem State.modTx_lat (s : State) (p a : Nat) (f : TxAssign → TxAssign) : (s.modTx p a f).lat = s.lat := rfl
@[simp] theorem State.modTx_sifter (s : State) (p a : Nat) (f : TxAssign → TxAssign) : (s.modTx p a f).sifter = s.sifter := rfl
@[simp] theorem State.modTx_vdg (s : State) (p a : Nat) (f : TxAssign → TxAssign) : (s.modTx p a f).vdg = s.vdg := rfl
@[simp] theorem State.modTx_time (s : State) (p a : Nat) (f : TxAssign → TxAssign) : (s.modTx p a f).time = s.time := rfl
@[simp] theorem State.modTx_pos (s : State) (p a : Nat) (f : TxAssign → TxAssign) : (s.modTx p a f).pos = s.pos := rfl
@[simp] theorem State.modTx_integ (s : State) (p a : Nat) (f : TxAssign → TxAssign) : (s.modTx p a f).integ = s.integ := rfl
@[simp] theorem State.modTx_ldg (s : State) (p a : Nat) (f : TxAssign → TxAssign) : (s.modTx p a f).ldg = s.ldg := rfl
@[simp] theorem State.modTx_core (s : State) (p a : Nat) (f : TxAssign → TxAssign) : (s.modTx p a f).core = s.core := rfl
@[simp] theorem State.modTx_eng (s : State) (p a : Nat) (f : TxAssign → TxAssign) : (s.modTx p a f).eng = s.eng := rfl
@[simp] theorem State.modTx_trf (s : State) (p a : Nat) (f : TxAssign → TxAssign) : (s.modTx p a f).trf = s.trf := rfl
@[simp] theorem State.modTx_queue (s : State) (p a : Nat) (f : TxAssign → TxAssign) : (s.modTx p a f).queue = s.queue := rfl
@[simp] theorem State.modTx_mem (s : State) (p a : Nat) (f : TxAssign → TxAssign) : (s.modTx p a f).mem = s.mem := rfl
@[simp] theorem State.modTx_hbm (s : State) (p a : Nat) (f : TxAssign → TxAssign) : (s.modTx p a f).hbm = s.hbm := rfl
@[simp] theorem State.modTx_pool (s : State) (p a : Nat) (f : TxAssign → TxAssign) : (s.modTx p a f).pool = s.pool := rfl
@[simp] theorem State.modTx_crb (s : State) (p a : Nat) (f : TxAssign → TxAssign) : (s.modTx p a f).crb = s.crb := rfl
@[simp] theorem State.modTx_wdt (s : State) (p a : Nat) (f : TxAssign → TxAssign) : (s.modTx p a f).wdt = s.wdt := rfl
@[simp] theorem State.modTx_boot (s : State) (p a : Nat) (f : TxAssign → TxAssign) : (s.modTx p a f).boot = s.boot := rfl
@[simp] theorem State.modTx_cus (s : State) (p a : Nat) (f : TxAssign → TxAssign) : (s.modTx p a f).cus = s.cus := rfl
@[simp] theorem State.modTx_dbg (s : State) (p a : Nat) (f : TxAssign → TxAssign) : (s.modTx p a f).dbg = s.dbg := rfl
@[simp] theorem State.modTx_bbx (s : State) (p a : Nat) (f : TxAssign → TxAssign) : (s.modTx p a f).bbx = s.bbx := rfl
@[simp] theorem State.modTx_port (s : State) (p a : Nat) (f : TxAssign → TxAssign) : (s.modTx p a f).port = s.port := rfl
@[simp] theorem State.modTx_pending (s : State) (p a : Nat) (f : TxAssign → TxAssign) : (s.modTx p a f).pending = s.pending := rfl
@[simp] theorem State.txOf_modTx (s : State) (p a : Nat) (f : TxAssign → TxAssign) :
    (s.modTx p a f).txOf p a = f (s.txOf p a) := SMap.get_set_same ..

@[simp] theorem State.modPdie_now (s : State) (p : Nat) (f : PortDieSt → PortDieSt) : (s.modPdie p f).now = s.now := rfl
@[simp] theorem State.modPdie_free (s : State) (p : Nat) (f : PortDieSt → PortDieSt) : (s.modPdie p f).free = s.free := rfl
@[simp] theorem State.modPdie_dies (s : State) (p : Nat) (f : PortDieSt → PortDieSt) : (s.modPdie p f).dies = s.dies := rfl
@[simp] theorem State.modPdie_clk (s : State) (p : Nat) (f : PortDieSt → PortDieSt) : (s.modPdie p f).clk = s.clk := rfl
@[simp] theorem State.modPdie_csr (s : State) (p : Nat) (f : PortDieSt → PortDieSt) : (s.modPdie p f).csr = s.csr := rfl
@[simp] theorem State.modPdie_cfg (s : State) (p : Nat) (f : PortDieSt → PortDieSt) : (s.modPdie p f).cfg = s.cfg := rfl
@[simp] theorem State.modPdie_lat (s : State) (p : Nat) (f : PortDieSt → PortDieSt) : (s.modPdie p f).lat = s.lat := rfl
@[simp] theorem State.modPdie_sifter (s : State) (p : Nat) (f : PortDieSt → PortDieSt) : (s.modPdie p f).sifter = s.sifter := rfl
@[simp] theorem State.modPdie_vdg (s : State) (p : Nat) (f : PortDieSt → PortDieSt) : (s.modPdie p f).vdg = s.vdg := rfl
@[simp] theorem State.modPdie_time (s : State) (p : Nat) (f : PortDieSt → PortDieSt) : (s.modPdie p f).time = s.time := rfl
@[simp] theorem State.modPdie_pos (s : State) (p : Nat) (f : PortDieSt → PortDieSt) : (s.modPdie p f).pos = s.pos := rfl
@[simp] theorem State.modPdie_integ (s : State) (p : Nat) (f : PortDieSt → PortDieSt) : (s.modPdie p f).integ = s.integ := rfl
@[simp] theorem State.modPdie_ldg (s : State) (p : Nat) (f : PortDieSt → PortDieSt) : (s.modPdie p f).ldg = s.ldg := rfl
@[simp] theorem State.modPdie_core (s : State) (p : Nat) (f : PortDieSt → PortDieSt) : (s.modPdie p f).core = s.core := rfl
@[simp] theorem State.modPdie_eng (s : State) (p : Nat) (f : PortDieSt → PortDieSt) : (s.modPdie p f).eng = s.eng := rfl
@[simp] theorem State.modPdie_trf (s : State) (p : Nat) (f : PortDieSt → PortDieSt) : (s.modPdie p f).trf = s.trf := rfl
@[simp] theorem State.modPdie_queue (s : State) (p : Nat) (f : PortDieSt → PortDieSt) : (s.modPdie p f).queue = s.queue := rfl
@[simp] theorem State.modPdie_mem (s : State) (p : Nat) (f : PortDieSt → PortDieSt) : (s.modPdie p f).mem = s.mem := rfl
@[simp] theorem State.modPdie_hbm (s : State) (p : Nat) (f : PortDieSt → PortDieSt) : (s.modPdie p f).hbm = s.hbm := rfl
@[simp] theorem State.modPdie_pool (s : State) (p : Nat) (f : PortDieSt → PortDieSt) : (s.modPdie p f).pool = s.pool := rfl
@[simp] theorem State.modPdie_cvu (s : State) (p : Nat) (f : PortDieSt → PortDieSt) : (s.modPdie p f).cvu = s.cvu := rfl
@[simp] theorem State.modPdie_crb (s : State) (p : Nat) (f : PortDieSt → PortDieSt) : (s.modPdie p f).crb = s.crb := rfl
@[simp] theorem State.modPdie_wdt (s : State) (p : Nat) (f : PortDieSt → PortDieSt) : (s.modPdie p f).wdt = s.wdt := rfl
@[simp] theorem State.modPdie_boot (s : State) (p : Nat) (f : PortDieSt → PortDieSt) : (s.modPdie p f).boot = s.boot := rfl
@[simp] theorem State.modPdie_cus (s : State) (p : Nat) (f : PortDieSt → PortDieSt) : (s.modPdie p f).cus = s.cus := rfl
@[simp] theorem State.modPdie_dbg (s : State) (p : Nat) (f : PortDieSt → PortDieSt) : (s.modPdie p f).dbg = s.dbg := rfl
@[simp] theorem State.modPdie_bbx (s : State) (p : Nat) (f : PortDieSt → PortDieSt) : (s.modPdie p f).bbx = s.bbx := rfl
@[simp] theorem State.modPdie_pending (s : State) (p : Nat) (f : PortDieSt → PortDieSt) : (s.modPdie p f).pending = s.pending := rfl
@[simp] theorem State.pdie_modPdie (s : State) (p : Nat) (f : PortDieSt → PortDieSt) :
    (s.modPdie p f).pdie p = f (s.pdie p) := SMap.get_set_same ..
theorem State.pdie_modPdie_other (s : State) (p j : Nat) (f : PortDieSt → PortDieSt) (h : j ≠ p) :
    (s.modPdie p f).pdie j = s.pdie j := SMap.get_set_other _ _ _ _ _ h

@[simp] theorem State.modEth_now (s : State) (p k : Nat) (f : EthPort → EthPort) : (s.modEth p k f).now = s.now := rfl
@[simp] theorem State.modEth_free (s : State) (p k : Nat) (f : EthPort → EthPort) : (s.modEth p k f).free = s.free := rfl
@[simp] theorem State.modEth_dies (s : State) (p k : Nat) (f : EthPort → EthPort) : (s.modEth p k f).dies = s.dies := rfl
@[simp] theorem State.modEth_clk (s : State) (p k : Nat) (f : EthPort → EthPort) : (s.modEth p k f).clk = s.clk := rfl
@[simp] theorem State.modEth_csr (s : State) (p k : Nat) (f : EthPort → EthPort) : (s.modEth p k f).csr = s.csr := rfl
@[simp] theorem State.modEth_cfg (s : State) (p k : Nat) (f : EthPort → EthPort) : (s.modEth p k f).cfg = s.cfg := rfl
@[simp] theorem State.modEth_lat (s : State) (p k : Nat) (f : EthPort → EthPort) : (s.modEth p k f).lat = s.lat := rfl
@[simp] theorem State.modEth_sifter (s : State) (p k : Nat) (f : EthPort → EthPort) : (s.modEth p k f).sifter = s.sifter := rfl
@[simp] theorem State.modEth_vdg (s : State) (p k : Nat) (f : EthPort → EthPort) : (s.modEth p k f).vdg = s.vdg := rfl
@[simp] theorem State.modEth_time (s : State) (p k : Nat) (f : EthPort → EthPort) : (s.modEth p k f).time = s.time := rfl
@[simp] theorem State.modEth_pos (s : State) (p k : Nat) (f : EthPort → EthPort) : (s.modEth p k f).pos = s.pos := rfl
@[simp] theorem State.modEth_integ (s : State) (p k : Nat) (f : EthPort → EthPort) : (s.modEth p k f).integ = s.integ := rfl
@[simp] theorem State.modEth_ldg (s : State) (p k : Nat) (f : EthPort → EthPort) : (s.modEth p k f).ldg = s.ldg := rfl
@[simp] theorem State.modEth_core (s : State) (p k : Nat) (f : EthPort → EthPort) : (s.modEth p k f).core = s.core := rfl
@[simp] theorem State.modEth_eng (s : State) (p k : Nat) (f : EthPort → EthPort) : (s.modEth p k f).eng = s.eng := rfl
@[simp] theorem State.modEth_trf (s : State) (p k : Nat) (f : EthPort → EthPort) : (s.modEth p k f).trf = s.trf := rfl
@[simp] theorem State.modEth_queue (s : State) (p k : Nat) (f : EthPort → EthPort) : (s.modEth p k f).queue = s.queue := rfl
@[simp] theorem State.modEth_mem (s : State) (p k : Nat) (f : EthPort → EthPort) : (s.modEth p k f).mem = s.mem := rfl
@[simp] theorem State.modEth_hbm (s : State) (p k : Nat) (f : EthPort → EthPort) : (s.modEth p k f).hbm = s.hbm := rfl
@[simp] theorem State.modEth_pool (s : State) (p k : Nat) (f : EthPort → EthPort) : (s.modEth p k f).pool = s.pool := rfl
@[simp] theorem State.modEth_cvu (s : State) (p k : Nat) (f : EthPort → EthPort) : (s.modEth p k f).cvu = s.cvu := rfl
@[simp] theorem State.modEth_crb (s : State) (p k : Nat) (f : EthPort → EthPort) : (s.modEth p k f).crb = s.crb := rfl
@[simp] theorem State.modEth_wdt (s : State) (p k : Nat) (f : EthPort → EthPort) : (s.modEth p k f).wdt = s.wdt := rfl
@[simp] theorem State.modEth_boot (s : State) (p k : Nat) (f : EthPort → EthPort) : (s.modEth p k f).boot = s.boot := rfl
@[simp] theorem State.modEth_cus (s : State) (p k : Nat) (f : EthPort → EthPort) : (s.modEth p k f).cus = s.cus := rfl
@[simp] theorem State.modEth_dbg (s : State) (p k : Nat) (f : EthPort → EthPort) : (s.modEth p k f).dbg = s.dbg := rfl
@[simp] theorem State.modEth_bbx (s : State) (p k : Nat) (f : EthPort → EthPort) : (s.modEth p k f).bbx = s.bbx := rfl
@[simp] theorem State.modEth_pending (s : State) (p k : Nat) (f : EthPort → EthPort) : (s.modEth p k f).pending = s.pending := rfl
@[simp] theorem State.ethOf_modEth (s : State) (p k : Nat) (f : EthPort → EthPort) :
    (s.modEth p k f).ethOf p k = f (s.ethOf p k) := SMap.get_set_same ..

@[simp] theorem State.modCan_now (s : State) (p k : Nat) (f : CanSt → CanSt) : (s.modCan p k f).now = s.now := rfl
@[simp] theorem State.modCan_free (s : State) (p k : Nat) (f : CanSt → CanSt) : (s.modCan p k f).free = s.free := rfl
@[simp] theorem State.modCan_dies (s : State) (p k : Nat) (f : CanSt → CanSt) : (s.modCan p k f).dies = s.dies := rfl
@[simp] theorem State.modCan_clk (s : State) (p k : Nat) (f : CanSt → CanSt) : (s.modCan p k f).clk = s.clk := rfl
@[simp] theorem State.modCan_csr (s : State) (p k : Nat) (f : CanSt → CanSt) : (s.modCan p k f).csr = s.csr := rfl
@[simp] theorem State.modCan_cfg (s : State) (p k : Nat) (f : CanSt → CanSt) : (s.modCan p k f).cfg = s.cfg := rfl
@[simp] theorem State.modCan_lat (s : State) (p k : Nat) (f : CanSt → CanSt) : (s.modCan p k f).lat = s.lat := rfl
@[simp] theorem State.modCan_sifter (s : State) (p k : Nat) (f : CanSt → CanSt) : (s.modCan p k f).sifter = s.sifter := rfl
@[simp] theorem State.modCan_vdg (s : State) (p k : Nat) (f : CanSt → CanSt) : (s.modCan p k f).vdg = s.vdg := rfl
@[simp] theorem State.modCan_time (s : State) (p k : Nat) (f : CanSt → CanSt) : (s.modCan p k f).time = s.time := rfl
@[simp] theorem State.modCan_pos (s : State) (p k : Nat) (f : CanSt → CanSt) : (s.modCan p k f).pos = s.pos := rfl
@[simp] theorem State.modCan_integ (s : State) (p k : Nat) (f : CanSt → CanSt) : (s.modCan p k f).integ = s.integ := rfl
@[simp] theorem State.modCan_ldg (s : State) (p k : Nat) (f : CanSt → CanSt) : (s.modCan p k f).ldg = s.ldg := rfl
@[simp] theorem State.modCan_core (s : State) (p k : Nat) (f : CanSt → CanSt) : (s.modCan p k f).core = s.core := rfl
@[simp] theorem State.modCan_eng (s : State) (p k : Nat) (f : CanSt → CanSt) : (s.modCan p k f).eng = s.eng := rfl
@[simp] theorem State.modCan_trf (s : State) (p k : Nat) (f : CanSt → CanSt) : (s.modCan p k f).trf = s.trf := rfl
@[simp] theorem State.modCan_queue (s : State) (p k : Nat) (f : CanSt → CanSt) : (s.modCan p k f).queue = s.queue := rfl
@[simp] theorem State.modCan_mem (s : State) (p k : Nat) (f : CanSt → CanSt) : (s.modCan p k f).mem = s.mem := rfl
@[simp] theorem State.modCan_hbm (s : State) (p k : Nat) (f : CanSt → CanSt) : (s.modCan p k f).hbm = s.hbm := rfl
@[simp] theorem State.modCan_pool (s : State) (p k : Nat) (f : CanSt → CanSt) : (s.modCan p k f).pool = s.pool := rfl
@[simp] theorem State.modCan_cvu (s : State) (p k : Nat) (f : CanSt → CanSt) : (s.modCan p k f).cvu = s.cvu := rfl
@[simp] theorem State.modCan_crb (s : State) (p k : Nat) (f : CanSt → CanSt) : (s.modCan p k f).crb = s.crb := rfl
@[simp] theorem State.modCan_wdt (s : State) (p k : Nat) (f : CanSt → CanSt) : (s.modCan p k f).wdt = s.wdt := rfl
@[simp] theorem State.modCan_boot (s : State) (p k : Nat) (f : CanSt → CanSt) : (s.modCan p k f).boot = s.boot := rfl
@[simp] theorem State.modCan_cus (s : State) (p k : Nat) (f : CanSt → CanSt) : (s.modCan p k f).cus = s.cus := rfl
@[simp] theorem State.modCan_dbg (s : State) (p k : Nat) (f : CanSt → CanSt) : (s.modCan p k f).dbg = s.dbg := rfl
@[simp] theorem State.modCan_bbx (s : State) (p k : Nat) (f : CanSt → CanSt) : (s.modCan p k f).bbx = s.bbx := rfl
@[simp] theorem State.modCan_pending (s : State) (p k : Nat) (f : CanSt → CanSt) : (s.modCan p k f).pending = s.pending := rfl
@[simp] theorem State.canOf_modCan (s : State) (p k : Nat) (f : CanSt → CanSt) :
    (s.modCan p k f).canOf p k = f (s.canOf p k) := SMap.get_set_same ..

@[simp] theorem State.modCard_now (s : State) (n : Nat) (f : CardSt → CardSt) : (s.modCard n f).now = s.now := rfl
@[simp] theorem State.modCard_free (s : State) (n : Nat) (f : CardSt → CardSt) : (s.modCard n f).free = s.free := rfl
@[simp] theorem State.modCard_dies (s : State) (n : Nat) (f : CardSt → CardSt) : (s.modCard n f).dies = s.dies := rfl
@[simp] theorem State.modCard_clk (s : State) (n : Nat) (f : CardSt → CardSt) : (s.modCard n f).clk = s.clk := rfl
@[simp] theorem State.modCard_csr (s : State) (n : Nat) (f : CardSt → CardSt) : (s.modCard n f).csr = s.csr := rfl
@[simp] theorem State.modCard_cfg (s : State) (n : Nat) (f : CardSt → CardSt) : (s.modCard n f).cfg = s.cfg := rfl
@[simp] theorem State.modCard_lat (s : State) (n : Nat) (f : CardSt → CardSt) : (s.modCard n f).lat = s.lat := rfl
@[simp] theorem State.modCard_sifter (s : State) (n : Nat) (f : CardSt → CardSt) : (s.modCard n f).sifter = s.sifter := rfl
@[simp] theorem State.modCard_vdg (s : State) (n : Nat) (f : CardSt → CardSt) : (s.modCard n f).vdg = s.vdg := rfl
@[simp] theorem State.modCard_time (s : State) (n : Nat) (f : CardSt → CardSt) : (s.modCard n f).time = s.time := rfl
@[simp] theorem State.modCard_pos (s : State) (n : Nat) (f : CardSt → CardSt) : (s.modCard n f).pos = s.pos := rfl
@[simp] theorem State.modCard_integ (s : State) (n : Nat) (f : CardSt → CardSt) : (s.modCard n f).integ = s.integ := rfl
@[simp] theorem State.modCard_ldg (s : State) (n : Nat) (f : CardSt → CardSt) : (s.modCard n f).ldg = s.ldg := rfl
@[simp] theorem State.modCard_core (s : State) (n : Nat) (f : CardSt → CardSt) : (s.modCard n f).core = s.core := rfl
@[simp] theorem State.modCard_eng (s : State) (n : Nat) (f : CardSt → CardSt) : (s.modCard n f).eng = s.eng := rfl
@[simp] theorem State.modCard_trf (s : State) (n : Nat) (f : CardSt → CardSt) : (s.modCard n f).trf = s.trf := rfl
@[simp] theorem State.modCard_queue (s : State) (n : Nat) (f : CardSt → CardSt) : (s.modCard n f).queue = s.queue := rfl
@[simp] theorem State.modCard_mem (s : State) (n : Nat) (f : CardSt → CardSt) : (s.modCard n f).mem = s.mem := rfl
@[simp] theorem State.modCard_hbm (s : State) (n : Nat) (f : CardSt → CardSt) : (s.modCard n f).hbm = s.hbm := rfl
@[simp] theorem State.modCard_pool (s : State) (n : Nat) (f : CardSt → CardSt) : (s.modCard n f).pool = s.pool := rfl
@[simp] theorem State.modCard_cvu (s : State) (n : Nat) (f : CardSt → CardSt) : (s.modCard n f).cvu = s.cvu := rfl
@[simp] theorem State.modCard_crb (s : State) (n : Nat) (f : CardSt → CardSt) : (s.modCard n f).crb = s.crb := rfl
@[simp] theorem State.modCard_wdt (s : State) (n : Nat) (f : CardSt → CardSt) : (s.modCard n f).wdt = s.wdt := rfl
@[simp] theorem State.modCard_boot (s : State) (n : Nat) (f : CardSt → CardSt) : (s.modCard n f).boot = s.boot := rfl
@[simp] theorem State.modCard_cus (s : State) (n : Nat) (f : CardSt → CardSt) : (s.modCard n f).cus = s.cus := rfl
@[simp] theorem State.modCard_dbg (s : State) (n : Nat) (f : CardSt → CardSt) : (s.modCard n f).dbg = s.dbg := rfl
@[simp] theorem State.modCard_bbx (s : State) (n : Nat) (f : CardSt → CardSt) : (s.modCard n f).bbx = s.bbx := rfl
@[simp] theorem State.modCard_pending (s : State) (n : Nat) (f : CardSt → CardSt) : (s.modCard n f).pending = s.pending := rfl
@[simp] theorem State.cardOf_modCard (s : State) (n : Nat) (f : CardSt → CardSt) :
    (s.modCard n f).cardOf n = f (s.cardOf n) := SMap.get_set_same ..
theorem State.cardOf_modCard_other (s : State) (n j : Nat) (f : CardSt → CardSt) (h : j ≠ n) :
    (s.modCard n f).cardOf j = s.cardOf j := SMap.get_set_other _ _ _ _ _ h

@[simp] theorem State.modSpi_now (s : State) (n : Nat) (f : SpiSt → SpiSt) : (s.modSpi n f).now = s.now := rfl
@[simp] theorem State.modSpi_free (s : State) (n : Nat) (f : SpiSt → SpiSt) : (s.modSpi n f).free = s.free := rfl
@[simp] theorem State.modSpi_dies (s : State) (n : Nat) (f : SpiSt → SpiSt) : (s.modSpi n f).dies = s.dies := rfl
@[simp] theorem State.modSpi_clk (s : State) (n : Nat) (f : SpiSt → SpiSt) : (s.modSpi n f).clk = s.clk := rfl
@[simp] theorem State.modSpi_csr (s : State) (n : Nat) (f : SpiSt → SpiSt) : (s.modSpi n f).csr = s.csr := rfl
@[simp] theorem State.modSpi_cfg (s : State) (n : Nat) (f : SpiSt → SpiSt) : (s.modSpi n f).cfg = s.cfg := rfl
@[simp] theorem State.modSpi_lat (s : State) (n : Nat) (f : SpiSt → SpiSt) : (s.modSpi n f).lat = s.lat := rfl
@[simp] theorem State.modSpi_sifter (s : State) (n : Nat) (f : SpiSt → SpiSt) : (s.modSpi n f).sifter = s.sifter := rfl
@[simp] theorem State.modSpi_vdg (s : State) (n : Nat) (f : SpiSt → SpiSt) : (s.modSpi n f).vdg = s.vdg := rfl
@[simp] theorem State.modSpi_time (s : State) (n : Nat) (f : SpiSt → SpiSt) : (s.modSpi n f).time = s.time := rfl
@[simp] theorem State.modSpi_pos (s : State) (n : Nat) (f : SpiSt → SpiSt) : (s.modSpi n f).pos = s.pos := rfl
@[simp] theorem State.modSpi_integ (s : State) (n : Nat) (f : SpiSt → SpiSt) : (s.modSpi n f).integ = s.integ := rfl
@[simp] theorem State.modSpi_ldg (s : State) (n : Nat) (f : SpiSt → SpiSt) : (s.modSpi n f).ldg = s.ldg := rfl
@[simp] theorem State.modSpi_core (s : State) (n : Nat) (f : SpiSt → SpiSt) : (s.modSpi n f).core = s.core := rfl
@[simp] theorem State.modSpi_eng (s : State) (n : Nat) (f : SpiSt → SpiSt) : (s.modSpi n f).eng = s.eng := rfl
@[simp] theorem State.modSpi_trf (s : State) (n : Nat) (f : SpiSt → SpiSt) : (s.modSpi n f).trf = s.trf := rfl
@[simp] theorem State.modSpi_queue (s : State) (n : Nat) (f : SpiSt → SpiSt) : (s.modSpi n f).queue = s.queue := rfl
@[simp] theorem State.modSpi_mem (s : State) (n : Nat) (f : SpiSt → SpiSt) : (s.modSpi n f).mem = s.mem := rfl
@[simp] theorem State.modSpi_hbm (s : State) (n : Nat) (f : SpiSt → SpiSt) : (s.modSpi n f).hbm = s.hbm := rfl
@[simp] theorem State.modSpi_pool (s : State) (n : Nat) (f : SpiSt → SpiSt) : (s.modSpi n f).pool = s.pool := rfl
@[simp] theorem State.modSpi_cvu (s : State) (n : Nat) (f : SpiSt → SpiSt) : (s.modSpi n f).cvu = s.cvu := rfl
@[simp] theorem State.modSpi_crb (s : State) (n : Nat) (f : SpiSt → SpiSt) : (s.modSpi n f).crb = s.crb := rfl
@[simp] theorem State.modSpi_wdt (s : State) (n : Nat) (f : SpiSt → SpiSt) : (s.modSpi n f).wdt = s.wdt := rfl
@[simp] theorem State.modSpi_boot (s : State) (n : Nat) (f : SpiSt → SpiSt) : (s.modSpi n f).boot = s.boot := rfl
@[simp] theorem State.modSpi_cus (s : State) (n : Nat) (f : SpiSt → SpiSt) : (s.modSpi n f).cus = s.cus := rfl
@[simp] theorem State.modSpi_dbg (s : State) (n : Nat) (f : SpiSt → SpiSt) : (s.modSpi n f).dbg = s.dbg := rfl
@[simp] theorem State.modSpi_bbx (s : State) (n : Nat) (f : SpiSt → SpiSt) : (s.modSpi n f).bbx = s.bbx := rfl
@[simp] theorem State.modSpi_pending (s : State) (n : Nat) (f : SpiSt → SpiSt) : (s.modSpi n f).pending = s.pending := rfl
@[simp] theorem State.spiOf_modSpi (s : State) (n : Nat) (f : SpiSt → SpiSt) :
    (s.modSpi n f).spiOf n = f (s.spiOf n) := SMap.get_set_same ..
theorem State.spiOf_modSpi_other (s : State) (n j : Nat) (f : SpiSt → SpiSt) (h : j ≠ n) :
    (s.modSpi n f).spiOf j = s.spiOf j := SMap.get_set_other _ _ _ _ _ h

@[simp] theorem State.modProd_now (s : State) (n : Nat) (f : ProdSt → ProdSt) : (s.modProd n f).now = s.now := rfl
@[simp] theorem State.modProd_free (s : State) (n : Nat) (f : ProdSt → ProdSt) : (s.modProd n f).free = s.free := rfl
@[simp] theorem State.modProd_dies (s : State) (n : Nat) (f : ProdSt → ProdSt) : (s.modProd n f).dies = s.dies := rfl
@[simp] theorem State.modProd_clk (s : State) (n : Nat) (f : ProdSt → ProdSt) : (s.modProd n f).clk = s.clk := rfl
@[simp] theorem State.modProd_csr (s : State) (n : Nat) (f : ProdSt → ProdSt) : (s.modProd n f).csr = s.csr := rfl
@[simp] theorem State.modProd_cfg (s : State) (n : Nat) (f : ProdSt → ProdSt) : (s.modProd n f).cfg = s.cfg := rfl
@[simp] theorem State.modProd_lat (s : State) (n : Nat) (f : ProdSt → ProdSt) : (s.modProd n f).lat = s.lat := rfl
@[simp] theorem State.modProd_sifter (s : State) (n : Nat) (f : ProdSt → ProdSt) : (s.modProd n f).sifter = s.sifter := rfl
@[simp] theorem State.modProd_time (s : State) (n : Nat) (f : ProdSt → ProdSt) : (s.modProd n f).time = s.time := rfl
@[simp] theorem State.modProd_pos (s : State) (n : Nat) (f : ProdSt → ProdSt) : (s.modProd n f).pos = s.pos := rfl
@[simp] theorem State.modProd_integ (s : State) (n : Nat) (f : ProdSt → ProdSt) : (s.modProd n f).integ = s.integ := rfl
@[simp] theorem State.modProd_ldg (s : State) (n : Nat) (f : ProdSt → ProdSt) : (s.modProd n f).ldg = s.ldg := rfl
@[simp] theorem State.modProd_core (s : State) (n : Nat) (f : ProdSt → ProdSt) : (s.modProd n f).core = s.core := rfl
@[simp] theorem State.modProd_eng (s : State) (n : Nat) (f : ProdSt → ProdSt) : (s.modProd n f).eng = s.eng := rfl
@[simp] theorem State.modProd_trf (s : State) (n : Nat) (f : ProdSt → ProdSt) : (s.modProd n f).trf = s.trf := rfl
@[simp] theorem State.modProd_queue (s : State) (n : Nat) (f : ProdSt → ProdSt) : (s.modProd n f).queue = s.queue := rfl
@[simp] theorem State.modProd_mem (s : State) (n : Nat) (f : ProdSt → ProdSt) : (s.modProd n f).mem = s.mem := rfl
@[simp] theorem State.modProd_hbm (s : State) (n : Nat) (f : ProdSt → ProdSt) : (s.modProd n f).hbm = s.hbm := rfl
@[simp] theorem State.modProd_pool (s : State) (n : Nat) (f : ProdSt → ProdSt) : (s.modProd n f).pool = s.pool := rfl
@[simp] theorem State.modProd_cvu (s : State) (n : Nat) (f : ProdSt → ProdSt) : (s.modProd n f).cvu = s.cvu := rfl
@[simp] theorem State.modProd_crb (s : State) (n : Nat) (f : ProdSt → ProdSt) : (s.modProd n f).crb = s.crb := rfl
@[simp] theorem State.modProd_wdt (s : State) (n : Nat) (f : ProdSt → ProdSt) : (s.modProd n f).wdt = s.wdt := rfl
@[simp] theorem State.modProd_boot (s : State) (n : Nat) (f : ProdSt → ProdSt) : (s.modProd n f).boot = s.boot := rfl
@[simp] theorem State.modProd_cus (s : State) (n : Nat) (f : ProdSt → ProdSt) : (s.modProd n f).cus = s.cus := rfl
@[simp] theorem State.modProd_dbg (s : State) (n : Nat) (f : ProdSt → ProdSt) : (s.modProd n f).dbg = s.dbg := rfl
@[simp] theorem State.modProd_bbx (s : State) (n : Nat) (f : ProdSt → ProdSt) : (s.modProd n f).bbx = s.bbx := rfl
@[simp] theorem State.modProd_port (s : State) (n : Nat) (f : ProdSt → ProdSt) : (s.modProd n f).port = s.port := rfl
@[simp] theorem State.modProd_pending (s : State) (n : Nat) (f : ProdSt → ProdSt) : (s.modProd n f).pending = s.pending := rfl
@[simp] theorem State.prodOf_modProd (s : State) (n : Nat) (f : ProdSt → ProdSt) :
    (s.modProd n f).prodOf n = f (s.prodOf n) := SMap.get_set_same ..
theorem State.prodOf_modProd_other (s : State) (n j : Nat) (f : ProdSt → ProdSt) (h : j ≠ n) :
    (s.modProd n f).prodOf j = s.prodOf j := SMap.get_set_other _ _ _ _ _ h

@[simp] theorem State.modBootKind_now (s : State) (k : Nat) (f : BootKind → BootKind) : (s.modBootKind k f).now = s.now := rfl
@[simp] theorem State.modBootKind_free (s : State) (k : Nat) (f : BootKind → BootKind) : (s.modBootKind k f).free = s.free := rfl
@[simp] theorem State.modBootKind_dies (s : State) (k : Nat) (f : BootKind → BootKind) : (s.modBootKind k f).dies = s.dies := rfl
@[simp] theorem State.modBootKind_clk (s : State) (k : Nat) (f : BootKind → BootKind) : (s.modBootKind k f).clk = s.clk := rfl
@[simp] theorem State.modBootKind_csr (s : State) (k : Nat) (f : BootKind → BootKind) : (s.modBootKind k f).csr = s.csr := rfl
@[simp] theorem State.modBootKind_cfg (s : State) (k : Nat) (f : BootKind → BootKind) : (s.modBootKind k f).cfg = s.cfg := rfl
@[simp] theorem State.modBootKind_lat (s : State) (k : Nat) (f : BootKind → BootKind) : (s.modBootKind k f).lat = s.lat := rfl
@[simp] theorem State.modBootKind_sifter (s : State) (k : Nat) (f : BootKind → BootKind) : (s.modBootKind k f).sifter = s.sifter := rfl
@[simp] theorem State.modBootKind_vdg (s : State) (k : Nat) (f : BootKind → BootKind) : (s.modBootKind k f).vdg = s.vdg := rfl
@[simp] theorem State.modBootKind_time (s : State) (k : Nat) (f : BootKind → BootKind) : (s.modBootKind k f).time = s.time := rfl
@[simp] theorem State.modBootKind_pos (s : State) (k : Nat) (f : BootKind → BootKind) : (s.modBootKind k f).pos = s.pos := rfl
@[simp] theorem State.modBootKind_integ (s : State) (k : Nat) (f : BootKind → BootKind) : (s.modBootKind k f).integ = s.integ := rfl
@[simp] theorem State.modBootKind_ldg (s : State) (k : Nat) (f : BootKind → BootKind) : (s.modBootKind k f).ldg = s.ldg := rfl
@[simp] theorem State.modBootKind_core (s : State) (k : Nat) (f : BootKind → BootKind) : (s.modBootKind k f).core = s.core := rfl
@[simp] theorem State.modBootKind_eng (s : State) (k : Nat) (f : BootKind → BootKind) : (s.modBootKind k f).eng = s.eng := rfl
@[simp] theorem State.modBootKind_trf (s : State) (k : Nat) (f : BootKind → BootKind) : (s.modBootKind k f).trf = s.trf := rfl
@[simp] theorem State.modBootKind_queue (s : State) (k : Nat) (f : BootKind → BootKind) : (s.modBootKind k f).queue = s.queue := rfl
@[simp] theorem State.modBootKind_mem (s : State) (k : Nat) (f : BootKind → BootKind) : (s.modBootKind k f).mem = s.mem := rfl
@[simp] theorem State.modBootKind_hbm (s : State) (k : Nat) (f : BootKind → BootKind) : (s.modBootKind k f).hbm = s.hbm := rfl
@[simp] theorem State.modBootKind_pool (s : State) (k : Nat) (f : BootKind → BootKind) : (s.modBootKind k f).pool = s.pool := rfl
@[simp] theorem State.modBootKind_cvu (s : State) (k : Nat) (f : BootKind → BootKind) : (s.modBootKind k f).cvu = s.cvu := rfl
@[simp] theorem State.modBootKind_crb (s : State) (k : Nat) (f : BootKind → BootKind) : (s.modBootKind k f).crb = s.crb := rfl
@[simp] theorem State.modBootKind_wdt (s : State) (k : Nat) (f : BootKind → BootKind) : (s.modBootKind k f).wdt = s.wdt := rfl
@[simp] theorem State.modBootKind_cus (s : State) (k : Nat) (f : BootKind → BootKind) : (s.modBootKind k f).cus = s.cus := rfl
@[simp] theorem State.modBootKind_dbg (s : State) (k : Nat) (f : BootKind → BootKind) : (s.modBootKind k f).dbg = s.dbg := rfl
@[simp] theorem State.modBootKind_bbx (s : State) (k : Nat) (f : BootKind → BootKind) : (s.modBootKind k f).bbx = s.bbx := rfl
@[simp] theorem State.modBootKind_port (s : State) (k : Nat) (f : BootKind → BootKind) : (s.modBootKind k f).port = s.port := rfl
@[simp] theorem State.modBootKind_pending (s : State) (k : Nat) (f : BootKind → BootKind) : (s.modBootKind k f).pending = s.pending := rfl
@[simp] theorem State.bootKind_modBootKind (s : State) (k : Nat) (f : BootKind → BootKind) :
    (s.modBootKind k f).bootKind k = f (s.bootKind k) := SMap.get_set_same ..
theorem State.bootKind_modBootKind_other (s : State) (k j : Nat) (f : BootKind → BootKind) (h : j ≠ k) :
    (s.modBootKind k f).bootKind j = s.bootKind j := SMap.get_set_other _ _ _ _ _ h

end Sys2Proof.Machine
end

