-- ==== Sys2Proof/Laws/Issue.lean ====
section
/-!
SUPPORT. The issue of an instruction, said once: what `runInsn` comes to where the instruction issues, and where its
body retires with a change of its own core alone.
-/

namespace Sys2Proof.Machine

/-- No halt is taken where none is requested. -/
theorem State.takeHalt_none (s : State) (c : Nat) (h : (s.coreOf c).haltReq = false) : s.takeHalt c = s := by
  simp [State.takeHalt, h]

/-- What an instruction that issues comes to: what its body comes to in the state in which it issues. -/
theorem State.runInsn_issues (s : State) (c : CoreId) (n m : Nat) (body : State → Res) (h : s.Issues c.toNat n)
    (hr : (s.coreOf c.toNat).ring ≤ m) :
    s.runInsn c n false false m body = s.settle c.toNat (s.pcOf c.toNat) (body (s.issued c.toNat n)) := by
  obtain ⟨h1, h2, h3, -⟩ := h
  unfold State.runInsn
  simp only [h1, h2, Bool.not_true, Bool.false_eq_true, if_false]
  generalize s.fetched c.toNat n = y at h3 ⊢
  obtain ⟨u, o⟩ := y
  simp only at h3
  subst h3
  simp [issueExn, Nat.not_lt.mpr hr]

/-- An instruction that retires with a change of its core alone. -/
theorem State.runInsn_retires (s : State) (c : CoreId) (n m : Nat) (f : CoreSt → CoreSt) (body : State → Res)
    (h : s.Issues c.toNat n) (hr : (s.coreOf c.toNat).ring ≤ m)
    (hb : body (s.issued c.toNat n) = .ok ((s.issued c.toNat n).modCore c.toNat f) 0)
    (hf : (f ((s.issued c.toNat n).coreOf c.toNat)).haltReq = false) :
    s.runInsn c n false false m body = (s.issued c.toNat n).modCore c.toNat f := by
  rw [s.runInsn_issues c n m body h hr, hb]
  exact State.takeHalt_none _ _ (by rw [State.coreOf_modCore]; exact hf)

end Sys2Proof.Machine
end

