-- ==== Sys2Proof/Laws/Flags.lean ====
section
/-!
SUPPORT. The status word under the flag operations: which bits they change, that they leave the ring and so every
register alone, and how a scalar instruction retires.
-/

namespace Sys2Proof.Machine

/-- A bit of a word of which one bit was replaced. -/
theorem setBit_getLsbD {n : Nat} (x : BitVec n) (i j : Nat) (b : Bool) (hi : i < n) :
    (setBit x i b).getLsbD j = if j = i then b else x.getLsbD j := by
  unfold setBit
  by_cases hj : j < n
  · have e : (BitVec.ofNat n (2 ^ i)).getLsbD j = decide (j = i) := by
      rw [BitVec.getLsbD_ofNat, Nat.testBit_two_pow]
      simp [hj, eq_comm]
    cases b with
    | true => rw [if_pos rfl, BitVec.getLsbD_or, e]; by_cases h : j = i <;> simp [h]
    | false =>
      rw [if_neg Bool.false_ne_true, BitVec.getLsbD_and, BitVec.getLsbD_not, e]
      by_cases h : j = i <;> simp [h, hj]
  · have hne : j ≠ i := by omega
    rw [if_neg hne, BitVec.getLsbD_of_ge _ _ (Nat.le_of_not_lt hj), BitVec.getLsbD_of_ge _ _ (Nat.le_of_not_lt hj)]

/-- A flag after a flag was written. -/
theorem CoreSt.flag_setFlag (k : CoreSt) (i j : Nat) (b : Bool) (hi : i < 16) :
    (k.setFlag i b).flag j = if j = i then b else k.flag j := setBit_getLsbD _ _ _ _ hi

/-- The ring is bits 12:11. -/
theorem CoreSt.ring_eq (k : CoreSt) : k.ring = (k.sw.extractLsb' 11 2).toNat := by
  simp [CoreSt.ring, bits, Nat.shiftRight_eq_div_pow]

/-- A flag below bit 11 leaves the ring alone. -/
theorem CoreSt.ring_setFlag (k : CoreSt) (i : Nat) (b : Bool) (hi : i < 11) : (k.setFlag i b).ring = k.ring := by
  rw [CoreSt.ring_eq, CoreSt.ring_eq]
  congr 1
  apply BitVec.eq_of_getLsbD_eq
  intro j hj
  simp only [BitVec.getLsbD_extractLsb', CoreSt.setFlag]
  rw [setBit_getLsbD _ _ _ _ (by omega), if_neg (by omega)]

/-- A flag below bit 11 leaves the bank alone. -/
theorem CoreSt.bankNo_setFlag (k : CoreSt) (i : Nat) (b : Bool) (hi : i < 11) :
    (k.setFlag i b).bankNo = k.bankNo := by
  simp only [CoreSt.bankNo, CoreSt.ring_setFlag k i b hi]
  rfl

/-- Writing a flag and writing Dd go in either order. -/
theorem CoreSt.setD_setFlag (k : CoreSt) (i d : Nat) (b : Bool) (r : Word) (hi : i < 11) :
    (k.setFlag i b).setD d r = (k.setD d r).setFlag i b := by
  unfold CoreSt.setD
  rw [CoreSt.bankNo_setFlag k i b hi]
  unfold CoreSt.setDIn
  split <;> rfl

/-- Writing Dd leaves the status word alone. -/
@[simp] theorem CoreSt.sw_setD (k : CoreSt) (d : Nat) (r : Word) : (k.setD d r).sw = k.sw := by
  unfold CoreSt.setD CoreSt.setDIn
  split <;> rfl

/-- Writing Dd leaves a requested halt alone. -/
@[simp] theorem CoreSt.haltReq_setD (k : CoreSt) (d : Nat) (r : Word) : (k.setD d r).haltReq = k.haltReq := by
  unfold CoreSt.setD CoreSt.setDIn
  split <;> rfl

/-- Writing An leaves a requested halt alone. -/
@[simp] theorem CoreSt.haltReq_setA (k : CoreSt) (d : Nat) (r : Addr) : (k.setA d r).haltReq = k.haltReq := by
  unfold CoreSt.setA CoreSt.setAIn
  split <;> rfl

/-- A two-operand instruction retires, where its operation raises no ARITH. -/
theorem State.alu2_retires (s : State) (c : CoreId) (even : Bool) (d : Reg) (x : Src) (op : AluOp) (k' : CoreSt)
    (h : s.Issues c.toNat (srcLen x)) (hr : (s.coreOf c.toNat).ring ≤ 3) (he : (even && d.getLsbD 0) = false)
    (ho : op ((s.issued c.toNat (srcLen x)).coreOf c.toNat) d.toNat
        (((s.issued c.toNat (srcLen x)).coreOf c.toNat).dr d.toNat)
        (((s.issued c.toNat (srcLen x)).coreOf c.toNat).src x) = (k', 0))
    (hh : k'.haltReq = false) :
    s.alu2 c even d x op = (s.issued c.toNat (srcLen x)).modCore c.toNat (fun _ => k') := by
  unfold State.alu2
  rw [he]
  exact State.runInsn_retires s c _ 3 (fun _ => k') _ h hr (by simp only [ho]) hh

/-- An instruction of the unary group retires, where its operation raises no ARITH. -/
theorem State.alu1_retires (s : State) (c : CoreId) (d : Reg) (op : UnOp) (k' : CoreSt) (h : s.Issues c.toNat 1)
    (hr : (s.coreOf c.toNat).ring ≤ 3)
    (ho : op ((s.issued c.toNat 1).coreOf c.toNat) d.toNat (((s.issued c.toNat 1).coreOf c.toNat).dr d.toNat) = (k', 0))
    (hh : k'.haltReq = false) :
    s.alu1 c d op = (s.issued c.toNat 1).modCore c.toNat (fun _ => k') := by
  unfold State.alu1
  exact State.runInsn_retires s c _ 3 (fun _ => k') _ h hr (by simp only [ho]) hh

/-- An instruction that changes one core's registers retires. -/
theorem State.regInsn_retires (s : State) (c : CoreId) (n : Nat) (f : CoreSt → CoreSt) (h : s.Issues c.toNat n)
    (hr : (s.coreOf c.toNat).ring ≤ 3) (hh : (f ((s.issued c.toNat n).coreOf c.toNat)).haltReq = false) :
    s.regInsn c n false false f = (s.issued c.toNat n).modCore c.toNat f :=
  State.runInsn_retires s c _ 3 f _ h hr rfl hh

end Sys2Proof.Machine
end

