-- ==== Sys2Proof/Laws/KeptBase.lean ====
section
/-!
SUPPORT. What every command keeps (`Kept`): the forms of results that carry a state, and the rules by which a state
built from another keeps it. The files Laws/Kept*.lean say of every operation of the model that it does.
-/

namespace Sys2Proof.Machine

variable {q : List Instr} {n : Nat}

/-- A result of an instruction keeps. -/
def KeptRes (q : List Instr) (n : Nat) : Res → Prop
  | .ok s _ => Kept q n s
  | .exn s _ _ => Kept q n s
  | .hold => True

/-- A result of reads keeps. -/
def KeptRd (q : List Instr) (n : Nat) : Rd → Prop
  | .ok s _ => Kept q n s
  | .exn s _ => Kept q n s
  | .hold => True

/-- A result of writes keeps. -/
def KeptWr (q : List Instr) (n : Nat) : Wr → Prop
  | .ok s => Kept q n s
  | .exn s _ => Kept q n s
  | .hold => True

/-- A result of an element keeps. -/
def KeptBlk (q : List Instr) (n : Nat) : Blk → Prop
  | .ok s => Kept q n s
  | .exn s _ => Kept q n s
  | .hold => True

/-- A CSR read keeps. -/
def KeptCsrRd (q : List Instr) (n : Nat) (x : CsrRd) : Prop := Kept q n x.s

/-- A state that agrees with one that keeps on the parts that `Kept` names. -/
theorem Kept.of {s t : State} (h : Kept q n s) (hm : t.mem = s.mem) (hd : t.dies.die = s.dies.die)
    (hp : t.pending = s.pending) (hn : t.now = s.now) : Kept q n t := by
  obtain ⟨⟨h1, h2, h3⟩, h4, h5⟩ := h
  refine ⟨⟨by rw [hm]; exact h1, by rw [hm]; exact h2, ?_⟩, by rw [hp]; exact h4, by rw [hn]; exact h5⟩
  show (SMap.get (dflt {}) t.dies.die 0).fenced = false
  rw [hd]; exact h3

/-- A record update that leaves alone what `Kept` names. -/
theorem Kept.lit {s : State} {free clk csr cfg lat sifter vdg time pos integ ldg core eng trf queue hbm pool cvu crb wdt
    boot cus dbg bbx port} (h : Kept q n s) :
    Kept q n (State.mk s.now free s.dies clk csr cfg lat sifter vdg time pos integ ldg core eng trf queue s.mem hbm pool
      cvu crb wdt boot cus dbg bbx port s.pending) := h.of rfl rfl rfl rfl

/-- A record update of the dies too, but not of their own records. -/
theorem Kept.litDies {s : State} {free dies clk csr cfg lat sifter vdg time pos integ ldg core eng trf queue hbm pool cvu
    crb wdt boot cus dbg bbx port} (h : Kept q n s) (hd : dies.die = s.dies.die) :
    Kept q n (State.mk s.now free dies clk csr cfg lat sifter vdg time pos integ ldg core eng trf queue s.mem hbm pool
      cvu crb wdt boot cus dbg bbx port s.pending) := h.of rfl hd rfl rfl

/-- The state of a pair in front. -/
theorem Kept.fst {α : Type} {x : State × α} {s : State} {a : α} (h : Kept q n x.1) (e : x = (s, a)) : Kept q n s := by
  subst e; exact h

/-- The state of a pair behind. -/
theorem Kept.snd {α : Type} {x : α × State} {s : State} {a : α} (h : Kept q n x.2) (e : x = (a, s)) : Kept q n s := by
  subst e; exact h

/-- The state of an instruction that retires. -/
theorem KeptRes.ok {r : Res} {s : State} {a : Nat} (h : KeptRes q n r) (e : r = .ok s a) : Kept q n s := by
  subst e; exact h
/-- The state of an instruction that raises. -/
theorem KeptRes.exn {r : Res} {s : State} {x : Exn} {b : Bool} (h : KeptRes q n r) (e : r = .exn s x b) : Kept q n s := by
  subst e; exact h
/-- The state after reads. -/
theorem KeptRd.ok {r : Rd} {s : State} {a : List Word} (h : KeptRd q n r) (e : r = .ok s a) : Kept q n s := by
  subst e; exact h
/-- The state after reads that fail. -/
theorem KeptRd.exn {r : Rd} {s : State} {x : Exn} (h : KeptRd q n r) (e : r = .exn s x) : Kept q n s := by
  subst e; exact h
/-- The state after writes. -/
theorem KeptWr.ok {r : Wr} {s : State} (h : KeptWr q n r) (e : r = .ok s) : Kept q n s := by
  subst e; exact h
/-- The state after writes that fail. -/
theorem KeptWr.exn {r : Wr} {s : State} {x : Exn} (h : KeptWr q n r) (e : r = .exn s x) : Kept q n s := by
  subst e; exact h
/-- The state after an element. -/
theorem KeptBlk.ok {r : Blk} {s : State} (h : KeptBlk q n r) (e : r = .ok s) : Kept q n s := by
  subst e; exact h
/-- The state after an element that fails. -/
theorem KeptBlk.exn {r : Blk} {s : State} {x : Exn} (h : KeptBlk q n r) (e : r = .exn s x) : Kept q n s := by
  subst e; exact h

/-- A run over a list. -/
theorem Kept.foldl {α : Type} {f : State → α → State} {l : List α} {s : State}
    (hf : ∀ s a, Kept q n s → Kept q n (f s a)) (h : Kept q n s) : Kept q n (l.foldl f s) := by
  induction l generalizing s with
  | nil => exact h
  | cons a l ih => exact ih (hf s a h)

/-- A run over a list that carries something beside the state. -/
theorem Kept.foldl_fst {α β : Type} {f : State × β → α → State × β} {l : List α} {x : State × β}
    (hf : ∀ x a, Kept q n x.1 → Kept q n (f x a).1) (h : Kept q n x.1) : Kept q n (l.foldl f x).1 := by
  induction l generalizing x with
  | nil => exact h
  | cons a l ih => exact ih (hf x a h)

/-- A repetition. -/
theorem Kept.repeat' {f : State → State} {k : Nat} {s : State} (hf : ∀ s, Kept q n s → Kept q n (f s))
    (h : Kept q n s) : Kept q n (Nat.repeat f k s) := by
  induction k with
  | zero => exact h
  | succ k ih => exact hf _ ih

/-- A choice. -/
theorem Kept.ite {c : Prop} [Decidable c] {s t : State} (h : Kept q n s) (k : Kept q n t) :
    Kept q n (if c then s else t) := by split <;> assumption

/-- A choice between pairs. -/
theorem Kept.ite_fst {c : Prop} [Decidable c] {α : Type} {s t : State × α} (h : Kept q n s.1) (k : Kept q n t.1) :
    Kept q n (if c then s else t).1 := by split <;> assumption

/-! ### The operations that write what `Kept` names -/

theorem State.to_kept (a0 : State) (a1 : Nat) (h0 : Kept q n a0) : Kept q n (State.to a0 a1) :=
  ⟨h0.1, h0.2.1, Nat.le_trans h0.2.2 (Nat.le_max_left _ _)⟩

theorem State.during_kept (a0 : State) (a1 : Nat) (a2 : State → State) (h0 : Kept q n a0)
    (h2 : ∀ s, Kept q n s → Kept q n (a2 s)) : Kept q n (State.during a0 a1 a2) :=
  have h := h2 _ (State.to_kept a0 a1 h0)
  ⟨h.1, h.2.1, h0.2.2⟩

theorem State.putByte_kept (a0 : State) (a1 : Nat) (a2 : Byte) (h0 : Kept q n a0) : Kept q n (State.putByte a0 a1 a2) :=
  ⟨⟨SMap.wf_set _ _ _ _ h0.1.1, h0.1.2.1, h0.1.2.2⟩, h0.2⟩

theorem State.wipe_kept (a0 : State) (a1 a2 : Nat) (h0 : Kept q n a0) : Kept q n (State.wipe a0 a1 a2) :=
  ⟨⟨SMap.wf_filter _ _ _ h0.1.1, SMap.wf_filter _ _ _ h0.1.2.1, h0.1.2.2⟩, h0.2⟩

theorem State.setClass_kept (a0 : State) (a1 : Nat) (a2 : GClass) (h0 : Kept q n a0) : Kept q n (State.setClass a0 a1 a2) :=
  ⟨⟨h0.1.1, SMap.wf_set _ _ _ _ h0.1.2.1, h0.1.2.2⟩, h0.2⟩

theorem State.modDie_kept (a0 : State) (a1 : Nat) (a2 : DieSt → DieSt) (h0 : Kept q n a0)
    (hf : a1 = 0 → (a2 (a0.die 0)).fenced = false) : Kept q n (State.modDie a0 a1 a2) := by
  refine ⟨⟨h0.1.1, h0.1.2.1, ?_⟩, h0.2⟩
  show (SMap.get (dflt {}) (SMap.set (dflt {}) a0.dies.die a1 (a2 (SMap.get (dflt {}) a0.dies.die a1))) 0).fenced = false
  rw [SMap.get_set]
  split
  · rename_i h
    subst h
    exact hf rfl
  · exact h0.1.2.2

theorem State.wrs_kept (a0 : State) (a1 : Nat) (a2 : List Word) (h0 : Kept q n a0) : Kept q n (State.wrs a0 a1 a2) := by
  induction a2 generalizing a0 a1 with
  | nil => exact h0
  | cons w ws ih => exact ih _ _ (State.putByte_kept _ _ _ (State.putByte_kept _ _ _ h0))

theorem State.modDie_keeps (a0 : State) (a1 : Nat) (a2 : DieSt → DieSt) (h0 : Kept q n a0)
    (hf : ∀ x, (a2 x).fenced = x.fenced) : Kept q n (State.modDie a0 a1 a2) :=
  State.modDie_kept a0 a1 a2 h0 (fun _ => (hf _).trans h0.1.2.2)

theorem MemSt.clearRam_bytes (m : MemSt) (h : m.wf = true) : m.clearRam.wf = true := SMap.wf_filter _ _ _ h

theorem MemSt.clearRam_errs (m : MemSt) (h : SMap.wf (dflt GClass.none) m.errs = true) :
    SMap.wf (dflt GClass.none) m.clearRam.errs = true := SMap.wf_filter _ _ _ h

end Sys2Proof.Machine
end

