-- ==== Sys2Proof/Laws/KeptOps.lean ====
section
/-!
SUPPORT. Every operation of the operations over registers, memory, FIFOs and the events they raise keeps what `Kept` says.
-/

namespace Sys2Proof.Machine

variable {q : List Instr} {n : Nat}

theorem State.draw_kept (a0 : State) (h0 : Kept q n a0) :
    Kept q n (State.draw a0).2 := by
  unfold State.draw
  dsimp only [KeptRes, KeptRd, KeptWr, KeptBlk, KeptCsrRd]
  apply Kept.lit
  assumption

theorem State.modQueue_kept (a0 : State) (a1 : Nat) (a2 : Nat) (a3 : QueueSt → QueueSt) (h0 : Kept q n a0) :
    Kept q n (State.modQueue a0 a1 a2 a3) := by
  unfold State.modQueue
  apply Kept.lit
  assumption

theorem State.rebase_kept (a0 : State) (h0 : Kept q n a0) :
    Kept q n (State.rebase a0) := by
  unfold State.rebase
  apply Kept.lit
  assumption

theorem State.modEng_kept (a0 : State) (a1 : Nat) (a2 : EngSt → EngSt) (h0 : Kept q n a0) :
    Kept q n (State.modEng a0 a1 a2) := by
  unfold State.modEng
  apply Kept.lit
  assumption

theorem State.modCore_kept (a0 : State) (a1 : Nat) (a2 : CoreSt → CoreSt) (h0 : Kept q n a0) :
    Kept q n (State.modCore a0 a1 a2) := by
  unfold State.modCore
  dsimp only
  apply Kept.lit
  assumption

theorem State.modWdt_kept (a0 : State) (a1 : Nat) (a2 : WdtUnit → WdtUnit) (h0 : Kept q n a0) :
    Kept q n (State.modWdt a0 a1 a2) := by
  unfold State.modWdt
  apply Kept.lit
  assumption

theorem State.modStack_kept (a0 : State) (a1 : Nat) (a2 : StackSt → StackSt) (h0 : Kept q n a0) :
    Kept q n (State.modStack a0 a1 a2) := by
  unfold State.modStack
  apply Kept.lit
  assumption

theorem State.modPdie_kept (a0 : State) (a1 : Nat) (a2 : PortDieSt → PortDieSt) (h0 : Kept q n a0) :
    Kept q n (State.modPdie a0 a1 a2) := by
  unfold State.modPdie
  apply Kept.lit
  assumption

theorem State.modTx_kept (a0 : State) (a1 : Nat) (a2 : Nat) (a3 : TxAssign → TxAssign) (h0 : Kept q n a0) :
    Kept q n (State.modTx a0 a1 a2 a3) := by
  unfold State.modTx
  apply Kept.lit
  assumption

theorem State.modEth_kept (a0 : State) (a1 : Nat) (a2 : Nat) (a3 : EthPort → EthPort) (h0 : Kept q n a0) :
    Kept q n (State.modEth a0 a1 a2 a3) := by
  unfold State.modEth
  apply Kept.lit
  assumption

theorem State.modLink_kept (a0 : State) (a1 : Nat) (a2 : Nat) (a3 : LinkSt → LinkSt) (h0 : Kept q n a0) :
    Kept q n (State.modLink a0 a1 a2 a3) := by
  unfold State.modLink
  apply Kept.lit
  assumption

theorem State.modBootKind_kept (a0 : State) (a1 : Nat) (a2 : BootKind → BootKind) (h0 : Kept q n a0) :
    Kept q n (State.modBootKind a0 a1 a2) := by
  unfold State.modBootKind
  apply Kept.lit
  assumption

theorem State.modCard_kept (a0 : State) (a1 : Nat) (a2 : CardSt → CardSt) (h0 : Kept q n a0) :
    Kept q n (State.modCard a0 a1 a2) := by
  unfold State.modCard
  apply Kept.lit
  assumption

theorem State.modSpi_kept (a0 : State) (a1 : Nat) (a2 : SpiSt → SpiSt) (h0 : Kept q n a0) :
    Kept q n (State.modSpi a0 a1 a2) := by
  unfold State.modSpi
  apply Kept.lit
  assumption

theorem State.modRx_kept (a0 : State) (a1 : Nat) (a2 : Nat) (a3 : RxAssign → RxAssign) (h0 : Kept q n a0) :
    Kept q n (State.modRx a0 a1 a2 a3) := by
  unfold State.modRx
  apply Kept.lit
  assumption

theorem State.modSft_kept (a0 : State) (a1 : Nat) (a2 : SifterSt → SifterSt) (h0 : Kept q n a0) :
    Kept q n (State.modSft a0 a1 a2) := by
  unfold State.modSft
  apply Kept.lit
  assumption

theorem State.modCan_kept (a0 : State) (a1 : Nat) (a2 : Nat) (a3 : CanSt → CanSt) (h0 : Kept q n a0) :
    Kept q n (State.modCan a0 a1 a2 a3) := by
  unfold State.modCan
  apply Kept.lit
  assumption

theorem State.modProd_kept (a0 : State) (a1 : Nat) (a2 : ProdSt → ProdSt) (h0 : Kept q n a0) :
    Kept q n (State.modProd a0 a1 a2) := by
  unfold State.modProd
  apply Kept.lit
  assumption

theorem State.wr_kept (a0 : State) (a1 : Nat) (a2 : Word) (h0 : Kept q n a0) :
    Kept q n (State.wr a0 a1 a2) := by
  unfold State.wr
  apply State.putByte_kept
  apply State.putByte_kept
  assumption

theorem State.fill_kept (a0 : State) (a1 : Nat) (a2 : Nat) (a3 : Word) (h0 : Kept q n a0) :
    Kept q n (State.fill a0 a1 a2 a3) := by
  unfold State.fill
  apply State.wrs_kept
  assumption

theorem State.launch_kept (a0 : State) (a1 : Nat) (a2 : Word) (a3 : Nat) (a4 : Nat) (h0 : Kept q n a0) :
    Kept q n (State.launch a0 a1 a2 a3 a4) := by
  unfold State.launch
  dsimp only
  split
  · split
    · assumption
    · apply Kept.lit
      assumption
  · split
    · assumption
    · apply Kept.lit
      assumption

theorem State.raise_kept (a0 : State) (a1 : Nat) (a2 : Nat) (a3 : Nat) (h0 : Kept q n a0) :
    Kept q n (State.raise a0 a1 a2 a3) := by
  unfold State.raise
  apply State.launch_kept
  assumption

theorem State.ledgerPut_kept (a0 : State) (a1 : Nat) (a2 : Word) (a3 : List Word) (h0 : Kept q n a0) :
    Kept q n (State.ledgerPut a0 a1 a2 a3) := by
  unfold State.ledgerPut
  split
  · assumption
  · split
    · apply Kept.lit
      assumption
    · split
      · apply State.raise_kept
        apply Kept.lit
        assumption
      · apply Kept.lit
        assumption

theorem State.setFld32_kept (a0 : State) (a1 : Nat) (a2 : BitVec 32) (h0 : Kept q n a0) :
    Kept q n (State.setFld32 a0 a1 a2) := by
  unfold State.setFld32
  apply Kept.lit
  assumption

theorem State.fldAdd32_kept (a0 : State) (a1 : Nat) (a2 : Nat) (h0 : Kept q n a0) :
    Kept q n (State.fldAdd32 a0 a1 a2) := by
  unfold State.fldAdd32
  apply State.setFld32_kept
  assumption

theorem State.bbxLose_kept (a0 : State) (h0 : Kept q n a0) :
    Kept q n (State.bbxLose a0) := by
  unfold State.bbxLose
  dsimp only
  split
  · apply Kept.lit
    assumption
  · apply State.raise_kept
    apply Kept.lit
    assumption

theorem State.bbxReq_kept (a0 : State) (a1 : Nat) (a2 : List Word) (h0 : Kept q n a0) :
    Kept q n (State.bbxReq a0 a1 a2) := by
  unfold State.bbxReq
  split
  · assumption
  · split
    · apply State.bbxLose_kept
      assumption
    · dsimp only
      apply Kept.lit
      assumption

theorem State.setReg_kept (a0 : State) (a1 : Nat) (a2 : Nat) (a3 : Nat) (a4 : Word) (h0 : Kept q n a0) :
    Kept q n (State.setReg a0 a1 a2 a3 a4) := by
  unfold State.setReg
  apply Kept.lit
  assumption

theorem State.takeInj_kept (a0 : State) (h0 : Kept q n a0) :
    Kept q n (State.takeInj a0).1 := by
  unfold State.takeInj
  dsimp only
  apply State.setReg_kept
  apply State.draw_kept
  assumption

theorem State.gcode_kept (a0 : State) (a1 : Nat) (a2 : Bool) (a3 : Nat) (h0 : Kept q n a0) :
    Kept q n (State.gcode a0 a1 a2 a3) := by
  unfold State.gcode
  apply State.fldAdd32_kept
  assumption

theorem State.orReg_kept (a0 : State) (a1 : Nat) (a2 : Nat) (a3 : Nat) (a4 : Word) (h0 : Kept q n a0) :
    Kept q n (State.orReg a0 a1 a2 a3 a4) := by
  unfold State.orReg
  apply State.setReg_kept
  assumption

theorem State.raiseRsvd_kept (a0 : State) (a1 : Nat) (a2 : Nat) (h0 : Kept q n a0) :
    Kept q n (State.raiseRsvd a0 a1 a2) := by
  unfold State.raiseRsvd
  apply State.launch_kept
  assumption

theorem State.setRegs_kept (a0 : State) (a1 : Nat) (a2 : Nat) (a3 : Nat) (a4 : List Word) (h0 : Kept q n a0) :
    Kept q n (State.setRegs a0 a1 a2 a3 a4) := by
  induction a4 generalizing a0 a1 a2 a3 with
  | nil =>
    unfold State.setRegs
    assumption
  | cons x xs ih =>
    unfold State.setRegs
    apply ih
    apply State.setReg_kept
    assumption

theorem State.fldAdd16_kept (a0 : State) (a1 : Nat) (a2 : Nat) (h0 : Kept q n a0) :
    Kept q n (State.fldAdd16 a0 a1 a2) := by
  unfold State.fldAdd16
  apply Kept.lit
  assumption

theorem State.storeNotice_kept (a0 : State) (a1 : Nat) (a2 : Nat) (h0 : Kept q n a0) :
    Kept q n (State.storeNotice a0 a1 a2) := by
  unfold State.storeNotice
  dsimp only
  apply State.modCore_kept
  assumption

theorem State.raiseOwn_kept (a0 : State) (a1 : Word) (a2 : Bool) (a3 : Nat) (h0 : Kept q n a0) :
    Kept q n (State.raiseOwn a0 a1 a2 a3) := by
  unfold State.raiseOwn
  apply Kept.lit
  assumption

theorem State.configRecord_kept (a0 : State) (a1 : Nat) (a2 : Bool) (h0 : Kept q n a0) :
    Kept q n (State.configRecord a0 a1 a2) := by
  unfold State.configRecord
  apply State.ledgerPut_kept
  assumption

theorem State.encodeFlits_kept (a0 : State) (a1 : Nat) (a2 : Agent) (a3 : List Flit) (h0 : Kept q n a0) :
    Kept q n (State.encodeFlits a0 a1 a2 a3).1 := by
  unfold State.encodeFlits
  split
  · assumption
  · split
    · dsimp only
      split
      · dsimp only [KeptRes, KeptRd, KeptWr, KeptBlk, KeptCsrRd]
        apply State.gcode_kept
        apply State.raise_kept
        apply State.setReg_kept
        apply State.takeInj_kept
        assumption
      · split
        · dsimp only [KeptRes, KeptRd, KeptWr, KeptBlk, KeptCsrRd]
          apply State.gcode_kept
          apply State.raise_kept
          apply State.setReg_kept
          apply State.takeInj_kept
          assumption
        · dsimp only [KeptRes, KeptRd, KeptWr, KeptBlk, KeptCsrRd]
          apply State.takeInj_kept
          assumption
    · assumption

theorem State.push_kept (a0 : State) (a1 : Nat) (a2 : Nat) (a3 : Agent) (a4 : List (List Word)) (a5 : Bool)
    (a6 : Bool) (a7 : Nat) (h0 : Kept q n a0) :
    Kept q n (State.push a0 a1 a2 a3 a4 a5 a6 a7) := by
  unfold State.push
  dsimp only
  split
  · split
    · apply State.raise_kept
      apply State.modQueue_kept
      apply State.encodeFlits_kept
      assumption
    · apply State.modQueue_kept
      apply State.encodeFlits_kept
      assumption
  · assumption

theorem State.blockPush_kept (a0 : State) (a1 : Nat) (a2 : Nat) (a3 : Agent) (a4 : List (List Word)) (a5 : Bool)
    (a6 : Nat) (h0 : Kept q n a0) :
    Kept q n (State.blockPush a0 a1 a2 a3 a4 a5 a6).1 := by
  unfold State.blockPush
  split
  · dsimp only [KeptRes, KeptRd, KeptWr, KeptBlk, KeptCsrRd]
    apply State.setReg_kept
    assumption
  · split
    · assumption
    · dsimp only [KeptRes, KeptRd, KeptWr, KeptBlk, KeptCsrRd]
      apply State.push_kept
      assumption

theorem State.popHead_kept (a0 : State) (a1 : Nat) (a2 : Nat) (h0 : Kept q n a0) :
    Kept q n (State.popHead a0 a1 a2) := by
  unfold State.popHead
  dsimp only
  split
  · apply State.modQueue_kept
    split
    · apply State.raise_kept
      assumption
    · assumption
  · assumption

theorem State.dropPoison_kept (a0 : State) (a1 : Nat) (a2 : Nat) (a3 : Nat) (h0 : Kept q n a0) :
    Kept q n (State.dropPoison a0 a1 a2 a3).1 := by
  induction a3 generalizing a0 a1 a2 with
  | zero =>
    unfold State.dropPoison
    assumption
  | succ m ih =>
    unfold State.dropPoison
    split
    · split
      · assumption
      · split
        · dsimp only [KeptRes, KeptRd, KeptWr, KeptBlk, KeptCsrRd]
          apply State.popHead_kept
          assumption
        · apply ih
          apply State.popHead_kept
          assumption
    · assumption

theorem State.hbmErr_kept (a0 : State) (a1 : Nat) (a2 : Nat) (a3 : GClass) (a4 : Nat) (a5 : Bool) (h0 : Kept q n a0) :
    Kept q n (State.hbmErr a0 a1 a2 a3 a4 a5) := by
  unfold State.hbmErr
  dsimp only
  split
  · split
    · apply State.raise_kept
      apply State.gcode_kept
      apply State.modStack_kept
      assumption
    · apply Kept.lit
      apply State.orReg_kept
      apply State.raise_kept
      apply State.gcode_kept
      apply State.modStack_kept
      assumption
  · split
    · apply State.raise_kept
      apply State.gcode_kept
      apply State.modStack_kept
      assumption
    · apply Kept.lit
      apply State.orReg_kept
      apply State.raise_kept
      apply State.gcode_kept
      apply State.modStack_kept
      assumption

theorem State.readNote_kept (a0 : State) (a1 : Nat) (a2 : Nat) (a3 : Bool) (h0 : Kept q n a0) :
    Kept q n (State.readNote a0 a1 a2 a3) := by
  unfold State.readNote
  dsimp only
  split
  · assumption
  · split
    · split
      · split
        · apply State.gcode_kept
          apply State.raise_kept
          assumption
        · apply Kept.lit
          apply State.gcode_kept
          apply State.raise_kept
          assumption
      · split
        · apply State.gcode_kept
          apply State.raise_kept
          assumption
        · apply Kept.lit
          apply State.gcode_kept
          apply State.raise_kept
          assumption
    · split
      · apply State.hbmErr_kept
        assumption
      · split
        · split
          · apply State.gcode_kept
            apply State.raise_kept
            assumption
          · apply Kept.lit
            apply State.gcode_kept
            apply State.raise_kept
            assumption
        · split
          · apply State.gcode_kept
            apply State.raise_kept
            assumption
          · apply Kept.lit
            apply State.gcode_kept
            apply State.raise_kept
            assumption
      · split
        · apply State.gcode_kept
          apply State.raise_kept
          assumption
        · split
          · apply State.gcode_kept
            apply State.raise_kept
            assumption
          · assumption

theorem State.readCheck_kept (a0 : State) (a1 : Nat) (a2 : Nat) (a3 : Nat) (a4 : Bool) (h0 : Kept q n a0) :
    Kept q n (State.readCheck a0 a1 a2 a3 a4).1 := by
  unfold State.readCheck
  dsimp only [KeptRes, KeptRd, KeptWr, KeptBlk, KeptCsrRd]
  apply Kept.foldl
  · intro x2
    intro x3
    intro x4
    apply State.readNote_kept
    assumption
  · assumption

theorem State.correctLines_kept (a0 : State) (a1 : Nat) (a2 : Nat) (h0 : Kept q n a0) :
    Kept q n (State.correctLines a0 a1 a2) := by
  unfold State.correctLines
  apply Kept.foldl
  · intro x1
    intro x2
    intro x3
    split
    · apply State.setClass_kept
      assumption
    · assumption
  · assumption

theorem State.dropWaiting_kept (a0 : State) (a1 : Nat) (a2 : Nat) (h0 : Kept q n a0) :
    Kept q n (State.dropWaiting a0 a1 a2) := by
  unfold State.dropWaiting
  dsimp only
  split
  · apply State.modStack_kept
    assumption
  · apply Kept.lit
    assumption

theorem State.encode_kept (a0 : State) (a1 : Nat) (h0 : Kept q n a0) :
    Kept q n (State.encode a0 a1) := by
  unfold State.encode
  split
  · dsimp only
    apply State.setClass_kept
    apply State.takeInj_kept
    assumption
  · apply State.setClass_kept
    assumption

theorem State.recode_kept (a0 : State) (a1 : Nat) (a2 : Nat) (h0 : Kept q n a0) :
    Kept q n (State.recode a0 a1 a2) := by
  unfold State.recode
  split
  · assumption
  · dsimp only
    apply State.dropWaiting_kept
    apply Kept.foldl
    · intro x4
      intro x5
      intro x6
      apply State.encode_kept
      assumption
    · split
      · apply State.correctLines_kept
        assumption
      · assumption

theorem State.storeRunWords_kept (a0 : State) (a1 : List AWord) (h0 : Kept q n a0) :
    Kept q n (State.storeRunWords a0 a1) := by
  unfold State.storeRunWords
  dsimp only
  split
  · assumption
  · apply State.recode_kept
    apply Kept.foldl
    · intro x4
      intro x5
      intro x6
      apply State.wr_kept
      assumption
    · assumption

theorem State.store_kept (a0 : State) (a1 : Nat) (a2 : List Word) (h0 : Kept q n a0) :
    Kept q n (State.store a0 a1 a2) := by
  unfold State.store
  split
  · assumption
  · apply State.recode_kept
    apply State.wrs_kept
    assumption

theorem State.spadStore_kept (a0 : State) (a1 : Nat) (a2 : List AWord) (h0 : Kept q n a0) :
    Kept q n (State.spadStore a0 a1 a2) := by
  unfold State.spadStore
  dsimp only
  split
  · apply State.storeRunWords_kept
    apply State.storeRunWords_kept
    assumption
  · apply State.storeRunWords_kept
    assumption

theorem State.markSlot_kept (a0 : State) (a1 : Nat) (a2 : Nat) (a3 : Nat) (a4 : Nat) (h0 : Kept q n a0) :
    Kept q n (State.markSlot a0 a1 a2 a3 a4) := by
  unfold State.markSlot
  dsimp only
  apply Kept.lit
  assumption

theorem State.takeSlot_kept (a0 : State) (a1 : Nat) (a2 : Nat) (a3 : Bool) (a4 : Nat) (a5 : Nat) (a6 : Nat)
    (h0 : Kept q n a0) :
    Kept q n (State.takeSlot a0 a1 a2 a3 a4 a5 a6) := by
  induction a4 generalizing a0 a5 a6 with
  | zero =>
    unfold State.takeSlot
    exact h0
  | succ m ih =>
    unfold State.takeSlot
    split
    · apply State.markSlot_kept
      assumption
    · apply ih
      apply State.markSlot_kept
      assumption


theorem State.served_kept (a0 : State) (a1 : Nat) (a2 : Nat) (a3 : Bool) (a4 : Nat) (a5 : Nat) (h0 : Kept q n a0) :
    Kept q n (State.served a0 a1 a2 a3 a4 a5) := by
  unfold State.served
  apply State.takeSlot_kept
  assumption

theorem State.writeLost_kept (a0 : State) (a1 : Nat) (a2 : Nat) (h0 : Kept q n a0) :
    Kept q n (State.writeLost a0 a1 a2) := by
  unfold State.writeLost
  split
  · apply State.storeNotice_kept
    assumption
  · assumption

theorem State.respond_kept (a0 : State) (a1 : MgmtPort) (a2 : Word) (a3 : Word) (a4 : Word) (a5 : List Word)
    (h0 : Kept q n a0) :
    Kept q n (State.respond a0 a1 a2 a3 a4 a5) := by
  unfold State.respond
  dsimp only
  apply Kept.lit
  assumption

theorem State.eoutFault_kept (a0 : State) (a1 : Bool) (h0 : Kept q n a0) :
    Kept q n (State.eoutFault a0 a1) := by
  unfold State.eoutFault
  dsimp only
  apply Kept.lit
  assumption

theorem State.finishOf_kept (a0 : State) (a1 : List Word) (a2 : Word) (a3 : List Word) (h0 : Kept q n a0) :
    Kept q n (State.finishOf a0 a1 a2 a3) := by
  unfold State.finishOf
  split
  · assumption
  · split
    · assumption
    · dsimp only
      apply Kept.lit
      apply State.respond_kept
      assumption

theorem State.finishRun_kept (a0 : State) (a1 : Word) (a2 : List Word) (h0 : Kept q n a0) :
    Kept q n (State.finishRun a0 a1 a2) := by
  unfold State.finishRun
  apply State.finishOf_kept
  assumption

theorem State.jobStop_kept (a0 : State) (a1 : Bool) (h0 : Kept q n a0) :
    Kept q n (State.jobStop a0 a1) := by
  unfold State.jobStop
  split
  · assumption
  · dsimp only
    apply State.finishRun_kept
    split
    · apply State.bbxReq_kept
      apply Kept.lit
      assumption
    · apply Kept.lit
      assumption

theorem State.vmsgTo_kept (a0 : State) (a1 : List Word) (a2 : Nat) (a3 : Nat) (h0 : Kept q n a0) :
    Kept q n (State.vmsgTo a0 a1 a2 a3) := by
  unfold State.vmsgTo
  dsimp only
  split
  · split
    · split
      · apply State.blockPush_kept
        assumption
      · apply State.raise_kept
        apply State.blockPush_kept
        assumption
    · split
      · apply State.blockPush_kept
        assumption
      · apply State.raise_kept
        apply State.blockPush_kept
        assumption
  · assumption

theorem State.sendVerdict_kept (a0 : State) (a1 : VMsg) (a2 : List Word) (h0 : Kept q n a0) :
    Kept q n (State.sendVerdict a0 a1 a2) := by
  unfold State.sendVerdict
  dsimp only
  apply Kept.lit
  apply State.ledgerPut_kept
  apply State.vmsgTo_kept
  apply State.vmsgTo_kept
  assumption

theorem State.forceStop_kept (a0 : State) (a1 : Nat) (a2 : Bool) (h0 : Kept q n a0) :
    Kept q n (State.forceStop a0 a1 a2) := by
  unfold State.forceStop
  dsimp only
  split
  · apply State.during_kept
    · apply Kept.lit
      assumption
    · intro x3
      intro x4
      apply State.sendVerdict_kept
      assumption
  · apply Kept.lit
    assumption

theorem State.enterSafe_kept (a0 : State) (a1 : Bool) (h0 : Kept q n a0) :
    Kept q n (State.enterSafe a0 a1) := by
  unfold State.enterSafe
  dsimp only
  split
  · apply State.eoutFault_kept
    assumption
  · apply State.jobStop_kept
    apply State.forceStop_kept
    apply Kept.lit
    apply State.eoutFault_kept
    assumption

theorem State.afterFence_kept (a0 : State) (a1 : Bool) (h0 : Kept q n a0) :
    Kept q n (State.afterFence a0 a1) := by
  unfold State.afterFence
  split
  · split
    · apply State.enterSafe_kept
      assumption
    · apply Kept.lit
      assumption
  · assumption

theorem State.finishMode_kept (a0 : State) (a1 : Word) (a2 : List Word) (h0 : Kept q n a0) :
    Kept q n (State.finishMode a0 a1 a2) := by
  unfold State.finishMode
  apply State.finishOf_kept
  assumption

theorem State.closePorts_kept (a0 : State) (a1 : Nat) (h0 : Kept q n a0) :
    Kept q n (State.closePorts a0 a1) := by
  unfold State.closePorts
  dsimp only
  split
  · apply State.modLink_kept
    apply State.modLink_kept
    assumption
  · apply State.modLink_kept
    assumption

theorem State.lksCount_kept (a0 : State) (a1 : Nat) (a2 : Bool) (h0 : Kept q n a0) :
    Kept q n (State.lksCount a0 a1 a2) := by
  unfold State.lksCount
  dsimp only
  split
  · apply State.fldAdd16_kept
    apply State.fldAdd16_kept
    apply State.modEng_kept
    assumption
  · apply State.fldAdd16_kept
    apply State.modEng_kept
    assumption

theorem State.selftestStop_kept (a0 : State) (a1 : Nat) (h0 : Kept q n a0) :
    Kept q n (State.selftestStop a0 a1) := by
  unfold State.selftestStop
  split
  · apply State.lksCount_kept
    assumption
  · assumption

theorem State.wdtStop_kept (a0 : State) (a1 : Nat) (h0 : Kept q n a0) :
    Kept q n (State.wdtStop a0 a1) := by
  unfold State.wdtStop
  dsimp only
  apply State.modWdt_kept
  apply State.modWdt_kept
  assumption

theorem State.engFence_kept (a0 : State) (a1 : Nat) (h0 : Kept q n a0) :
    Kept q n (State.engFence a0 a1) := by
  unfold State.engFence
  dsimp only
  apply State.wdtStop_kept
  apply State.modCore_kept
  apply State.modCore_kept
  apply State.modEng_kept
  split
  · apply State.finishMode_kept
    apply State.modEng_kept
    apply State.selftestStop_kept
    assumption
  · apply State.selftestStop_kept
    assumption

theorem State.dropBuffered_kept (a0 : State) (a1 : Nat) (h0 : Kept q n a0) :
    Kept q n (State.dropBuffered a0 a1) := by
  unfold State.dropBuffered
  dsimp only
  apply Kept.foldl
  · intro x2
    intro x3
    intro x4
    apply Kept.foldl
    · intro x6
      intro x7
      intro x8
      split
      · apply State.modCore_kept
        apply State.storeNotice_kept
        assumption
      · assumption
    · assumption
  · assumption

theorem State.dropFlight_kept (a0 : State) (a1 : Nat) (h0 : Kept q n a0) :
    Kept q n (State.dropFlight a0 a1) := by
  unfold State.dropFlight
  apply Kept.foldl
  · intro x1
    intro x2
    intro x3
    dsimp only
    split
    · assumption
    · apply State.modQueue_kept
      refine State.modDie_keeps _ _ _ ?_ (fun _ => rfl)
      assumption
  · assumption

theorem State.cutOne_kept (a0 : State) (a1 : Cut) (h0 : Kept q n a0) (hd : a1.die = true → a1.no ≠ 0) :
    Kept q n (State.cutOne a0 a1) := by
  unfold State.cutOne
  split
  · rename_i h
    have h1 := State.modDie_kept a0 a1.no (fun y => { y with fenced := true, fencedAt := a0.now, held := true }) h0
      (fun e => absurd e (hd h))
    dsimp only
    apply State.dropBuffered_kept
    apply State.dropFlight_kept
    split
    · apply Kept.foldl (fun s a hs => State.engFence_kept s a hs)
      refine State.modDie_keeps _ _ _ ?_ (fun _ => rfl)
      exact State.closePorts_kept _ _ h1
    · exact State.closePorts_kept _ _ h1
  · exact State.engFence_kept _ _ h0

theorem State.cutAll_kept (a0 : State) (a1 : List Cut) (h0 : Kept q n a0) : Kept q n (State.cutAll a0 a1).1 := by
  induction a1 generalizing a0 with
  | nil => exact h0
  | cons x xs ih =>
    unfold State.cutAll
    split
    · exact ih _ h0
    · rename_i h
      dsimp only
      refine ih _ (State.cutOne_kept _ _ h0 (fun hd e => h ?_))
      simp [State.isCut, hd, e]

theorem State.fenceEntry_kept (a0 : State) (a1 : Cut) (h0 : Kept q n a0) :
    Kept q n (State.fenceEntry a0 a1) := by
  unfold State.fenceEntry
  apply State.bbxReq_kept
  assumption

theorem State.fenceAll_kept (a0 : State) (a1 : List Cut) (a2 : Bool) (h0 : Kept q n a0) :
    Kept q n (State.fenceAll a0 a1 a2) := by
  unfold State.fenceAll
  dsimp only
  split
  · assumption
  · apply State.jobStop_kept
    apply Kept.foldl
    · intro x4
      intro x5
      intro x6
      apply State.fenceEntry_kept
      assumption
    · apply State.afterFence_kept
      apply State.cutAll_kept
      assumption

theorem State.fenceDie_kept (a0 : State) (a1 : Nat) (a2 : Nat) (a3 : Word) (h0 : Kept q n a0) :
    Kept q n (State.fenceDie a0 a1 a2 a3) := by
  unfold State.fenceDie
  apply State.fenceAll_kept
  assumption

theorem State.updEntry_kept (a0 : State) (a1 : Word) (h0 : Kept q n a0) :
    Kept q n (State.updEntry a0 a1) := by
  unfold State.updEntry
  split
  · assumption
  · apply State.bbxReq_kept
    assumption

theorem State.startFlush_kept (a0 : State) (a1 : ResetKind) (a2 : Nat) (h0 : Kept q n a0) :
    Kept q n (State.startFlush a0 a1 a2) := by
  unfold State.startFlush
  split
  · assumption
  · assumption
  · dsimp only
    apply Kept.lit
    apply State.updEntry_kept
    assumption

theorem State.warmReset_kept (a0 : State) (a1 : ResetKind) (a2 : Bool) (h0 : Kept q n a0) :
    Kept q n (State.warmReset a0 a1 a2) := by
  unfold State.warmReset
  split
  · assumption
  · assumption
  · apply State.startFlush_kept
    apply State.forceStop_kept
    apply State.eoutFault_kept
    assumption

theorem State.bbxWrite_kept (a0 : State) (a1 : BbxReq) (h0 : Kept q n a0) :
    Kept q n (State.bbxWrite a0 a1) := by
  unfold State.bbxWrite
  dsimp only
  split
  · apply Kept.lit
    apply State.store_kept
    apply State.store_kept
    assumption
  · apply Kept.lit
    apply State.store_kept
    apply State.store_kept
    assumption

theorem State.tinFlush_kept (a0 : State) (h0 : Kept q n a0) :
    Kept q n (State.tinFlush a0) := by
  unfold State.tinFlush
  dsimp only
  apply Kept.lit
  split
  · apply Kept.foldl
    · intro x4
      intro x5
      intro x6
      split
      · assumption
      · apply State.bbxWrite_kept
        assumption
    · assumption
  · assumption

theorem State.fldWrite_kept (a0 : State) (h0 : Kept q n a0) :
    Kept q n (State.fldWrite a0) := by
  unfold State.fldWrite
  split
  · assumption
  · dsimp only
    apply State.store_kept
    apply State.store_kept
    apply State.fldAdd32_kept
    assumption

theorem State.bbxFlush_kept (a0 : State) (h0 : Kept q n a0) :
    Kept q n (State.bbxFlush a0) := by
  unfold State.bbxFlush
  split
  · assumption
  · split
    · apply State.tinFlush_kept
      assumption
    · dsimp only
      apply Kept.lit
      apply State.fldWrite_kept
      apply Kept.foldl
      · intro x6
        intro x7
        intro x8
        apply State.selftestStop_kept
        assumption
      · apply State.tinFlush_kept
        assumption

theorem State.updDrop_kept (a0 : State) (h0 : Kept q n a0) :
    Kept q n (State.updDrop a0) := by
  unfold State.updDrop
  split
  · assumption
  · dsimp only
    apply Kept.lit
    split
    · apply State.store_kept
      assumption
    · assumption

theorem State.deviceReset_kept (a0 : State) (a1 : ResetKind) (a2 : Phase) (h0 : Kept q n a0) :
    Kept q n (State.deviceReset a0 a1 a2) := by
  have h1 := State.updDrop_kept a0 h0
  exact ⟨⟨MemSt.clearRam_bytes _ h1.1.1, MemSt.clearRam_errs _ h1.1.2.1, rfl⟩, h1.2⟩


theorem State.fenceEngine_kept (a0 : State) (a1 : Nat) (a2 : Nat) (a3 : Word) (h0 : Kept q n a0) :
    Kept q n (State.fenceEngine a0 a1 a2 a3) := by
  unfold State.fenceEngine
  apply State.fenceAll_kept
  assumption

theorem State.keepArr_kept (a0 : State) (h0 : Kept q n a0) :
    Kept q n (State.keepArr a0) := by
  unfold State.keepArr
  apply Kept.lit
  assumption

theorem State.setArr_kept (a0 : State) (a1 : Nat) (h0 : Kept q n a0) :
    Kept q n (State.setArr a0 a1) := by
  unfold State.setArr
  split
  · assumption
  · apply State.modProd_kept
    assumption

theorem State.madeStop_kept (a0 : State) (a1 : Nat) (a2 : List Word) (a3 : Bool) (h0 : Kept q n a0) :
    Kept q n (State.madeStop a0 a1 a2 a3) := by
  unfold State.madeStop
  apply State.modProd_kept
  apply State.setArr_kept
  assumption

theorem State.classifyFlit_kept (a0 : State) (a1 : Nat) (a2 : List Word) (h0 : Kept q n a0) :
    Kept q n (State.classifyFlit a0 a1 a2) := by
  unfold State.classifyFlit
  dsimp only
  split
  · assumption
  · split
    · apply Kept.lit
      assumption
    · split
      · split
        · apply Kept.lit
          apply State.madeStop_kept
          assumption
        · apply Kept.lit
          assumption
      · split
        · apply Kept.lit
          assumption
        · split
          · split
            · apply Kept.lit
              apply State.madeStop_kept
              assumption
            · apply Kept.lit
              assumption
          · split
            · apply Kept.lit
              assumption
            · split
              · apply Kept.lit
                assumption
              · split
                · apply State.modProd_kept
                  apply State.setArr_kept
                  assumption
                · split
                  · apply Kept.lit
                    assumption
                  · split
                    · apply Kept.lit
                      apply State.madeStop_kept
                      assumption
                    · apply Kept.lit
                      assumption

theorem State.latchDecision_kept (a0 : State) (a1 : Vote) (a2 : Word) (h0 : Kept q n a0) :
    Kept q n (State.latchDecision a0 a1 a2) := by
  unfold State.latchDecision
  dsimp only
  apply State.during_kept
  · apply Kept.lit
    assumption
  · intro x2
    intro x3
    apply State.sendVerdict_kept
    assumption

theorem State.voteNow_kept (a0 : State) (a1 : Bool) (h0 : Kept q n a0) :
    Kept q n (State.voteNow a0 a1) := by
  unfold State.voteNow
  split
  · assumption
  · split
    · split
      · apply State.raise_kept
        apply State.latchDecision_kept
        assumption
      · assumption
    · split
      · apply State.raise_kept
        apply State.latchDecision_kept
        assumption
      · apply State.latchDecision_kept
        assumption

theorem State.popProducer_kept (a0 : State) (a1 : Nat) (h0 : Kept q n a0) :
    Kept q n (State.popProducer a0 a1) := by
  unfold State.popProducer
  dsimp only
  split
  · assumption
  · split
    · assumption
    · split
      · apply State.popHead_kept
        assumption
      · apply State.classifyFlit_kept
        apply State.popHead_kept
        assumption

theorem State.gateEdge_kept (a0 : State) (a1 : Bool) (h0 : Kept q n a0) :
    Kept q n (State.gateEdge a0 a1) := by
  unfold State.gateEdge
  apply State.voteNow_kept
  apply Kept.foldl
  · intro x2
    intro x3
    intro x4
    apply State.popProducer_kept
    assumption
  · assumption

theorem State.deadlineEdge_kept (a0 : State) (a1 : Bool) (h0 : Kept q n a0) :
    Kept q n (State.deadlineEdge a0 a1) := by
  unfold State.deadlineEdge
  split
  · assumption
  · dsimp only
    split
    · split
      · apply State.raise_kept
        apply State.latchDecision_kept
        apply State.gateEdge_kept
        assumption
      · apply State.latchDecision_kept
        apply State.gateEdge_kept
        assumption
    · apply State.gateEdge_kept
      assumption

theorem State.gateOpen_kept (a0 : State) (a1 : BitVec 32) (a2 : Nat) (h0 : Kept q n a0) :
    Kept q n (State.gateOpen a0 a1 a2) := by
  unfold State.gateOpen
  dsimp only
  apply Kept.lit
  apply State.keepArr_kept
  assumption

end Sys2Proof.Machine
end

