-- ==== Sys2Proof/Laws/KeptFabric.lean ====
section
/-!
SUPPORT. Every operation of the Lattice, time, the comparators, Ethernet and CAN keeps what `Kept` says.
-/

namespace Sys2Proof.Machine

variable {q : List Instr} {n : Nat}

theorem State.clearStart_kept (a0 : State) (a1 : BitVec 6) (a2 : Nat) (h0 : Kept q n a0) :
    Kept q n (State.clearStart a0 a1 a2) := by
  unfold State.clearStart
  apply Kept.lit
  assumption

theorem State.frameStart_kept (a0 : State) (h0 : Kept q n a0) :
    Kept q n (State.frameStart a0) := by
  unfold State.frameStart
  dsimp only
  apply State.clearStart_kept
  apply Kept.lit
  assumption

theorem State.putLine_kept (a0 : State) (a1 : Nat) (a2 : Word) (h0 : Kept q n a0) :
    Kept q n (State.putLine a0 a1 a2) := by
  unfold State.putLine
  apply State.store_kept
  assumption

theorem State.clearEnd_kept (a0 : State) (h0 : Kept q n a0) :
    Kept q n (State.clearEnd a0) := by
  unfold State.clearEnd
  split
  · assumption
  · dsimp only
    split
    · assumption
    · split
      · split
        · apply State.clearStart_kept
          apply Kept.lit
          apply Kept.foldl
          · intro x8
            intro x9
            intro x10
            apply State.putLine_kept
            assumption
          · assumption
        · apply Kept.lit
          apply Kept.foldl
          · intro x7
            intro x8
            intro x9
            apply State.putLine_kept
            assumption
          · assumption
      · split
        · apply State.clearStart_kept
          apply Kept.lit
          apply Kept.foldl
          · intro x8
            intro x9
            intro x10
            apply State.putLine_kept
            assumption
          · apply State.dropWaiting_kept
            apply State.encode_kept
            apply State.wipe_kept
            assumption
        · apply Kept.lit
          apply Kept.foldl
          · intro x7
            intro x8
            intro x9
            apply State.putLine_kept
            assumption
          · apply State.dropWaiting_kept
            apply State.encode_kept
            apply State.wipe_kept
            assumption

theorem State.clearErr_kept (a0 : State) (a1 : BitVec 6) (h0 : Kept q n a0) :
    Kept q n (State.clearErr a0 a1) := by
  unfold State.clearErr
  apply State.raise_kept
  apply Kept.lit
  assumption

theorem State.undefLine_kept (a0 : State) (a1 : Nat) (h0 : Kept q n a0) :
    Kept q n (State.undefLine a0 a1) := by
  unfold State.undefLine
  dsimp only
  apply State.store_kept
  apply State.draw_kept
  assumption

theorem State.clearWrite_kept (a0 : State) (a1 : Word) (h0 : Kept q n a0) :
    Kept q n (State.clearWrite a0 a1) := by
  unfold State.clearWrite
  split
  · assumption
  · split
    · dsimp only
      split
      · apply Kept.lit
        apply Kept.foldl
        · intro x6
          intro x7
          intro x8
          apply State.putLine_kept
          assumption
        · assumption
      · apply State.clearErr_kept
        apply Kept.lit
        apply Kept.foldl
        · intro x7
          intro x8
          intro x9
          apply State.putLine_kept
          assumption
        · assumption
    · dsimp only
      apply Kept.lit
      apply Kept.foldl
      · intro x5
        intro x6
        intro x7
        split
        · apply State.undefLine_kept
          assumption
        · apply State.putLine_kept
          assumption
      · assumption

theorem State.frameStop_kept (a0 : State) (h0 : Kept q n a0) :
    Kept q n (State.frameStop a0) := by
  unfold State.frameStop
  apply Kept.lit
  assumption

theorem State.reportStale_kept (a0 : State) (h0 : Kept q n a0) :
    Kept q n (State.reportStale a0) := by
  unfold State.reportStale
  split
  · assumption
  · apply State.raise_kept
    apply Kept.lit
    assumption

theorem State.egoStale_kept (a0 : State) (h0 : Kept q n a0) :
    Kept q n (State.egoStale a0) := by
  unfold State.egoStale
  split
  · apply State.reportStale_kept
    assumption
  · assumption

theorem State.fit16_kept (a0 : State) (a1 : Int) (h0 : Kept q n a0) :
    Kept q n (State.fit16 a0 a1).1 := by
  unfold State.fit16
  split
  · assumption
  · dsimp only
    apply State.draw_kept
    assumption

theorem State.lastSample_kept (a0 : State) (h0 : Kept q n a0) :
    Kept q n (State.lastSample a0).1 := by
  unfold State.lastSample
  split
  · assumption
  · dsimp only
    apply State.draw_kept
    apply State.draw_kept
    apply State.draw_kept
    apply State.draw_kept
    assumption

theorem State.intakeCutoff_kept (a0 : State) (h0 : Kept q n a0) :
    Kept q n (State.intakeCutoff a0) := by
  unfold State.intakeCutoff
  split
  · assumption
  · apply Kept.lit
    assumption

theorem State.noticeTo_kept (a0 : State) (a1 : List Word) (a2 : Nat) (a3 : Nat) (h0 : Kept q n a0) :
    Kept q n (State.noticeTo a0 a1 a2 a3) := by
  unfold State.noticeTo
  dsimp only
  split
  · assumption
  · split
    · apply State.blockPush_kept
      assumption
    · split
      · apply Kept.lit
        apply State.blockPush_kept
        assumption
      · apply State.raise_kept
        apply Kept.lit
        apply State.blockPush_kept
        assumption

theorem State.frameBoundary_kept (a0 : State) (h0 : Kept q n a0) :
    Kept q n (State.frameBoundary a0) := by
  unfold State.frameBoundary
  split
  · assumption
  · dsimp only
    apply State.clearStart_kept
    split
    · apply State.reportStale_kept
      apply Kept.lit
      apply State.gateOpen_kept
      apply Kept.foldl
      · intro x8
        intro x9
        intro x10
        apply State.noticeTo_kept
        assumption
      · apply State.lastSample_kept
        apply State.intakeCutoff_kept
        assumption
    · apply Kept.lit
      apply State.gateOpen_kept
      apply Kept.foldl
      · intro x7
        intro x8
        intro x9
        apply State.noticeTo_kept
        assumption
      · apply State.lastSample_kept
        apply State.intakeCutoff_kept
        assumption

theorem State.mkSample_kept (a0 : State) (a1 : Int) (a2 : Int) (a3 : Int) (h0 : Kept q n a0) :
    Kept q n (State.mkSample a0 a1 a2 a3).1 := by
  unfold State.mkSample
  dsimp only
  apply State.fit16_kept
  apply State.fit16_kept
  assumption

theorem State.publish_kept (a0 : State) (a1 : Bool) (a2 : Int) (h0 : Kept q n a0) :
    Kept q n (State.publish a0 a1 a2) := by
  unfold State.publish
  dsimp only
  split
  · split
    · split
      · assumption
      · apply Kept.lit
        assumption
    · split
      · assumption
      · apply Kept.lit
        assumption
  · split
    · split
      · assumption
      · apply Kept.lit
        assumption
    · split
      · assumption
      · apply Kept.lit
        assumption

theorem State.reExpress_kept (a0 : State) (a1 : IntegSample) (a2 : Nat) (a3 : List IntegSample) (h0 : Kept q n a0) :
    Kept q n (State.reExpress a0 a1 a2 a3) := by
  induction a3 generalizing a0 a1 a2 with
  | nil =>
    unfold State.reExpress
    assumption
  | cons x xs ih =>
    unfold State.reExpress
    dsimp only
    split
    · apply Kept.lit
      apply State.mkSample_kept
      assumption
    · apply ih
      apply Kept.lit
      apply State.mkSample_kept
      assumption

theorem State.takeDpsi_kept (a0 : State) (h0 : Kept q n a0) :
    Kept q n (State.takeDpsi a0).1 := by
  unfold State.takeDpsi
  split
  · assumption
  · split
    · dsimp only [KeptRes, KeptRd, KeptWr, KeptBlk, KeptCsrRd]
      apply Kept.lit
      assumption
    · dsimp only
      apply State.raise_kept
      apply State.draw_kept
      assumption

theorem State.takeD_kept (a0 : State) (h0 : Kept q n a0) :
    Kept q n (State.takeD a0).1 := by
  unfold State.takeD
  dsimp only
  apply Kept.lit
  assumption

theorem State.sampleStep_kept (a0 : State) (h0 : Kept q n a0) :
    Kept q n (State.sampleStep a0) := by
  unfold State.sampleStep
  dsimp only
  split
  · apply Kept.lit
    apply State.takeD_kept
    apply State.takeDpsi_kept
    assumption
  · split
    · apply Kept.lit
      apply State.takeD_kept
      apply State.takeDpsi_kept
      assumption
    · split
      · split
        · apply State.reExpress_kept
          apply Kept.lit
          apply State.mkSample_kept
          apply Kept.lit
          apply State.takeD_kept
          apply State.takeDpsi_kept
          assumption
        · apply State.mkSample_kept
          apply Kept.lit
          apply State.takeD_kept
          apply State.takeDpsi_kept
          assumption
      · split
        · apply State.reExpress_kept
          apply Kept.lit
          apply Kept.lit
          apply State.mkSample_kept
          apply Kept.lit
          apply State.takeD_kept
          apply State.takeDpsi_kept
          assumption
        · apply Kept.lit
          apply State.mkSample_kept
          apply Kept.lit
          apply State.takeD_kept
          apply State.takeDpsi_kept
          assumption

theorem State.timeAdj_kept (a0 : State) (a1 : BitVec 32) (h0 : Kept q n a0) :
    Kept q n (State.timeAdj a0 a1) := by
  unfold State.timeAdj
  dsimp only
  apply Kept.lit
  apply State.rebase_kept
  assumption

theorem State.stepSource_kept (a0 : State) (h0 : Kept q n a0) :
    Kept q n (State.stepSource a0).1 := by
  unfold State.stepSource
  dsimp only
  split
  · assumption
  · dsimp only [KeptRes, KeptRd, KeptWr, KeptBlk, KeptCsrRd]
    apply State.draw_kept
    assumption

theorem State.timeRecord_kept (a0 : State) (a1 : BitVec 80) (a2 : Word) (h0 : Kept q n a0) :
    Kept q n (State.timeRecord a0 a1 a2) := by
  unfold State.timeRecord
  apply State.ledgerPut_kept
  assumption

theorem State.timeStep_kept (a0 : State) (a1 : BitVec 80) (h0 : Kept q n a0) :
    Kept q n (State.timeStep a0 a1) := by
  unfold State.timeStep
  dsimp only
  split
  · apply State.raise_kept
    apply State.timeRecord_kept
    apply State.stepSource_kept
    apply Kept.lit
    apply State.rebase_kept
    assumption
  · apply State.timeRecord_kept
    apply State.stepSource_kept
    apply Kept.lit
    apply State.rebase_kept
    assumption

theorem State.timeSync_kept (a0 : State) (a1 : BitVec 32) (h0 : Kept q n a0) :
    Kept q n (State.timeSync a0 a1) := by
  unfold State.timeSync
  dsimp only
  apply Kept.lit
  apply State.rebase_kept
  assumption

theorem State.ppsIn_kept (a0 : State) (h0 : Kept q n a0) :
    Kept q n (State.ppsIn a0) := by
  unfold State.ppsIn
  apply Kept.lit
  assumption

theorem State.timeHold_kept (a0 : State) (h0 : Kept q n a0) :
    Kept q n (State.timeHold a0) := by
  unfold State.timeHold
  split
  · apply State.raise_kept
    dsimp only
    apply Kept.lit
    apply State.rebase_kept
    assumption
  · assumption

theorem State.uncStep_kept (a0 : State) (h0 : Kept q n a0) :
    Kept q n (State.uncStep a0) := by
  unfold State.uncStep
  dsimp only
  split
  · apply Kept.lit
    apply State.rebase_kept
    assumption
  · assumption

theorem State.cvuTake_kept (a0 : State) (a1 : Nat) (a2 : Nat) (h0 : Kept q n a0) :
    Kept q n (State.cvuTake a0 a1 a2).1 := by
  unfold State.cvuTake
  dsimp only
  apply State.setReg_kept
  assumption

theorem State.cvuHanded_kept (a0 : State) (a1 : Nat) (a2 : TxHand) (h0 : Kept q n a0) :
    Kept q n (State.cvuHanded a0 a1 a2).1 := by
  unfold State.cvuHanded
  split
  · dsimp only
    apply State.cvuTake_kept
    assumption
  · assumption

theorem State.setCalc_kept (a0 : State) (a1 : Nat) (a2 : Nat) (a3 : BitVec 32) (h0 : Kept q n a0) :
    Kept q n (State.setCalc a0 a1 a2 a3) := by
  unfold State.setCalc
  apply State.setRegs_kept
  assumption

theorem State.calcClose_kept (a0 : State) (a1 : Nat) (a2 : Nat) (h0 : Kept q n a0) :
    Kept q n (State.calcClose a0 a1 a2) := by
  unfold State.calcClose
  apply Kept.lit
  assumption

theorem State.calcStart_kept (a0 : State) (a1 : Nat) (a2 : Nat) (h0 : Kept q n a0) :
    Kept q n (State.calcStart a0 a1 a2) := by
  unfold State.calcStart
  apply State.setCalc_kept
  apply State.calcClose_kept
  assumption

theorem State.calcPut_kept (a0 : State) (a1 : Nat) (a2 : Nat) (a3 : CalcEdge) (h0 : Kept q n a0) :
    Kept q n (State.calcPut a0 a1 a2 a3) := by
  unfold State.calcPut
  dsimp only
  apply Kept.lit
  apply State.setCalc_kept
  assumption

theorem State.calcData_kept (a0 : State) (a1 : Nat) (a2 : Nat) (a3 : Word) (h0 : Kept q n a0) :
    Kept q n (State.calcData a0 a1 a2 a3) := by
  unfold State.calcData
  dsimp only
  apply State.calcPut_kept
  assumption

theorem State.calcDma_kept (a0 : State) (a1 : Nat) (a2 : Nat) (a3 : List Word) (h0 : Kept q n a0) :
    Kept q n (State.calcDma a0 a1 a2 a3) := by
  unfold State.calcDma
  dsimp only
  apply State.calcPut_kept
  assumption

theorem State.cvuCrcFail_kept (a0 : State) (a1 : Nat) (a2 : Nat) (h0 : Kept q n a0) :
    Kept q n (State.cvuCrcFail a0 a1 a2) := by
  unfold State.cvuCrcFail
  apply State.raise_kept
  apply State.modRx_kept
  assumption

theorem State.cvuComputed_kept (a0 : State) (a1 : Nat) (a2 : Nat) (a3 : Nat) (a4 : List Word) (a5 : Nat)
    (h0 : Kept q n a0) :
    Kept q n (State.cvuComputed a0 a1 a2 a3 a4 a5).1 := by
  unfold State.cvuComputed
  dsimp only
  split
  · dsimp only [KeptRes, KeptRd, KeptWr, KeptBlk, KeptCsrRd]
    apply State.cvuTake_kept
    assumption
  · assumption

theorem State.cvuTimeout_kept (a0 : State) (a1 : Nat) (a2 : Nat) (h0 : Kept q n a0) :
    Kept q n (State.cvuTimeout a0 a1 a2) := by
  unfold State.cvuTimeout
  split
  · assumption
  · split
    · assumption
    · apply State.raise_kept
      apply State.modRx_kept
      assumption

theorem State.cvuClassify_kept (a0 : State) (a1 : Nat) (a2 : Nat) (a3 : Assign) (a4 : List Word) (a5 : Nat)
    (h0 : Kept q n a0) :
    Kept q n (State.cvuClassify a0 a1 a2 a3 a4 a5).1 := by
  unfold State.cvuClassify
  dsimp only
  split
  · apply State.raise_kept
    apply State.modRx_kept
    apply State.cvuTimeout_kept
    assumption
  · apply State.modRx_kept
    apply State.cvuTimeout_kept
    assumption

theorem State.cvuCheck_kept (a0 : State) (a1 : Nat) (a2 : Nat) (a3 : List Word) (a4 : Bool) (h0 : Kept q n a0) :
    Kept q n (State.cvuCheck a0 a1 a2 a3 a4).1 := by
  unfold State.cvuCheck
  dsimp only
  split
  · dsimp only [KeptRes, KeptRd, KeptWr, KeptBlk, KeptCsrRd]
    apply State.cvuCrcFail_kept
    assumption
  · split
    · dsimp only [KeptRes, KeptRd, KeptWr, KeptBlk, KeptCsrRd]
      apply State.raise_kept
      apply Kept.lit
      apply State.cvuComputed_kept
      assumption
    · split
      · dsimp only [KeptRes, KeptRd, KeptWr, KeptBlk, KeptCsrRd]
        apply State.cvuCrcFail_kept
        apply State.cvuComputed_kept
        assumption
      · apply State.cvuClassify_kept
        apply State.cvuComputed_kept
        assumption

theorem State.cvuReceive_kept (a0 : State) (a1 : Nat) (a2 : Nat) (a3 : List Word) (a4 : Bool) (h0 : Kept q n a0) :
    Kept q n (State.cvuReceive a0 a1 a2 a3 a4).1 := by
  unfold State.cvuReceive
  dsimp only
  split
  · dsimp only [KeptRes, KeptRd, KeptWr, KeptBlk, KeptCsrRd]
    apply State.raise_kept
    apply Kept.lit
    assumption
  · apply State.cvuCheck_kept
    assumption

theorem State.bootAnswered_kept (a0 : State) (a1 : Nat) (a2 : List Word) (h0 : Kept q n a0) :
    Kept q n (State.bootAnswered a0 a1 a2) := by
  unfold State.bootAnswered
  split
  · assumption
  · apply State.modPdie_kept
    assumption

theorem State.ethLost_kept (a0 : State) (a1 : Nat) (a2 : Nat) (h0 : Kept q n a0) :
    Kept q n (State.ethLost a0 a1 a2) := by
  unfold State.ethLost
  apply State.modEth_kept
  assumption

theorem State.macHand_kept (a0 : State) (a1 : Nat) (a2 : Nat) (a3 : List Byte) (a4 : Bool) (a5 : Bool)
    (a6 : Nat) (a7 : Nat) (h0 : Kept q n a0) :
    Kept q n (State.macHand a0 a1 a2 a3 a4 a5 a6 a7) := by
  unfold State.macHand
  dsimp only
  split
  · apply State.ethLost_kept
    assumption
  · apply State.modEth_kept
    assumption

theorem State.handOver_kept (a0 : State) (a1 : Nat) (a2 : TxHand) (h0 : Kept q n a0) :
    Kept q n (State.handOver a0 a1 a2) := by
  unfold State.handOver
  split
  · assumption
  · dsimp only
    apply State.macHand_kept
    apply State.bootAnswered_kept
    apply State.modTx_kept
    apply State.cvuHanded_kept
    assumption

theorem State.handed_kept (a0 : State) (a1 : Nat) (h0 : Kept q n a0) :
    Kept q n (State.handed a0 a1) := by
  unfold State.handed
  dsimp only
  apply Kept.foldl
  · intro x2
    intro x3
    intro x4
    apply State.handOver_kept
    assumption
  · apply State.modPdie_kept
    assumption

theorem State.mbxTx_kept (a0 : State) (a1 : Nat) (a2 : Word) (h0 : Kept q n a0) :
    Kept q n (State.mbxTx a0 a1 a2) := by
  unfold State.mbxTx
  apply State.modPdie_kept
  assumption

theorem State.mbxDropped_kept (a0 : State) (a1 : Nat) (h0 : Kept q n a0) :
    Kept q n (State.mbxDropped a0 a1) := by
  unfold State.mbxDropped
  apply State.modPdie_kept
  assumption

theorem State.mbxGo_kept (a0 : State) (a1 : Nat) (h0 : Kept q n a0) :
    Kept q n (State.mbxGo a0 a1) := by
  unfold State.mbxGo
  split
  · assumption
  · dsimp only
    split
    · split
      · apply State.mbxDropped_kept
        apply State.modPdie_kept
        assumption
      · apply State.modPdie_kept
        apply State.modPdie_kept
        assumption
    · split
      · apply State.macHand_kept
        apply State.modPdie_kept
        assumption
      · apply State.mbxDropped_kept
        apply State.modPdie_kept
        assumption

theorem State.mbxPop_kept (a0 : State) (a1 : Nat) (a2 : Nat) (h0 : Kept q n a0) :
    Kept q n (State.mbxPop a0 a1 a2) := by
  unfold State.mbxPop
  apply State.modPdie_kept
  assumption

theorem State.setSa_kept (a0 : State) (a1 : Nat) (a2 : Bool) (a3 : Nat) (a4 : SaSt) (h0 : Kept q n a0) :
    Kept q n (State.setSa a0 a1 a2 a3 a4) := by
  unfold State.setSa
  apply State.modPdie_kept
  assumption

theorem State.saInstall_kept (a0 : State) (a1 : Nat) (a2 : Nat) (h0 : Kept q n a0) :
    Kept q n (State.saInstall a0 a1 a2) := by
  unfold State.saInstall
  dsimp only
  apply State.setSa_kept
  assumption

theorem State.modT1s_kept (a0 : State) (a1 : Nat) (a2 : T1sSt → T1sSt) (h0 : Kept q n a0) :
    Kept q n (State.modT1s a0 a1 a2) := by
  unfold State.modT1s
  apply State.modPdie_kept
  assumption

theorem State.cvuSend_kept (a0 : State) (a1 : Nat) (a2 : Nat) (a3 : List Word) (a4 : Nat) (h0 : Kept q n a0) :
    Kept q n (State.cvuSend a0 a1 a2 a3 a4) := by
  unfold State.cvuSend
  dsimp only
  apply State.modPdie_kept
  assumption

theorem State.ethSecFail_kept (a0 : State) (a1 : Nat) (a2 : Nat) (h0 : Kept q n a0) :
    Kept q n (State.ethSecFail a0 a1 a2) := by
  unfold State.ethSecFail
  apply State.raise_kept
  apply State.modEth_kept
  assumption

theorem State.mbxPut_kept (a0 : State) (a1 : Nat) (a2 : Nat) (a3 : Nat) (a4 : Nat) (a5 : BitVec 80)
    (a6 : List Word) (h0 : Kept q n a0) :
    Kept q n (State.mbxPut a0 a1 a2 a3 a4 a5 a6) := by
  unfold State.mbxPut
  dsimp only
  split
  · apply State.mbxDropped_kept
    assumption
  · apply State.modPdie_kept
    assumption

theorem State.routeTake_kept (a0 : State) (a1 : Nat) (a2 : Nat) (a3 : Nat) (a4 : List Word) (a5 : Nat)
    (a6 : EthRx) (a7 : BitVec 48) (h0 : Kept q n a0) :
    Kept q n (State.routeTake a0 a1 a2 a3 a4 a5 a6 a7) := by
  unfold State.routeTake
  split
  · dsimp only
    apply State.mbxPut_kept
    split
    · assumption
    · apply State.modPdie_kept
      assumption
  · apply State.modPdie_kept
    assumption

theorem State.ethCvu_kept (a0 : State) (a1 : Nat) (a2 : Nat) (a3 : EthRx) (a4 : EthParts) (a5 : Nat)
    (h0 : Kept q n a0) :
    Kept q n (State.ethCvu a0 a1 a2 a3 a4 a5) := by
  unfold State.ethCvu
  split
  · assumption
  · dsimp only
    split
    · apply State.cvuReceive_kept
      assumption
    · apply State.routeTake_kept
      apply State.cvuReceive_kept
      assumption

theorem State.ethMbx_kept (a0 : State) (a1 : Nat) (a2 : Nat) (a3 : EthRx) (h0 : Kept q n a0) :
    Kept q n (State.ethMbx a0 a1 a2 a3) := by
  unfold State.ethMbx
  apply State.mbxPut_kept
  assumption

theorem State.ethOther_kept (a0 : State) (a1 : Nat) (a2 : Nat) (h0 : Kept q n a0) :
    Kept q n (State.ethOther a0 a1 a2) := by
  unfold State.ethOther
  apply State.modEth_kept
  assumption

theorem State.ethByType_kept (a0 : State) (a1 : Nat) (a2 : Nat) (a3 : EthRx) (a4 : EthParts) (a5 : Nat)
    (h0 : Kept q n a0) :
    Kept q n (State.ethByType a0 a1 a2 a3 a4 a5) := by
  unfold State.ethByType
  split
  · split
    · apply State.ethSecFail_kept
      assumption
    · apply State.ethCvu_kept
      assumption
  · split
    · apply State.ethMbx_kept
      assumption
    · split
      · apply State.ethMbx_kept
        assumption
      · apply State.ethOther_kept
        assumption

theorem State.ethAccepted_kept (a0 : State) (a1 : Nat) (a2 : Nat) (a3 : EthRx) (a4 : EthParts) (a5 : Nat)
    (h0 : Kept q n a0) :
    Kept q n (State.ethAccepted a0 a1 a2 a3 a4 a5) := by
  unfold State.ethAccepted
  dsimp only
  split
  · apply State.ethByType_kept
    apply State.modEth_kept
    assumption
  · split
    · apply State.ethOther_kept
      apply State.modEth_kept
      assumption
    · split
      · apply State.ethSecFail_kept
        apply State.modEth_kept
        assumption
      · apply State.ethByType_kept
        apply State.setSa_kept
        apply State.modEth_kept
        assumption

theorem State.ethDown_kept (a0 : State) (a1 : Nat) (a2 : Nat) (a3 : Bool) (h0 : Kept q n a0) :
    Kept q n (State.ethDown a0 a1 a2 a3) := by
  unfold State.ethDown
  dsimp only
  split
  · assumption
  · apply State.raise_kept
    apply State.modEth_kept
    assumption

theorem State.ethReceive_kept (a0 : State) (a1 : Nat) (a2 : Nat) (a3 : EthRx) (h0 : Kept q n a0) :
    Kept q n (State.ethReceive a0 a1 a2 a3) := by
  unfold State.ethReceive
  dsimp only
  split
  · assumption
  · split
    · apply State.modPdie_kept
      assumption
    · split
      · split
        · split
          · apply State.modEth_kept
            assumption
          · split
            · apply State.modEth_kept
              assumption
            · split
              · apply State.ethAccepted_kept
                assumption
              · apply State.ethOther_kept
                assumption
        · split
          · apply State.modEth_kept
            assumption
          · split
            · apply State.modEth_kept
              assumption
            · split
              · apply State.ethAccepted_kept
                assumption
              · apply State.ethOther_kept
                assumption
      · split
        · split
          · apply State.modEth_kept
            assumption
          · split
            · apply State.modEth_kept
              assumption
            · split
              · apply State.ethAccepted_kept
                assumption
              · apply State.ethOther_kept
                assumption
        · split
          · apply State.modEth_kept
            assumption
          · split
            · apply State.modEth_kept
              assumption
            · split
              · apply State.ethAccepted_kept
                assumption
              · apply State.ethOther_kept
                assumption

theorem State.ethUp_kept (a0 : State) (a1 : Nat) (a2 : Nat) (h0 : Kept q n a0) :
    Kept q n (State.ethUp a0 a1 a2) := by
  unfold State.ethUp
  split
  · apply State.modEth_kept
    assumption
  · assumption

theorem State.saNext_kept (a0 : State) (a1 : Nat) (h0 : Kept q n a0) :
    Kept q n (State.saNext a0 a1) := by
  unfold State.saNext
  dsimp only
  split
  · assumption
  · split
    · apply State.raise_kept
      apply State.setSa_kept
      assumption
    · apply State.setSa_kept
      assumption

theorem State.macSend_kept (a0 : State) (a1 : Nat) (a2 : Nat) (a3 : TxFrame) (h0 : Kept q n a0) :
    Kept q n (State.macSend a0 a1 a2 a3) := by
  unfold State.macSend
  split
  · apply State.ethLost_kept
    assumption
  · dsimp only
    split
    · apply State.orReg_kept
      apply State.modEth_kept
      apply State.modEth_kept
      split
      · apply State.saNext_kept
        assumption
      · assumption
    · apply State.modEth_kept
      split
      · apply State.saNext_kept
        assumption
      · assumption

theorem State.macStart_kept (a0 : State) (a1 : Nat) (a2 : Nat) (h0 : Kept q n a0) :
    Kept q n (State.macStart a0 a1 a2) := by
  unfold State.macStart
  dsimp only
  split
  · assumption
  · split
    · assumption
    · apply State.macSend_kept
      apply State.modEth_kept
      assumption

theorem State.mbxArm_kept (a0 : State) (a1 : Nat) (a2 : Nat) (h0 : Kept q n a0) :
    Kept q n (State.mbxArm a0 a1 a2) := by
  unfold State.mbxArm
  split
  · assumption
  · split
    · apply State.modPdie_kept
      assumption
    · assumption

theorem State.mbxStart_kept (a0 : State) (a1 : Nat) (h0 : Kept q n a0) :
    Kept q n (State.mbxStart a0 a1) := by
  unfold State.mbxStart
  split
  · assumption
  · split
    · split
      · assumption
      · dsimp only
        apply State.cvuSend_kept
        apply State.modPdie_kept
        assumption
    · assumption

theorem State.t1sSend_kept (a0 : State) (a1 : Nat) (a2 : Nat) (h0 : Kept q n a0) :
    Kept q n (State.t1sSend a0 a1 a2) := by
  induction a2 generalizing a0 a1 with
  | zero =>
    unfold State.t1sSend
    assumption
  | succ m ih =>
    unfold State.t1sSend
    split
    · assumption
    · split
      · assumption
      · apply ih
        apply State.macSend_kept
        apply State.modEth_kept
        assumption

theorem State.plcaTx_kept (a0 : State) (a1 : Nat) (h0 : Kept q n a0) :
    Kept q n (State.plcaTx a0 a1) := by
  unfold State.plcaTx
  dsimp only
  split
  · assumption
  · apply State.modT1s_kept
    apply State.t1sSend_kept
    assumption

theorem State.routeDone_kept (a0 : State) (a1 : Nat) (a2 : RouteMsg) (a3 : Nat) (h0 : Kept q n a0) :
    Kept q n (State.routeDone a0 a1 a2 a3) := by
  unfold State.routeDone
  dsimp only
  apply State.modPdie_kept
  assumption

theorem State.routePush_kept (a0 : State) (a1 : Nat) (a2 : Nat) (h0 : Kept q n a0) :
    Kept q n (State.routePush a0 a1 a2) := by
  unfold State.routePush
  split
  · assumption
  · dsimp only
    split
    · assumption
    · apply State.routeDone_kept
      apply Kept.foldl
      · intro x5
        intro x6
        intro x7
        apply State.blockPush_kept
        assumption
      · assumption

theorem State.t1sBeacon_kept (a0 : State) (a1 : Nat) (h0 : Kept q n a0) :
    Kept q n (State.t1sBeacon a0 a1) := by
  unfold State.t1sBeacon
  split
  · assumption
  · split
    · apply State.raise_kept
      apply State.modT1s_kept
      assumption
    · apply State.modT1s_kept
      assumption

theorem State.t1sCollide_kept (a0 : State) (a1 : Nat) (h0 : Kept q n a0) :
    Kept q n (State.t1sCollide a0 a1) := by
  unfold State.t1sCollide
  dsimp only
  split
  · assumption
  · split
    · apply State.modT1s_kept
      split
      · apply State.raise_kept
        assumption
      · assumption
    · apply State.modEth_kept
      apply State.modT1s_kept
      split
      · apply State.raise_kept
        assumption
      · assumption

theorem State.t1sLoss_kept (a0 : State) (a1 : Nat) (h0 : Kept q n a0) :
    Kept q n (State.t1sLoss a0 a1) := by
  unfold State.t1sLoss
  dsimp only
  split
  · assumption
  · apply State.raise_kept
    apply State.modT1s_kept
    assumption

theorem State.txFlit_kept (a0 : State) (a1 : Nat) (a2 : Nat) (a3 : Flit) (h0 : Kept q n a0) :
    Kept q n (State.txFlit a0 a1 a2 a3) := by
  unfold State.txFlit
  dsimp only
  split
  · apply State.mbxArm_kept
    split
    · apply State.modTx_kept
      assumption
    · split
      · apply State.raise_kept
        apply State.modTx_kept
        assumption
      · apply State.cvuSend_kept
        apply State.modTx_kept
        assumption
  · split
    · apply State.modTx_kept
      assumption
    · split
      · apply State.raise_kept
        apply State.modTx_kept
        assumption
      · apply State.modTx_kept
        assumption

theorem State.txPop_kept (a0 : State) (a1 : Nat) (a2 : Nat) (h0 : Kept q n a0) :
    Kept q n (State.txPop a0 a1 a2) := by
  unfold State.txPop
  dsimp only
  split
  · assumption
  · split
    · assumption
    · apply State.txFlit_kept
      apply State.modTx_kept
      apply State.popHead_kept
      assumption

theorem State.canErr_kept (a0 : State) (a1 : Nat) (a2 : Nat) (a3 : CanErr) (h0 : Kept q n a0) :
    Kept q n (State.canErr a0 a1 a2 a3) := by
  unfold State.canErr
  dsimp only
  split
  · apply State.raise_kept
    apply State.modCan_kept
    assumption
  · apply State.modCan_kept
    assumption

theorem State.canPop_kept (a0 : State) (a1 : Nat) (a2 : Nat) (h0 : Kept q n a0) :
    Kept q n (State.canPop a0 a1 a2) := by
  unfold State.canPop
  dsimp only
  split
  · apply State.modCan_kept
    split
    · split
      · apply State.modCan_kept
        apply State.dropPoison_kept
        assumption
      · apply State.dropPoison_kept
        assumption
    · split
      · apply State.modCan_kept
        apply State.dropPoison_kept
        assumption
      · apply State.dropPoison_kept
        assumption
  · split
    · split
      · split
        · apply State.modCan_kept
          apply State.dropPoison_kept
          assumption
        · apply State.dropPoison_kept
          assumption
      · split
        · apply State.modCan_kept
          apply State.dropPoison_kept
          assumption
        · apply State.dropPoison_kept
          assumption
    · split
      · split
        · split
          · apply State.modCan_kept
            apply Kept.repeat'
            · intro x8
              intro x9
              apply State.popHead_kept
              assumption
            · apply State.modCan_kept
              apply State.dropPoison_kept
              assumption
          · split
            · apply State.modCan_kept
              apply Kept.repeat'
              · intro x9
                intro x10
                apply State.popHead_kept
                assumption
              · apply State.modCan_kept
                apply State.dropPoison_kept
                assumption
            · apply State.modCan_kept
              apply Kept.repeat'
              · intro x9
                intro x10
                apply State.popHead_kept
                assumption
              · apply State.modCan_kept
                apply State.dropPoison_kept
                assumption
        · split
          · apply State.modCan_kept
            apply Kept.repeat'
            · intro x8
              intro x9
              apply State.popHead_kept
              assumption
            · apply State.dropPoison_kept
              assumption
          · split
            · apply State.modCan_kept
              apply Kept.repeat'
              · intro x9
                intro x10
                apply State.popHead_kept
                assumption
              · apply State.dropPoison_kept
                assumption
            · apply State.modCan_kept
              apply Kept.repeat'
              · intro x9
                intro x10
                apply State.popHead_kept
                assumption
              · apply State.dropPoison_kept
                assumption
      · split
        · split
          · apply State.modCan_kept
            apply Kept.repeat'
            · intro x8
              intro x9
              apply State.popHead_kept
              assumption
            · apply State.modCan_kept
              apply State.dropPoison_kept
              assumption
          · split
            · apply State.modCan_kept
              apply Kept.repeat'
              · intro x9
                intro x10
                apply State.popHead_kept
                assumption
              · apply State.modCan_kept
                apply State.dropPoison_kept
                assumption
            · apply State.modCan_kept
              apply Kept.repeat'
              · intro x9
                intro x10
                apply State.popHead_kept
                assumption
              · apply State.modCan_kept
                apply State.dropPoison_kept
                assumption
        · split
          · apply State.modCan_kept
            apply Kept.repeat'
            · intro x8
              intro x9
              apply State.popHead_kept
              assumption
            · apply State.dropPoison_kept
              assumption
          · split
            · apply State.modCan_kept
              apply Kept.repeat'
              · intro x9
                intro x10
                apply State.popHead_kept
                assumption
              · apply State.dropPoison_kept
                assumption
            · apply State.modCan_kept
              apply Kept.repeat'
              · intro x9
                intro x10
                apply State.popHead_kept
                assumption
              · apply State.dropPoison_kept
                assumption

theorem State.canPush_kept (a0 : State) (a1 : Nat) (a2 : Nat) (h0 : Kept q n a0) :
    Kept q n (State.canPush a0 a1 a2) := by
  unfold State.canPush
  split
  · assumption
  · dsimp only
    split
    · assumption
    · apply State.modCan_kept
      apply State.blockPush_kept
      assumption

theorem State.canReceive_kept (a0 : State) (a1 : Nat) (a2 : Nat) (a3 : CanFrame) (h0 : Kept q n a0) :
    Kept q n (State.canReceive a0 a1 a2 a3) := by
  unfold State.canReceive
  split
  · assumption
  · dsimp only
    split
    · apply State.modCan_kept
      apply State.canErr_kept
      assumption
    · split
      · apply State.raise_kept
        apply State.modCan_kept
        apply State.canErr_kept
        assumption
      · apply State.modCan_kept
        apply State.canErr_kept
        assumption

theorem State.canRecover_kept (a0 : State) (a1 : Nat) (a2 : Nat) (h0 : Kept q n a0) :
    Kept q n (State.canRecover a0 a1 a2) := by
  unfold State.canRecover
  split
  · apply State.modCan_kept
    assumption
  · assumption

theorem State.canTransmit_kept (a0 : State) (a1 : Nat) (a2 : Nat) (a3 : CanOutcome) (h0 : Kept q n a0) :
    Kept q n (State.canTransmit a0 a1 a2 a3) := by
  unfold State.canTransmit
  split
  · assumption
  · dsimp only
    split
    · split
      · apply State.canPop_kept
        assumption
      · split
        · apply State.modCan_kept
          apply State.canErr_kept
          apply State.canPop_kept
          assumption
        · split
          · apply State.modCan_kept
            apply State.canErr_kept
            apply State.canPop_kept
            assumption
          · apply State.canErr_kept
            apply State.canPop_kept
            assumption
    · split
      · assumption
      · split
        · apply State.modCan_kept
          apply State.canErr_kept
          assumption
        · split
          · apply State.modCan_kept
            apply State.canErr_kept
            assumption
          · apply State.canErr_kept
            assumption

end Sys2Proof.Machine
end

