-- ==== Sys2Proof/Laws/KeptParts.lean ====
section
/-!
SUPPORT. Every operation of boot records, the pack, positioning, interrupt lines, Crumb, the engine loader and the Sifters keeps what `Kept` says.
-/

namespace Sys2Proof.Machine

variable {q : List Instr} {n : Nat}

theorem State.setFail_kept (a0 : State) (a1 : Nat) (a2 : Bool) (a3 : Nat) (h0 : Kept q n a0) :
    Kept q n (State.setFail a0 a1 a2 a3) := by
  unfold State.setFail
  apply State.modBootKind_kept
  assumption

theorem State.slotEntry_kept (a0 : State) (a1 : Nat) (a2 : Bool) (a3 : Nat) (a4 : Word) (h0 : Kept q n a0) :
    Kept q n (State.slotEntry a0 a1 a2 a3 a4) := by
  unfold State.slotEntry
  apply State.bbxReq_kept
  assumption

theorem State.putRecord_kept (a0 : State) (a1 : Bool) (a2 : BootCopy) (h0 : Kept q n a0) :
    Kept q n (State.putRecord a0 a1 a2) := by
  unfold State.putRecord
  dsimp only
  apply Kept.lit
  apply State.store_kept
  assumption

theorem State.setSlotRec_kept (a0 : State) (a1 : Nat) (a2 : Bool) (a3 : SlotRec) (h0 : Kept q n a0) :
    Kept q n (State.setSlotRec a0 a1 a2 a3) := by
  unfold State.setSlotRec
  split
  · assumption
  · dsimp only
    apply State.putRecord_kept
    apply State.putRecord_kept
    assumption

theorem State.bootFailed_kept (a0 : State) (a1 : Nat) (a2 : Bool) (a3 : Nat) (h0 : Kept q n a0) :
    Kept q n (State.bootFailed a0 a1 a2 a3) := by
  unfold State.bootFailed
  split
  · assumption
  · dsimp only
    split
    · apply State.slotEntry_kept
      apply State.setSlotRec_kept
      apply State.modBootKind_kept
      apply State.setFail_kept
      assumption
    · apply State.slotEntry_kept
      apply State.modBootKind_kept
      apply State.setFail_kept
      assumption

theorem State.bootTry_kept (a0 : State) (a1 : Nat) (a2 : Bool) (h0 : Kept q n a0) :
    Kept q n (State.bootTry a0 a1 a2) := by
  unfold State.bootTry
  dsimp only
  split
  · apply State.setSlotRec_kept
    assumption
  · assumption

theorem State.passFail_kept (a0 : State) (a1 : Nat) (a2 : Bool) (h0 : Kept q n a0) :
    Kept q n (State.passFail a0 a1 a2) := by
  unfold State.passFail
  split
  · apply State.setFail_kept
    assumption
  · split
    · assumption
    · apply State.setFail_kept
      assumption

theorem State.bootChoose_kept (a0 : State) (a1 : Nat) (h0 : Kept q n a0) :
    Kept q n (State.bootChoose a0 a1) := by
  unfold State.bootChoose
  dsimp only
  apply State.modBootKind_kept
  apply State.passFail_kept
  apply State.passFail_kept
  assumption

theorem State.bootUse_kept (a0 : State) (a1 : Nat) (a2 : Bool) (h0 : Kept q n a0) :
    Kept q n (State.bootUse a0 a1 a2) := by
  unfold State.bootUse
  dsimp only
  apply Kept.lit
  apply State.modBootKind_kept
  assumption

theorem State.confirmSlot_kept (a0 : State) (a1 : Nat) (a2 : Bool) (h0 : Kept q n a0) :
    Kept q n (State.confirmSlot a0 a1 a2) := by
  unfold State.confirmSlot
  dsimp only
  split
  · split
    · apply State.modBootKind_kept
      apply State.setSlotRec_kept
      assumption
    · apply State.setSlotRec_kept
      assumption
  · assumption

theorem State.readRecord_kept (a0 : State) (h0 : Kept q n a0) :
    Kept q n (State.readRecord a0) := by
  unfold State.readRecord
  apply State.readCheck_kept
  apply State.readCheck_kept
  assumption

theorem State.rejectSlot_kept (a0 : State) (a1 : Nat) (a2 : Bool) (h0 : Kept q n a0) :
    Kept q n (State.rejectSlot a0 a1 a2) := by
  unfold State.rejectSlot
  dsimp only
  split
  · apply State.slotEntry_kept
    apply State.setFail_kept
    apply State.modBootKind_kept
    apply State.setSlotRec_kept
    assumption
  · assumption

theorem State.repairRecord_kept (a0 : State) (h0 : Kept q n a0) :
    Kept q n (State.repairRecord a0) := by
  unfold State.repairRecord
  dsimp only
  split
  · apply State.readRecord_kept
    assumption
  · split
    · apply State.bbxReq_kept
      apply State.putRecord_kept
      apply State.readRecord_kept
      assumption
    · split
      · apply State.bbxReq_kept
        apply State.putRecord_kept
        apply State.readRecord_kept
        assumption
      · apply State.bbxReq_kept
        apply State.putRecord_kept
        apply State.putRecord_kept
        apply State.readRecord_kept
        assumption

theorem State.packGo_kept (a0 : State) (a1 : Bool) (h0 : Kept q n a0) :
    Kept q n (State.packGo a0 a1) := by
  unfold State.packGo
  split
  · assumption
  · dsimp only
    apply Kept.lit
    apply State.bootTry_kept
    split
    · assumption
    · apply State.store_kept
      assumption

theorem State.chunks_kept (a0 : State) (a1 : Nat) (a2 : Nat) (a3 : Nat) (a4 : Nat) (a5 : Nat) (h0 : Kept q n a0) :
    Kept q n (State.chunks a0 a1 a2 a3 a4 a5).1 := by
  induction a3 generalizing a0 a4 with
  | zero =>
    unfold State.chunks
    exact h0
  | succ m ih =>
    unfold State.chunks
    dsimp only
    split
    · split
      · assumption
      · split
        · assumption
        · apply ih
          apply State.store_kept
          assumption
    · split
      · assumption
      · split
        · assumption
        · apply ih
          apply State.store_kept
          assumption


theorem State.flashRead_kept (a0 : State) (a1 : Nat) (a2 : Nat) (h0 : Kept q n a0) :
    Kept q n (State.flashRead a0 a1 a2).1 := by
  unfold State.flashRead
  dsimp only
  apply State.readCheck_kept
  assumption

theorem State.expandChunks_kept (a0 : State) (a1 : Bool) (a2 : List Word) (a3 : Nat) (h0 : Kept q n a0) :
    Kept q n (State.expandChunks a0 a1 a2 a3).1 := by
  unfold State.expandChunks
  apply State.chunks_kept
  apply State.store_kept
  assumption

theorem State.expandEnd_kept (a0 : State) (a1 : List Word) (a2 : List Word) (a3 : Nat) (h0 : Kept q n a0) :
    Kept q n (State.expandEnd a0 a1 a2 a3) := by
  unfold State.expandEnd
  dsimp only
  apply Kept.lit
  apply State.store_kept
  apply State.store_kept
  assumption

theorem State.expandBody_kept (a0 : State) (a1 : Bool) (a2 : List Word) (a3 : List Word) (h0 : Kept q n a0) :
    Kept q n (State.expandBody a0 a1 a2 a3).1 := by
  unfold State.expandBody
  split
  · dsimp only [KeptRes, KeptRd, KeptWr, KeptBlk, KeptCsrRd]
    refine Kept.fst ?_ (by assumption)
    apply State.expandChunks_kept
    assumption
  · dsimp only [KeptRes, KeptRd, KeptWr, KeptBlk, KeptCsrRd]
    apply State.expandEnd_kept
    refine Kept.fst ?_ (by assumption)
    apply State.expandChunks_kept
    assumption

theorem State.expandSlot_kept (a0 : State) (a1 : Bool) (a2 : List Word) (h0 : Kept q n a0) :
    Kept q n (State.expandSlot a0 a1 a2).1 := by
  unfold State.expandSlot
  split
  · assumption
  · split
    · dsimp only [KeptRes, KeptRd, KeptWr, KeptBlk, KeptCsrRd]
      refine Kept.fst ?_ (by assumption)
      apply State.flashRead_kept
      assumption
    · split
      · dsimp only [KeptRes, KeptRd, KeptWr, KeptBlk, KeptCsrRd]
        refine Kept.fst ?_ (by assumption)
        apply State.flashRead_kept
        assumption
      · apply State.expandBody_kept
        refine Kept.fst ?_ (by assumption)
        apply State.flashRead_kept
        assumption

theorem expandWith_kept (a0 : Bool) (a1 : State × Option (List Word)) (h1 : Kept q n a1.1) :
    Kept q n (expandWith a0 a1).1 := by
  unfold expandWith
  split
  · exact State.expandSlot_kept _ _ _ h1
  · exact h1

theorem State.expandHead_kept (a0 : State) (a1 : Bool) (h0 : Kept q n a0) :
    Kept q n (State.expandHead a0 a1).1 := by
  unfold State.expandHead
  dsimp only
  apply State.flashRead_kept
  apply State.flashRead_kept
  assumption

theorem State.expand_kept (a0 : State) (a1 : Bool) (h0 : Kept q n a0) :
    Kept q n (State.expand a0 a1).1 := by
  unfold State.expand
  split
  · assumption
  · apply expandWith_kept
    apply State.expandHead_kept
    assumption

theorem State.packEnd_kept (a0 : State) (h0 : Kept q n a0) :
    Kept q n (State.packEnd a0) := by
  unfold State.packEnd
  split
  · assumption
  · dsimp only
    split
    · apply State.configRecord_kept
      apply State.confirmSlot_kept
      apply State.modBootKind_kept
      apply State.bootUse_kept
      apply Kept.lit
      apply State.expand_kept
      assumption
    · apply State.raise_kept
      apply State.bootFailed_kept
      apply Kept.lit
      apply State.expand_kept
      assumption

theorem State.activityRecord_kept (a0 : State) (a1 : Nat) (a2 : Nat) (a3 : ActivitySt) (h0 : Kept q n a0) :
    Kept q n (State.activityRecord a0 a1 a2 a3) := by
  unfold State.activityRecord
  apply State.ledgerPut_kept
  assumption

theorem State.addCharge_kept (a0 : State) (a1 : Nat) (h0 : Kept q n a0) :
    Kept q n (State.addCharge a0 a1) := by
  unfold State.addCharge
  dsimp only
  apply Kept.lit
  assumption

theorem State.msCommit_kept (a0 : State) (h0 : Kept q n a0) :
    Kept q n (State.msCommit a0) := by
  unfold State.msCommit
  apply Kept.lit
  assumption

theorem State.unsupervised_kept (a0 : State) (h0 : Kept q n a0) :
    Kept q n (State.unsupervised a0) := by
  unfold State.unsupervised
  dsimp only
  split
  · assumption
  · apply State.activityRecord_kept
    apply Kept.lit
    assumption

theorem State.closeCharge_kept (a0 : State) (h0 : Kept q n a0) :
    Kept q n (State.closeCharge a0) := by
  unfold State.closeCharge
  dsimp only
  apply Kept.lit
  apply State.ledgerPut_kept
  assumption

theorem State.fixActivity_kept (a0 : State) (h0 : Kept q n a0) :
    Kept q n (State.fixActivity a0) := by
  unfold State.fixActivity
  dsimp only
  apply State.unsupervised_kept
  split
  · split
    · apply State.activityRecord_kept
      apply Kept.lit
      apply State.draw_kept
      apply State.activityRecord_kept
      apply Kept.lit
      assumption
    · apply State.activityRecord_kept
      apply Kept.lit
      assumption
  · split
    · apply State.activityRecord_kept
      apply Kept.lit
      apply State.draw_kept
      assumption
    · assumption

theorem State.fixAgree_kept (a0 : State) (a1 : FixInput) (h0 : Kept q n a0) :
    Kept q n (State.fixAgree a0 a1) := by
  unfold State.fixAgree
  split
  · apply Kept.lit
    assumption
  · split
    · apply Kept.lit
      assumption
    · dsimp only
      split
      · split
        · split
          · apply State.raise_kept
            apply Kept.lit
            assumption
          · apply Kept.lit
            assumption
        · apply Kept.lit
          assumption
      · split
        · split
          · apply State.raise_kept
            apply Kept.lit
            assumption
          · apply Kept.lit
            assumption
        · apply Kept.lit
          assumption

theorem State.fixCharge_kept (a0 : State) (h0 : Kept q n a0) :
    Kept q n (State.fixCharge a0) := by
  unfold State.fixCharge
  dsimp only
  split
  · split
    · apply State.closeCharge_kept
      apply State.addCharge_kept
      apply Kept.lit
      assumption
    · apply State.addCharge_kept
      apply Kept.lit
      assumption
  · split
    · split
      · apply State.closeCharge_kept
        apply State.addCharge_kept
        apply Kept.lit
        apply State.closeCharge_kept
        apply Kept.lit
        assumption
      · apply State.addCharge_kept
        apply Kept.lit
        apply State.closeCharge_kept
        apply Kept.lit
        assumption
    · split
      · split
        · apply State.closeCharge_kept
          apply State.addCharge_kept
          apply Kept.lit
          apply State.closeCharge_kept
          apply Kept.lit
          assumption
        · apply State.addCharge_kept
          apply Kept.lit
          apply State.closeCharge_kept
          apply Kept.lit
          assumption
      · split
        · apply State.closeCharge_kept
          apply State.addCharge_kept
          apply Kept.lit
          apply State.closeCharge_kept
          apply Kept.lit
          assumption
        · apply State.addCharge_kept
          apply Kept.lit
          apply State.closeCharge_kept
          apply Kept.lit
          assumption

theorem State.fixPlace_kept (a0 : State) (a1 : FixInput) (h0 : Kept q n a0) :
    Kept q n (State.fixPlace a0 a1) := by
  unfold State.fixPlace
  dsimp only
  apply Kept.lit
  assumption

theorem State.fixSpeed_kept (a0 : State) (h0 : Kept q n a0) :
    Kept q n (State.fixSpeed a0) := by
  unfold State.fixSpeed
  dsimp only
  split
  · apply Kept.lit
    assumption
  · apply Kept.lit
    apply State.draw_kept
    assumption

theorem State.fixSpoof_kept (a0 : State) (a1 : FixInput) (h0 : Kept q n a0) :
    Kept q n (State.fixSpoof a0 a1) := by
  unfold State.fixSpoof
  dsimp only
  split
  · split
    · split
      · apply State.raise_kept
        apply Kept.lit
        assumption
      · apply Kept.lit
        assumption
    · split
      · apply State.raise_kept
        apply Kept.lit
        assumption
      · apply Kept.lit
        assumption
  · split
    · split
      · apply State.raise_kept
        apply Kept.lit
        assumption
      · apply Kept.lit
        assumption
    · split
      · apply State.raise_kept
        apply Kept.lit
        assumption
      · apply Kept.lit
        assumption

theorem State.fixValid_kept (a0 : State) (h0 : Kept q n a0) :
    Kept q n (State.fixValid a0) := by
  unfold State.fixValid
  apply Kept.lit
  assumption

theorem State.openCharge_kept (a0 : State) (h0 : Kept q n a0) :
    Kept q n (State.openCharge a0) := by
  unfold State.openCharge
  apply Kept.lit
  assumption

theorem State.msPairing_kept (a0 : State) (a1 : Bool) (h0 : Kept q n a0) :
    Kept q n (State.msPairing a0 a1) := by
  unfold State.msPairing
  split
  · assumption
  · split
    · apply Kept.lit
      assumption
    · apply State.raise_kept
      apply Kept.lit
      assumption

theorem State.positionRecord_kept (a0 : State) (h0 : Kept q n a0) :
    Kept q n (State.positionRecord a0) := by
  unfold State.positionRecord
  apply State.ledgerPut_kept
  assumption

theorem State.positionFix_kept (a0 : State) (a1 : FixInput) (h0 : Kept q n a0) :
    Kept q n (State.positionFix a0 a1) := by
  unfold State.positionFix
  dsimp only
  apply State.fixActivity_kept
  apply State.fixCharge_kept
  apply State.positionRecord_kept
  apply State.fixValid_kept
  apply State.fixAgree_kept
  apply State.fixSpeed_kept
  apply State.fixSpoof_kept
  apply State.fixPlace_kept
  split
  · apply State.raise_kept
    assumption
  · assumption

theorem State.modMsi_kept (a0 : State) (a1 : MsiSt → MsiSt) (h0 : Kept q n a0) :
    Kept q n (State.modMsi a0 a1) := by
  unfold State.modMsi
  apply Kept.lit
  assumption

theorem State.msSend_kept (a0 : State) (a1 : Byte) (h0 : Kept q n a0) :
    Kept q n (State.msSend a0 a1) := by
  unfold State.msSend
  apply State.modMsi_kept
  assumption

theorem State.msDrop_kept (a0 : State) (h0 : Kept q n a0) :
    Kept q n (State.msDrop a0) := by
  unfold State.msDrop
  apply State.modMsi_kept
  assumption

theorem State.cardOn_kept (a0 : State) (a1 : Nat) (h0 : Kept q n a0) :
    Kept q n (State.cardOn a0 a1) := by
  unfold State.cardOn
  apply State.modCard_kept
  assumption

theorem State.cardOff_kept (a0 : State) (a1 : Nat) (h0 : Kept q n a0) :
    Kept q n (State.cardOff a0 a1) := by
  unfold State.cardOff
  apply State.modCard_kept
  assumption

theorem State.cardSend_kept (a0 : State) (a1 : Nat) (a2 : Byte) (h0 : Kept q n a0) :
    Kept q n (State.cardSend a0 a1 a2) := by
  unfold State.cardSend
  apply State.modCard_kept
  assumption

theorem State.cardDrop_kept (a0 : State) (a1 : Nat) (h0 : Kept q n a0) :
    Kept q n (State.cardDrop a0 a1) := by
  unfold State.cardDrop
  apply State.modCard_kept
  assumption

theorem State.spiPut_kept (a0 : State) (a1 : Nat) (a2 : Word) (h0 : Kept q n a0) :
    Kept q n (State.spiPut a0 a1 a2) := by
  unfold State.spiPut
  apply State.modSpi_kept
  assumption

theorem State.spiDrop_kept (a0 : State) (a1 : Nat) (h0 : Kept q n a0) :
    Kept q n (State.spiDrop a0 a1) := by
  unfold State.spiDrop
  apply State.modSpi_kept
  assumption

theorem State.modUart_kept (a0 : State) (a1 : Nat) (a2 : UartSt → UartSt) (h0 : Kept q n a0) :
    Kept q n (State.modUart a0 a1 a2) := by
  unfold State.modUart
  apply State.modPdie_kept
  assumption

theorem State.uartPut_kept (a0 : State) (a1 : Nat) (a2 : Byte) (h0 : Kept q n a0) :
    Kept q n (State.uartPut a0 a1 a2) := by
  unfold State.uartPut
  apply State.modUart_kept
  assumption

theorem State.uartDrop_kept (a0 : State) (a1 : Nat) (h0 : Kept q n a0) :
    Kept q n (State.uartDrop a0 a1) := by
  unfold State.uartDrop
  apply State.modUart_kept
  assumption

theorem State.cardChar_kept (a0 : State) (a1 : Nat) (a2 : Byte) (a3 : Bool) (h0 : Kept q n a0) :
    Kept q n (State.cardChar a0 a1 a2 a3) := by
  unfold State.cardChar
  split
  · apply State.modCard_kept
    assumption
  · assumption

theorem State.slotGone_kept (a0 : State) (a1 : Nat) (h0 : Kept q n a0) :
    Kept q n (State.slotGone a0 a1) := by
  unfold State.slotGone
  dsimp only
  split
  · split
    · assumption
    · apply State.unsupervised_kept
      apply Kept.lit
      apply State.activityRecord_kept
      assumption
  · split
    · assumption
    · apply State.unsupervised_kept
      apply Kept.lit
      apply State.activityRecord_kept
      assumption

theorem State.cardGone_kept (a0 : State) (a1 : Nat) (h0 : Kept q n a0) :
    Kept q n (State.cardGone a0 a1) := by
  unfold State.cardGone
  split
  · assumption
  · apply State.slotGone_kept
    apply State.modCard_kept
    assumption

theorem State.cardIn_kept (a0 : State) (a1 : Nat) (h0 : Kept q n a0) :
    Kept q n (State.cardIn a0 a1) := by
  unfold State.cardIn
  split
  · apply State.modCard_kept
    assumption
  · assumption

theorem State.msByte_kept (a0 : State) (a1 : Byte) (h0 : Kept q n a0) :
    Kept q n (State.msByte a0 a1) := by
  unfold State.msByte
  split
  · apply State.modMsi_kept
    assumption
  · assumption

theorem State.msPulse_kept (a0 : State) (h0 : Kept q n a0) :
    Kept q n (State.msPulse a0) := by
  unfold State.msPulse
  split
  · assumption
  · dsimp only
    split
    · split
      · apply State.raise_kept
        apply State.modMsi_kept
        assumption
      · apply State.modMsi_kept
        assumption
    · split
      · apply State.raise_kept
        apply State.modMsi_kept
        assumption
      · apply State.modMsi_kept
        assumption

theorem State.ppsFall_kept (a0 : State) (h0 : Kept q n a0) :
    Kept q n (State.ppsFall a0) := by
  unfold State.ppsFall
  split
  · apply Kept.lit
    assumption
  · assumption

theorem State.ppsRise_kept (a0 : State) (h0 : Kept q n a0) :
    Kept q n (State.ppsRise a0) := by
  unfold State.ppsRise
  split
  · assumption
  · apply Kept.lit
    assumption

theorem State.spiAuto_kept (a0 : State) (h0 : Kept q n a0) :
    Kept q n (State.spiAuto a0) := by
  unfold State.spiAuto
  split
  · apply State.modSpi_kept
    assumption
  · assumption

theorem State.spiDone_kept (a0 : State) (a1 : Nat) (a2 : Nat) (a3 : List Word) (h0 : Kept q n a0) :
    Kept q n (State.spiDone a0 a1 a2 a3) := by
  unfold State.spiDone
  dsimp only
  split
  · assumption
  · split
    · apply Kept.lit
      apply State.modSpi_kept
      assumption
    · split
      · assumption
      · apply State.modSpi_kept
        assumption

theorem State.spiLate_kept (a0 : State) (h0 : Kept q n a0) :
    Kept q n (State.spiLate a0) := by
  unfold State.spiLate
  split
  · assumption
  · split
    · assumption
    · apply State.modSpi_kept
      assumption

theorem State.uartIn_kept (a0 : State) (a1 : Nat) (a2 : Byte) (a3 : Bool) (h0 : Kept q n a0) :
    Kept q n (State.uartIn a0 a1 a2 a3) := by
  unfold State.uartIn
  split
  · apply State.modUart_kept
    assumption
  · assumption

theorem State.mpuViol_kept (a0 : State) (a1 : Nat) (a2 : Nat) (a3 : Refused) (a4 : Bool) (h0 : Kept q n a0) :
    Kept q n (State.mpuViol a0 a1 a2 a3 a4) := by
  unfold State.mpuViol
  dsimp only
  apply State.raise_kept
  apply State.setReg_kept
  split
  · assumption
  · apply State.setReg_kept
    apply State.setRegs_kept
    assumption

theorem State.setLatch_kept (a0 : State) (a1 : Word) (h0 : Kept q n a0) :
    Kept q n (State.setLatch a0 a1) := by
  unfold State.setLatch
  apply State.orReg_kept
  assumption

theorem State.latchAll_kept (a0 : State) (a1 : Nat) (a2 : List Report) (h0 : Kept q n a0) :
    Kept q n (State.latchAll a0 a1 a2).1 := by
  induction a2 generalizing a0 a1 with
  | nil =>
    unfold State.latchAll
    assumption
  | cons x xs ih =>
    unfold State.latchAll
    dsimp only
    apply ih
    split
    · assumption
    · apply Kept.lit
      apply State.setLatch_kept
      assumption

theorem State.firstFault_kept (a0 : State) (a1 : Nat) (a2 : List Latched) (h0 : Kept q n a0) :
    Kept q n (State.firstFault a0 a1 a2) := by
  unfold State.firstFault
  split
  · assumption
  · split
    · assumption
    · dsimp only
      apply Kept.lit
      apply State.orReg_kept
      assumption

theorem State.issue_kept (a0 : State) (a1 : Nat) (a2 : Latched) (h0 : Kept q n a0) :
    Kept q n (State.issue a0 a1 a2).1 := by
  unfold State.issue
  split
  · split
    · dsimp only
      apply Kept.lit
      assumption
    · assumption
  · assumption

theorem State.issueAll_kept (a0 : State) (a1 : Nat) (a2 : List Latched) (h0 : Kept q n a0) :
    Kept q n (State.issueAll a0 a1 a2).1 := by
  induction a2 generalizing a0 a1 with
  | nil =>
    unfold State.issueAll
    assumption
  | cons x xs ih =>
    unfold State.issueAll
    dsimp only
    apply ih
    apply State.issue_kept
    assumption

theorem State.levelEffects_kept (a0 : State) (a1 : List (Word × Nat × Bool)) (h0 : Kept q n a0) :
    Kept q n (State.levelEffects a0 a1) := by
  unfold State.levelEffects
  dsimp only
  apply State.fenceAll_kept
  split
  · apply State.enterSafe_kept
    assumption
  · assumption

theorem State.logPut_kept (a0 : State) (a1 : LogEntry) (h0 : Kept q n a0) :
    Kept q n (State.logPut a0 a1) := by
  unfold State.logPut
  split
  · dsimp only
    split
    · apply State.raiseOwn_kept
      apply Kept.lit
      assumption
    · apply Kept.lit
      assumption
  · apply Kept.lit
    assumption

theorem State.faultRecord_kept (a0 : State) (a1 : Word) (a2 : Nat) (a3 : Word) (h0 : Kept q n a0) :
    Kept q n (State.faultRecord a0 a1 a2 a3) := by
  unfold State.faultRecord
  apply State.ledgerPut_kept
  assumption

theorem State.reactionEntry_kept (a0 : State) (a1 : Nat) (a2 : Report) (a3 : Nat) (a4 : Bool) (a5 : Bool)
    (a6 : Word) (h0 : Kept q n a0) :
    Kept q n (State.reactionEntry a0 a1 a2 a3 a4 a5 a6) := by
  unfold State.reactionEntry
  apply State.bbxReq_kept
  assumption

theorem State.recordIssue_kept (a0 : State) (a1 : Nat) (a2 : Issue) (h0 : Kept q n a0) :
    Kept q n (State.recordIssue a0 a1 a2) := by
  unfold State.recordIssue
  dsimp only
  split
  · apply State.reactionEntry_kept
    split
    · apply State.faultRecord_kept
      apply State.logPut_kept
      assumption
    · apply State.logPut_kept
      assumption
  · split
    · apply State.faultRecord_kept
      apply State.logPut_kept
      assumption
    · apply State.logPut_kept
      assumption

theorem State.resetIf_kept (a0 : State) (a1 : Bool) (h0 : Kept q n a0) :
    Kept q n (State.resetIf a0 a1) := by
  unfold State.resetIf
  split
  · apply State.startFlush_kept
    assumption
  · assumption

theorem State.react_kept (a0 : State) (a1 : Nat) (a2 : List Latched) (h0 : Kept q n a0) :
    Kept q n (State.react a0 a1 a2) := by
  unfold State.react
  dsimp only
  apply State.resetIf_kept
  apply Kept.foldl
  · intro x3
    intro x4
    intro x5
    apply State.recordIssue_kept
    assumption
  · apply State.levelEffects_kept
    apply State.issueAll_kept
    assumption

theorem State.reactions_kept (a0 : State) (a1 : Nat) (a2 : OtherClass) (a3 : List Latched) (h0 : Kept q n a0) :
    Kept q n (State.reactions a0 a1 a2 a3) := by
  unfold State.reactions
  dsimp only
  split
  · split
    · apply State.raiseOwn_kept
      apply State.during_kept
      · apply State.firstFault_kept
        apply Kept.lit
        assumption
      · intro x5
        intro x6
        apply State.react_kept
        assumption
    · apply State.during_kept
      · apply State.firstFault_kept
        apply Kept.lit
        assumption
      · intro x4
        intro x5
        apply State.react_kept
        assumption
  · split
    · split
      · apply State.raiseOwn_kept
        apply State.during_kept
        · apply State.firstFault_kept
          apply Kept.lit
          assumption
        · intro x6
          intro x7
          apply State.react_kept
          assumption
      · apply State.during_kept
        · apply State.firstFault_kept
          apply Kept.lit
          assumption
        · intro x5
          intro x6
          apply State.react_kept
          assumption
    · split
      · apply State.raiseOwn_kept
        apply State.during_kept
        · apply State.firstFault_kept
          apply Kept.lit
          assumption
        · intro x6
          intro x7
          apply State.react_kept
          assumption
      · apply State.during_kept
        · apply State.firstFault_kept
          apply Kept.lit
          assumption
        · intro x5
          intro x6
          apply State.react_kept
          assumption

theorem State.latchMeets_kept (a0 : State) (a1 : Nat) (a2 : Word) (h0 : Kept q n a0) :
    Kept q n (State.latchMeets a0 a1 a2) := by
  unfold State.latchMeets
  split
  · dsimp only
    apply State.reactions_kept
    apply Kept.lit
    apply State.latchAll_kept
    assumption
  · assumption

theorem State.latchCycle_kept (a0 : State) (a1 : Nat) (a2 : OtherClass) (a3 : List Report) (h0 : Kept q n a0) :
    Kept q n (State.latchCycle a0 a1 a2 a3) := by
  unfold State.latchCycle
  dsimp only
  apply State.reactions_kept
  apply Kept.lit
  apply State.latchAll_kept
  apply Kept.foldl
  · intro x5
    intro x6
    intro x7
    apply Kept.lit
    assumption
  · assumption

theorem State.graceExpire_kept (a0 : State) (a1 : Nat) (a2 : Grace) (h0 : Kept q n a0) :
    Kept q n (State.graceExpire a0 a1 a2) := by
  unfold State.graceExpire
  dsimp only
  apply State.during_kept
  · apply Kept.lit
    assumption
  · intro x2
    intro x3
    apply State.resetIf_kept
    apply State.reactionEntry_kept
    apply State.faultRecord_kept
    apply State.logPut_kept
    apply State.levelEffects_kept
    assumption

theorem State.injectDry_kept (a0 : State) (a1 : Nat) (a2 : Word) (h0 : Kept q n a0) :
    Kept q n (State.injectDry a0 a1 a2) := by
  unfold State.injectDry
  apply State.logPut_kept
  assumption

theorem State.inject_kept (a0 : State) (a1 : Nat) (h0 : Kept q n a0) :
    Kept q n (State.inject a0 a1).1 := by
  unfold State.inject
  dsimp only
  split
  · dsimp only [KeptRes, KeptRd, KeptWr, KeptBlk, KeptCsrRd]
    apply Kept.lit
    apply State.setReg_kept
    assumption
  · split
    · dsimp only [KeptRes, KeptRd, KeptWr, KeptBlk, KeptCsrRd]
      apply State.injectDry_kept
      apply Kept.lit
      apply State.setReg_kept
      assumption
    · dsimp only [KeptRes, KeptRd, KeptWr, KeptBlk, KeptCsrRd]
      apply Kept.lit
      apply State.setReg_kept
      assumption

theorem State.takeReports_kept (a0 : State) (a1 : OtherClass) (h0 : Kept q n a0) :
    Kept q n (State.takeReports a0 a1) := by
  unfold State.takeReports
  split
  · assumption
  · split
    · assumption
    · dsimp only
      apply State.latchCycle_kept
      split
      · apply State.inject_kept
        apply Kept.lit
        assumption
      · dsimp only [KeptRes, KeptRd, KeptWr, KeptBlk, KeptCsrRd]
        apply Kept.lit
        assumption

theorem State.asStored_kept (a0 : State) (h0 : Kept q n a0) :
    Kept q n (State.asStored a0) := by
  unfold State.asStored
  apply Kept.lit
  assumption

theorem State.freezeWdt_kept (a0 : State) (a1 : Nat) (h0 : Kept q n a0) :
    Kept q n (State.freezeWdt a0 a1) := by
  unfold State.freezeWdt
  apply State.modWdt_kept
  assumption

theorem State.coreCkpt_kept (a0 : State) (a1 : Nat) (h0 : Kept q n a0) :
    Kept q n (State.coreCkpt a0 a1) := by
  unfold State.coreCkpt
  apply State.modEng_kept
  assumption

theorem State.wdtStart_kept (a0 : State) (a1 : Nat) (a2 : Nat) (h0 : Kept q n a0) :
    Kept q n (State.wdtStart a0 a1 a2) := by
  unfold State.wdtStart
  split
  · apply State.modWdt_kept
    assumption
  · dsimp only
    apply State.modWdt_kept
    assumption

theorem State.coreReset_kept (a0 : State) (a1 : Nat) (a2 : BitVec 3) (h0 : Kept q n a0) :
    Kept q n (State.coreReset a0 a1 a2) := by
  unfold State.coreReset
  dsimp only
  apply State.wdtStart_kept
  apply State.modCore_kept
  assumption

theorem State.takeCkpt_kept (a0 : State) (a1 : Nat) (h0 : Kept q n a0) :
    Kept q n (State.takeCkpt a0 a1) := by
  unfold State.takeCkpt
  apply State.modEng_kept
  assumption

theorem State.engReset_kept (a0 : State) (a1 : Nat) (a2 : BitVec 3) (h0 : Kept q n a0) :
    Kept q n (State.engReset a0 a1 a2) := by
  unfold State.engReset
  dsimp only
  split
  · apply State.coreCkpt_kept
    apply State.coreReset_kept
    assumption
  · apply State.takeCkpt_kept
    apply State.coreReset_kept
    apply State.modEng_kept
    assumption

theorem State.thawWdt_kept (a0 : State) (a1 : Nat) (h0 : Kept q n a0) :
    Kept q n (State.thawWdt a0 a1) := by
  unfold State.thawWdt
  apply State.modWdt_kept
  assumption

theorem State.thawTrifle_kept (a0 : State) (h0 : Kept q n a0) :
    Kept q n (State.thawTrifle a0) := by
  unfold State.thawTrifle
  apply Kept.foldl
  · intro x1
    intro x2
    intro x3
    split
    · assumption
    · apply State.thawWdt_kept
      assumption
  · assumption

theorem State.lksDisarm_kept (a0 : State) (a1 : Nat) (h0 : Kept q n a0) :
    Kept q n (State.lksDisarm a0 a1) := by
  unfold State.lksDisarm
  dsimp only
  split
  · apply State.setReg_kept
    assumption
  · assumption

theorem State.chkCkpt_kept (a0 : State) (a1 : Nat) (h0 : Kept q n a0) :
    Kept q n (State.chkCkpt a0 a1) := by
  unfold State.chkCkpt
  dsimp only
  apply State.modEng_kept
  apply State.takeCkpt_kept
  assumption

theorem State.bundleReads_kept (a0 : State) (a1 : Bool) (h0 : Kept q n a0) :
    Kept q n (State.bundleReads a0 a1) := by
  unfold State.bundleReads
  apply Kept.foldl
  · intro x1
    intro x2
    intro x3
    apply State.readNote_kept
    assumption
  · assumption

theorem State.loadReads_kept (a0 : State) (a1 : Bool) (h0 : Kept q n a0) :
    Kept q n (State.loadReads a0 a1) := by
  unfold State.loadReads
  dsimp only
  apply Kept.foldl
  · intro x2
    intro x3
    intro x4
    apply State.readNote_kept
    assumption
  · assumption

theorem State.withLive_kept (a0 : State) (a1 : SMap Word) (h0 : Kept q n a0) :
    Kept q n (State.withLive a0 a1) := by
  unfold State.withLive
  apply Kept.lit
  assumption

theorem State.takeHalt_kept (a0 : State) (a1 : Nat) (h0 : Kept q n a0) :
    Kept q n (State.takeHalt a0 a1) := by
  unfold State.takeHalt
  dsimp only
  split
  · apply State.freezeWdt_kept
    apply State.modCore_kept
    assumption
  · assumption

theorem State.unhalt_kept (a0 : State) (a1 : Nat) (a2 : Bool) (h0 : Kept q n a0) :
    Kept q n (State.unhalt a0 a1 a2) := by
  unfold State.unhalt
  dsimp only
  apply State.modEng_kept
  apply State.modCore_kept
  assumption

theorem State.resumeCore_kept (a0 : State) (a1 : Nat) (h0 : Kept q n a0) :
    Kept q n (State.resumeCore a0 a1) := by
  unfold State.resumeCore
  split
  · assumption
  · dsimp only
    split
    · split
      · apply State.thawWdt_kept
        apply State.unhalt_kept
        apply State.modEng_kept
        apply State.modCore_kept
        assumption
      · apply State.modEng_kept
        apply State.modCore_kept
        assumption
    · split
      · apply State.thawWdt_kept
        apply State.unhalt_kept
        apply State.modEng_kept
        apply State.modCore_kept
        assumption
      · apply State.modEng_kept
        apply State.modCore_kept
        assumption

theorem State.dbgClose_kept (a0 : State) (h0 : Kept q n a0) :
    Kept q n (State.dbgClose a0) := by
  unfold State.dbgClose
  split
  · assumption
  · dsimp only
    apply Kept.lit
    split
    · apply State.thawTrifle_kept
      apply Kept.foldl
      · intro x6
        intro x7
        intro x8
        apply State.resumeCore_kept
        assumption
      · assumption
    · apply Kept.foldl
      · intro x5
        intro x6
        intro x7
        apply State.resumeCore_kept
        assumption
      · assumption

theorem State.batchEnd_kept (a0 : State) (a1 : Nat) (h0 : Kept q n a0) :
    Kept q n (State.batchEnd a0 a1) := by
  unfold State.batchEnd
  apply State.modSft_kept
  assumption

theorem State.dBatch_kept (a0 : State) (a1 : Nat) (h0 : Kept q n a0) :
    Kept q n (State.dBatch a0 a1) := by
  unfold State.dBatch
  apply State.modSft_kept
  assumption

theorem State.batchStart_kept (a0 : State) (a1 : Nat) (h0 : Kept q n a0) :
    Kept q n (State.batchStart a0 a1) := by
  unfold State.batchStart
  split
  · assumption
  · split
    · assumption
    · split
      · assumption
      · split
        · assumption
        · dsimp only
          split
          · split
            · apply State.dBatch_kept
              apply State.modSft_kept
              apply State.popHead_kept
              assumption
            · apply State.modSft_kept
              apply State.popHead_kept
              assumption
          · apply State.modSft_kept
            split
            · apply State.dBatch_kept
              apply State.modSft_kept
              apply State.popHead_kept
              assumption
            · apply State.modSft_kept
              apply State.popHead_kept
              assumption

theorem State.modAcc_kept (a0 : State) (a1 : Bool) (a2 : FrameAcc → FrameAcc) (h0 : Kept q n a0) :
    Kept q n (State.modAcc a0 a1 a2) := by
  unfold State.modAcc
  split
  · apply Kept.lit
    assumption
  · apply Kept.lit
    assumption

theorem State.markColumns_kept (a0 : State) (a1 : Nat) (h0 : Kept q n a0) :
    Kept q n (State.markColumns a0 a1) := by
  unfold State.markColumns
  apply State.setClass_kept
  apply State.wrs_kept
  assumption

theorem State.commitColumn_kept (a0 : State) (a1 : Bool) (a2 : Nat) (a3 : Nat) (a4 : Nat) (h0 : Kept q n a0) :
    Kept q n (State.commitColumn a0 a1 a2 a3 a4) := by
  unfold State.commitColumn
  dsimp only
  split
  · split
    · apply State.readCheck_kept
      assumption
    · apply State.recode_kept
      split
      · apply Kept.foldl
        · intro x6
          intro x7
          intro x8
          apply State.markColumns_kept
          assumption
        · apply State.readCheck_kept
          assumption
      · apply State.wr_kept
        apply Kept.foldl
        · intro x7
          intro x8
          intro x9
          apply State.markColumns_kept
          assumption
        · apply State.readCheck_kept
          assumption
  · split
    · apply State.during_kept
      · apply State.modAcc_kept
        apply State.readCheck_kept
        assumption
      · intro x4
        intro x5
        apply State.raise_kept
        assumption
    · apply State.recode_kept
      split
      · apply Kept.foldl
        · intro x6
          intro x7
          intro x8
          apply State.markColumns_kept
          assumption
        · apply State.during_kept
          · apply State.modAcc_kept
            apply State.readCheck_kept
            assumption
          · intro x7
            intro x8
            apply State.raise_kept
            assumption
      · apply State.wr_kept
        apply Kept.foldl
        · intro x7
          intro x8
          intro x9
          apply State.markColumns_kept
          assumption
        · apply State.during_kept
          · apply State.modAcc_kept
            apply State.readCheck_kept
            assumption
          · intro x8
            intro x9
            apply State.raise_kept
            assumption

theorem State.commitAs_kept (a0 : State) (a1 : Nat) (a2 : Bool) (a3 : Nat) (a4 : Nat) (a5 : Nat) (a6 : Nat)
    (a7 : Option Refused) (h0 : Kept q n a0) :
    Kept q n (State.commitAs a0 a1 a2 a3 a4 a5 a6 a7) := by
  unfold State.commitAs
  split
  · apply State.mpuViol_kept
    assumption
  · apply State.commitColumn_kept
    apply State.modAcc_kept
    assumption

theorem State.commitPoint_kept (a0 : State) (a1 : Nat) (a2 : Bool) (a3 : BitVec 32) (a4 : Nat) (a5 : Nat)
    (a6 : Cell) (h0 : Kept q n a0) :
    Kept q n (State.commitPoint a0 a1 a2 a3 a4 a5 a6) := by
  unfold State.commitPoint
  apply State.commitAs_kept
  assumption

theorem State.dropBatches_kept (a0 : State) (h0 : Kept q n a0) :
    Kept q n (State.dropBatches a0) := by
  unfold State.dropBatches
  dsimp only
  apply State.modSft_kept
  apply State.modSft_kept
  assumption

theorem State.discardPop_kept (a0 : State) (a1 : Nat) (h0 : Kept q n a0) :
    Kept q n (State.discardPop a0 a1) := by
  unfold State.discardPop
  split
  · assumption
  · split
    · assumption
    · split
      · assumption
      · dsimp only
        split
        · apply State.batchEnd_kept
          apply State.popHead_kept
          assumption
        · apply State.popHead_kept
          assumption

theorem State.dropPoint_kept (a0 : State) (a1 : Nat) (a2 : Bool) (a3 : Drop) (h0 : Kept q n a0) :
    Kept q n (State.dropPoint a0 a1 a2 a3) := by
  unfold State.dropPoint
  dsimp only
  split
  · apply State.raise_kept
    apply State.modAcc_kept
    apply State.modSft_kept
    assumption
  · apply State.modAcc_kept
    apply State.modSft_kept
    assumption

theorem State.popN_kept (a0 : State) (a1 : Nat) (a2 : Nat) (h0 : Kept q n a0) :
    Kept q n (State.popN a0 a1 a2) := by
  induction a2 generalizing a0 a1 with
  | zero =>
    unfold State.popN
    assumption
  | succ m ih =>
    unfold State.popN
    apply ih
    apply State.popHead_kept
    assumption

theorem State.runPoint_kept (a0 : State) (a1 : Nat) (a2 : Nat) (a3 : BitVec 48) (a4 : Point) (a5 : Bool)
    (h0 : Kept q n a0) :
    Kept q n (State.runPoint a0 a1 a2 a3 a4 a5) := by
  unfold State.runPoint
  dsimp only
  split
  · apply State.dropPoint_kept
    apply State.modSft_kept
    assumption
  · split
    · apply State.dropPoint_kept
      split
      · apply State.modSft_kept
        apply State.modSft_kept
        assumption
      · apply State.modSft_kept
        assumption
    · split
      · split
        · apply State.dropPoint_kept
          apply State.modSft_kept
          apply State.modSft_kept
          assumption
        · split
          · apply State.dropPoint_kept
            apply State.modSft_kept
            apply State.modSft_kept
            assumption
          · apply State.commitPoint_kept
            apply State.modSft_kept
            apply State.modSft_kept
            assumption
      · split
        · apply State.dropPoint_kept
          apply State.modSft_kept
          assumption
        · split
          · apply State.dropPoint_kept
            apply State.modSft_kept
            assumption
          · apply State.commitPoint_kept
            apply State.modSft_kept
            assumption

theorem State.pointTake_kept (a0 : State) (a1 : Nat) (a2 : Bool) (h0 : Kept q n a0) :
    Kept q n (State.pointTake a0 a1 a2) := by
  unfold State.pointTake
  split
  · assumption
  · split
    · assumption
    · dsimp only
      split
      · apply State.batchEnd_kept
        apply State.dBatch_kept
        apply State.dropPoison_kept
        assumption
      · split
        · apply State.dropPoison_kept
          assumption
        · apply State.batchEnd_kept
          apply State.dBatch_kept
          apply State.popN_kept
          apply State.dropPoison_kept
          assumption
        · split
          · split
            · apply State.batchEnd_kept
              apply State.popN_kept
              apply State.runPoint_kept
              apply State.dropPoison_kept
              assumption
            · apply State.modSft_kept
              apply State.dBatch_kept
              apply State.popN_kept
              apply State.runPoint_kept
              apply State.dropPoison_kept
              assumption
          · split
            · apply State.batchEnd_kept
              apply State.dBatch_kept
              apply State.popN_kept
              apply State.runPoint_kept
              apply State.dropPoison_kept
              assumption
            · apply State.modSft_kept
              apply State.popN_kept
              apply State.runPoint_kept
              apply State.dropPoison_kept
              assumption

end Sys2Proof.Machine
end

