-- ==== Sys2Proof/Laws/KeptPool.lean ====
section
/-!
SUPPORT. Every operation of HBM, configuration, the dies, custody, the black box, the ledger and the watchdogs keeps what `Kept` says.
-/

namespace Sys2Proof.Machine

variable {q : List Instr} {n : Nat}

theorem State.decay_kept (a0 : State) (a1 : Nat) (a2 : GErr) (h0 : Kept q n a0) :
    Kept q n (State.decay a0 a1 a2) := by
  unfold State.decay
  split
  · assumption
  · apply State.setClass_kept
    assumption

theorem State.hbmEntry_kept (a0 : State) (h0 : Kept q n a0) :
    Kept q n (State.hbmEntry a0) := by
  unfold State.hbmEntry
  apply State.bbxReq_kept
  assumption

theorem State.haltHbm_kept (a0 : State) (h0 : Kept q n a0) :
    Kept q n (State.haltHbm a0) := by
  unfold State.haltHbm
  apply State.hbmEntry_kept
  apply Kept.lit
  assumption

theorem State.hbmDead_kept (a0 : State) (a1 : Nat) (a2 : Bool) (h0 : Kept q n a0) :
    Kept q n (State.hbmDead a0 a1 a2) := by
  unfold State.hbmDead
  split
  · assumption
  · apply State.raise_kept
    apply State.modStack_kept
    assumption

theorem State.serveRead_kept (a0 : State) (a1 : Nat) (a2 : HbmReq) (a3 : Nat) (h0 : Kept q n a0) :
    Kept q n (State.serveRead a0 a1 a2 a3) := by
  unfold State.serveRead
  dsimp only
  apply Kept.lit
  apply State.readCheck_kept
  apply State.served_kept
  apply State.decay_kept
  assumption

theorem State.serveLine_kept (a0 : State) (a1 : Nat) (a2 : HbmReq) (a3 : Nat) (h0 : Kept q n a0) :
    Kept q n (State.serveLine a0 a1 a2 a3) := by
  unfold State.serveLine
  dsimp only
  split
  · apply State.writeLost_kept
    apply State.served_kept
    assumption
  · apply State.store_kept
    apply State.served_kept
    assumption

theorem State.serveMerge_kept (a0 : State) (a1 : Nat) (a2 : HbmReq) (a3 : Nat) (h0 : Kept q n a0) :
    Kept q n (State.serveMerge a0 a1 a2 a3) := by
  unfold State.serveMerge
  dsimp only
  split
  · apply State.writeLost_kept
    apply State.readCheck_kept
    apply State.served_kept
    apply State.decay_kept
    assumption
  · apply Kept.lit
    apply State.readCheck_kept
    apply State.served_kept
    apply State.decay_kept
    assumption

theorem State.hbmServe_kept (a0 : State) (a1 : Nat) (a2 : HbmReq) (h0 : Kept q n a0) :
    Kept q n (State.hbmServe a0 a1 a2) := by
  unfold State.hbmServe
  dsimp only
  split
  · assumption
  · split
    · split
      · assumption
      · apply State.serveRead_kept
        assumption
    · split
      · assumption
      · split
        · split
          · assumption
          · apply State.serveLine_kept
            assumption
        · split
          · assumption
          · apply State.serveMerge_kept
            assumption

theorem State.hbmTemp_kept (a0 : State) (a1 : Nat) (a2 : Int) (h0 : Kept q n a0) :
    Kept q n (State.hbmTemp a0 a1 a2) := by
  unfold State.hbmTemp
  dsimp only
  split
  · apply State.raise_kept
    apply State.modStack_kept
    assumption
  · apply State.modStack_kept
    assumption

theorem State.hbmTrained_kept (a0 : State) (a1 : Nat) (a2 : Bool) (h0 : Kept q n a0) :
    Kept q n (State.hbmTrained a0 a1 a2) := by
  unfold State.hbmTrained
  dsimp only
  split
  · split
    · apply State.haltHbm_kept
      apply Kept.lit
      apply State.modStack_kept
      assumption
    · apply Kept.lit
      apply State.modStack_kept
      assumption
  · split
    · apply State.haltHbm_kept
      apply Kept.lit
      apply State.hbmEntry_kept
      apply State.raise_kept
      apply State.modStack_kept
      assumption
    · apply Kept.lit
      apply State.hbmEntry_kept
      apply State.raise_kept
      apply State.modStack_kept
      assumption

theorem State.mergeWrite_kept (a0 : State) (a1 : Nat) (a2 : Nat) (h0 : Kept q n a0) :
    Kept q n (State.mergeWrite a0 a1 a2) := by
  unfold State.mergeWrite
  split
  · assumption
  · split
    · assumption
    · split
      · assumption
      · dsimp only
        split
        · apply State.writeLost_kept
          apply State.served_kept
          apply Kept.lit
          assumption
        · apply State.store_kept
          apply State.served_kept
          apply Kept.lit
          assumption

theorem State.poolScrub_kept (a0 : State) (a1 : Nat) (a2 : GErr) (h0 : Kept q n a0) :
    Kept q n (State.poolScrub a0 a1 a2) := by
  unfold State.poolScrub
  split
  · assumption
  · split
    · dsimp only
      apply Kept.lit
      apply State.encode_kept
      assumption
    · dsimp only
      apply Kept.lit
      apply State.readNote_kept
      apply State.decay_kept
      assumption

theorem State.scrubRead_kept (a0 : State) (a1 : Nat) (a2 : GErr) (h0 : Kept q n a0) :
    Kept q n (State.scrubRead a0 a1 a2) := by
  unfold State.scrubRead
  dsimp only
  split
  · assumption
  · split
    · assumption
    · apply State.modStack_kept
      apply State.readCheck_kept
      apply State.served_kept
      apply State.decay_kept
      assumption

theorem State.scrubRewrite_kept (a0 : State) (a1 : Nat) (h0 : Kept q n a0) :
    Kept q n (State.scrubRewrite a0 a1) := by
  unfold State.scrubRewrite
  split
  · assumption
  · split
    · assumption
    · split
      · assumption
      · dsimp only
        split
        · apply State.served_kept
          apply State.modStack_kept
          assumption
        · apply State.recode_kept
          apply State.served_kept
          apply State.modStack_kept
          assumption

theorem State.spadWriteback_kept (a0 : State) (a1 : Nat) (h0 : Kept q n a0) :
    Kept q n (State.spadWriteback a0 a1) := by
  unfold State.spadWriteback
  split
  · assumption
  · dsimp only
    apply Kept.lit
    apply State.encode_kept
    assumption

theorem State.tableSwitch_kept (a0 : State) (h0 : Kept q n a0) :
    Kept q n (State.tableSwitch a0) := by
  unfold State.tableSwitch
  split
  · assumption
  · dsimp only
    apply Kept.lit
    assumption

theorem State.cfgSingle_kept (a0 : State) (a1 : Word) (h0 : Kept q n a0) :
    Kept q n (State.cfgSingle a0 a1) := by
  unfold State.cfgSingle
  apply Kept.lit
  assumption

theorem State.cfgResult_kept (a0 : State) (a1 : Nat) (a2 : BitVec 32) (h0 : Kept q n a0) :
    Kept q n (State.cfgResult a0 a1 a2) := by
  unfold State.cfgResult
  apply Kept.lit
  assumption

theorem State.haltImage_kept (a0 : State) (h0 : Kept q n a0) :
    Kept q n (State.haltImage a0) := by
  unfold State.haltImage
  split
  · apply Kept.lit
    assumption
  · assumption

theorem State.imageFailed_kept (a0 : State) (a1 : Bool) (a2 : Nat) (h0 : Kept q n a0) :
    Kept q n (State.imageFailed a0 a1 a2) := by
  unfold State.imageFailed
  split
  · apply State.haltImage_kept
    apply State.bootFailed_kept
    assumption
  · assumption

theorem State.loadFail_kept (a0 : State) (a1 : Bool) (a2 : Nat) (a3 : BitVec 32) (h0 : Kept q n a0) :
    Kept q n (State.loadFail a0 a1 a2 a3) := by
  unfold State.loadFail
  dsimp only
  apply State.finishRun_kept
  apply State.imageFailed_kept
  apply State.cfgResult_kept
  assumption

theorem State.loadGo_kept (a0 : State) (a1 : Bool) (a2 : Bool) (h0 : Kept q n a0) :
    Kept q n (State.loadGo a0 a1 a2) := by
  unfold State.loadGo
  split
  · apply State.loadFail_kept
    assumption
  · split
    · apply State.loadFail_kept
      assumption
    · dsimp only
      apply Kept.lit
      split
      · apply State.bootTry_kept
        assumption
      · assumption

theorem State.checkRefuse_kept (a0 : State) (a1 : Nat) (a2 : BitVec 32) (h0 : Kept q n a0) :
    Kept q n (State.checkRefuse a0 a1 a2) := by
  unfold State.checkRefuse
  dsimp only
  apply State.finishRun_kept
  apply State.imageFailed_kept
  apply State.raise_kept
  apply State.bbxReq_kept
  apply State.cfgResult_kept
  assumption

theorem State.checkRun_kept (a0 : State) (h0 : Kept q n a0) :
    Kept q n (State.checkRun a0) := by
  unfold State.checkRun
  apply Kept.lit
  assumption

theorem State.checkGo_kept (a0 : State) (h0 : Kept q n a0) :
    Kept q n (State.checkGo a0) := by
  unfold State.checkGo
  split
  · apply State.checkRefuse_kept
    assumption
  · split
    · apply State.checkRefuse_kept
      assumption
    · split
      · apply State.checkRefuse_kept
        assumption
      · apply State.checkRun_kept
        assumption

theorem State.cfgCtrl_kept (a0 : State) (a1 : Word) (h0 : Kept q n a0) :
    Kept q n (State.cfgCtrl a0 a1) := by
  unfold State.cfgCtrl
  split
  · assumption
  · split
    · apply State.loadGo_kept
      assumption
    · apply State.checkGo_kept
      assumption

theorem State.assignCommit_kept (a0 : State) (a1 : Nat) (a2 : Nat) (h0 : Kept q n a0) :
    Kept q n (State.assignCommit a0 a1 a2) := by
  unfold State.assignCommit
  dsimp only
  apply State.modTx_kept
  apply State.modRx_kept
  assumption

theorem State.portCommit_kept (a0 : State) (a1 : Nat) (h0 : Kept q n a0) :
    Kept q n (State.portCommit a0 a1) := by
  unfold State.portCommit
  dsimp only
  apply State.modT1s_kept
  apply State.modPdie_kept
  apply Kept.foldl
  · intro x4
    intro x5
    intro x6
    apply State.assignCommit_kept
    assumption
  · assumption

theorem State.queueCommit_kept (a0 : State) (h0 : Kept q n a0) :
    Kept q n (State.queueCommit a0) := by
  unfold State.queueCommit
  dsimp only
  apply Kept.lit
  assumption

theorem State.engStart_kept (a0 : State) (a1 : Nat) (h0 : Kept q n a0) :
    Kept q n (State.engStart a0 a1) := by
  unfold State.engStart
  dsimp only
  split
  · apply State.takeCkpt_kept
    apply State.modCore_kept
    apply State.modCore_kept
    apply State.lksDisarm_kept
    apply State.modEng_kept
    assumption
  · apply State.takeCkpt_kept
    apply State.modCore_kept
    apply State.modEng_kept
    assumption

theorem State.engCommit_kept (a0 : State) (a1 : Nat) (h0 : Kept q n a0) :
    Kept q n (State.engCommit a0 a1) := by
  unfold State.engCommit
  dsimp only
  split
  · assumption
  · split
    · apply State.wdtStop_kept
      apply State.modCore_kept
      apply State.modCore_kept
      assumption
    · split
      · apply State.engStart_kept
        assumption
      · assumption

theorem State.tamperCommit_kept (a0 : State) (h0 : Kept q n a0) :
    Kept q n (State.tamperCommit a0) := by
  unfold State.tamperCommit
  dsimp only
  apply Kept.lit
  assumption

theorem State.wdtCommit_kept (a0 : State) (a1 : Nat) (h0 : Kept q n a0) :
    Kept q n (State.wdtCommit a0 a1) := by
  unfold State.wdtCommit
  split
  · apply State.wdtStart_kept
    assumption
  · assumption

theorem State.blocksCommit_kept (a0 : State) (h0 : Kept q n a0) :
    Kept q n (State.blocksCommit a0) := by
  unfold State.blocksCommit
  dsimp only
  apply State.tamperCommit_kept
  apply Kept.foldl
  · intro x3
    intro x4
    intro x5
    apply State.wdtCommit_kept
    assumption
  · apply Kept.foldl
    · intro x4
      intro x5
      intro x6
      apply State.engCommit_kept
      assumption
    · apply State.modSft_kept
      apply State.modSft_kept
      apply Kept.lit
      apply State.msCommit_kept
      apply State.keepArr_kept
      apply State.frameStart_kept
      apply State.portCommit_kept
      apply State.portCommit_kept
      apply State.queueCommit_kept
      assumption

theorem State.cfgCommit_kept (a0 : State) (h0 : Kept q n a0) :
    Kept q n (State.cfgCommit a0) := by
  unfold State.cfgCommit
  dsimp only
  apply Kept.lit
  assumption

theorem State.commit_kept (a0 : State) (h0 : Kept q n a0) :
    Kept q n (State.commit a0) := by
  unfold State.commit
  dsimp only
  apply State.finishRun_kept
  apply State.bbxReq_kept
  apply State.configRecord_kept
  apply State.dbgClose_kept
  apply State.blocksCommit_kept
  apply State.cfgCommit_kept
  apply State.modBootKind_kept
  apply State.bootUse_kept
  apply State.handed_kept
  apply State.handed_kept
  apply State.to_kept
  assumption

theorem State.checkComplete_kept (a0 : State) (h0 : Kept q n a0) :
    Kept q n (State.checkComplete a0) := by
  unfold State.checkComplete
  split
  · assumption
  · split
    · assumption
    · split
      · apply State.checkRefuse_kept
        assumption
      · apply State.commit_kept
        assumption

theorem State.disable_kept (a0 : State) (h0 : Kept q n a0) :
    Kept q n (State.disable a0) := by
  unfold State.disable
  dsimp only
  apply State.configRecord_kept
  apply State.dropBatches_kept
  apply State.frameStop_kept
  apply State.forceStop_kept
  apply State.eoutFault_kept
  apply Kept.lit
  assumption

theorem State.relock_kept (a0 : State) (h0 : Kept q n a0) :
    Kept q n (State.relock a0) := by
  unfold State.relock
  split
  · apply State.imageFailed_kept
    assumption
  · assumption

theorem State.stagedStage_kept (a0 : State) (h0 : Kept q n a0) :
    Kept q n (State.stagedStage a0) := by
  unfold State.stagedStage
  split
  · assumption
  · split
    · apply State.haltHbm_kept
      assumption
    · apply Kept.lit
      assumption

theorem State.loadDone_kept (a0 : State) (a1 : CfgJob) (h0 : Kept q n a0) :
    Kept q n (State.loadDone a0 a1) := by
  unfold State.loadDone
  dsimp only
  split
  · apply State.checkRun_kept
    apply State.relock_kept
    apply State.stagedStage_kept
    apply State.bootUse_kept
    apply Kept.lit
    assumption
  · apply State.finishRun_kept
    apply State.relock_kept
    apply State.stagedStage_kept
    apply State.bootUse_kept
    apply Kept.lit
    assumption

theorem State.loadComplete_kept (a0 : State) (h0 : Kept q n a0) :
    Kept q n (State.loadComplete a0) := by
  unfold State.loadComplete
  split
  · assumption
  · split
    · assumption
    · dsimp only
      split
      · apply State.loadFail_kept
        apply State.loadReads_kept
        assumption
      · apply State.loadDone_kept
        apply State.loadReads_kept
        assumption

theorem State.alignMarker_kept (a0 : State) (a1 : BitVec 8) (h0 : Kept q n a0) :
    Kept q n (State.alignMarker a0 a1) := by
  unfold State.alignMarker
  split
  · dsimp only
    apply Kept.foldl
    · intro x3
      intro x4
      intro x5
      refine State.modDie_keeps _ _ _ ?_ (fun _ => rfl)
      assumption
    · apply Kept.lit
      apply State.rebase_kept
      assumption
  · split
    · assumption
    · dsimp only
      apply Kept.foldl
      · intro x4
        intro x5
        intro x6
        split
        · apply State.raise_kept
          refine State.modDie_keeps _ _ _ ?_ (fun _ => rfl)
          assumption
        · refine State.modDie_keeps _ _ _ ?_ (fun _ => rfl)
          assumption
      · apply Kept.lit
        assumption

theorem State.enumAnswer_kept (a0 : State) (a1 : Nat) (a2 : Bool) (a3 : Nat) (a4 : BitVec 2) (h0 : Kept q n a0) :
    Kept q n (State.enumAnswer a0 a1 a2 a3 a4) := by
  unfold State.enumAnswer
  dsimp only
  split
  · split
    · assumption
    · apply State.modDie_kept
      · assumption
      · intro x4
        simp_all
  · split
    · assumption
    · apply State.modDie_kept
      · assumption
      · intro x4
        simp_all

theorem State.enumDie_kept (a0 : State) (a1 : Nat) (h0 : Kept q n a0) :
    Kept q n (State.enumDie a0 a1) := by
  unfold State.enumDie
  dsimp only
  split
  · split
    · assumption
    · apply State.bbxReq_kept
      apply State.raise_kept
      assumption
  · apply State.fenceDie_kept
    split
    · assumption
    · apply State.bbxReq_kept
      apply State.raise_kept
      assumption

theorem State.enumLatch_kept (a0 : State) (a1 : Nat) (h0 : Kept q n a0) :
    Kept q n (State.enumLatch a0 a1) := by
  unfold State.enumLatch
  dsimp only
  refine State.modDie_keeps _ _ _ ?_ (fun _ => rfl)
  assumption

theorem State.enumerationEnd_kept (a0 : State) (h0 : Kept q n a0) :
    Kept q n (State.enumerationEnd a0) := by
  unfold State.enumerationEnd
  split
  · assumption
  · split
    · assumption
    · dsimp only
      split
      · apply Kept.lit
        apply Kept.foldl
        · intro x6
          intro x7
          intro x8
          apply State.enumDie_kept
          assumption
        · apply Kept.foldl
          · intro x7
            intro x8
            intro x9
            apply State.enumLatch_kept
            assumption
          · apply Kept.lit
            assumption
      · apply Kept.foldl
        · intro x5
          intro x6
          intro x7
          apply State.enumDie_kept
          assumption
        · apply Kept.foldl
          · intro x6
            intro x7
            intro x8
            apply State.enumLatch_kept
            assumption
          · apply Kept.lit
            assumption

theorem State.heartbeat_kept (a0 : State) (a1 : Nat) (h0 : Kept q n a0) :
    Kept q n (State.heartbeat a0 a1) := by
  unfold State.heartbeat
  split
  · refine State.modDie_keeps _ _ _ ?_ (fun _ => rfl)
    assumption
  · assumption

theorem State.heartbeatDue_kept (a0 : State) (a1 : Nat) (h0 : Kept q n a0) :
    Kept q n (State.heartbeatDue a0 a1) := by
  unfold State.heartbeatDue
  split
  · assumption
  · dsimp only
    split
    · assumption
    · split
      · refine State.modDie_keeps _ _ _ ?_ (fun _ => rfl)
        assumption
      · split
        · apply State.raise_kept
          refine Kept.litDies ?_ rfl
          refine State.modDie_keeps _ _ _ ?_ (fun _ => rfl)
          assumption
        · refine Kept.litDies ?_ rfl
          refine State.modDie_keeps _ _ _ ?_ (fun _ => rfl)
          assumption

theorem State.linkDown_kept (a0 : State) (a1 : Nat) (h0 : Kept q n a0) :
    Kept q n (State.linkDown a0 a1) := by
  unfold State.linkDown
  split
  · assumption
  · split
    · assumption
    · dsimp only
      apply State.fenceDie_kept
      apply State.raise_kept
      apply State.modLink_kept
      apply State.modLink_kept
      assumption

theorem State.linkTrained_kept (a0 : State) (a1 : Nat) (a2 : Nat) (a3 : Bool) (a4 : BitVec 4) (h0 : Kept q n a0) :
    Kept q n (State.linkTrained a0 a1 a2 a3 a4) := by
  unfold State.linkTrained
  split
  · assumption
  · split
    · assumption
    · split
      · apply State.modLink_kept
        apply State.modLink_kept
        assumption
      · dsimp only
        split
        · split
          · split
            · apply Kept.lit
              apply State.fenceDie_kept
              apply State.raise_kept
              assumption
            · apply State.fenceDie_kept
              apply State.raise_kept
              assumption
          · split
            · apply Kept.lit
              apply State.fenceDie_kept
              assumption
            · apply State.fenceDie_kept
              assumption
        · split
          · split
            · apply Kept.lit
              apply State.fenceDie_kept
              apply State.raise_kept
              assumption
            · apply State.fenceDie_kept
              apply State.raise_kept
              assumption
          · split
            · apply Kept.lit
              apply State.fenceDie_kept
              assumption
            · apply State.fenceDie_kept
              assumption

theorem State.monDead_kept (a0 : State) (h0 : Kept q n a0) :
    Kept q n (State.monDead a0) := by
  unfold State.monDead
  split
  · assumption
  · apply State.raise_kept
    apply Kept.lit
    assumption

theorem State.monTrip_kept (a0 : State) (a1 : BitVec 3) (h0 : Kept q n a0) :
    Kept q n (State.monTrip a0 a1) := by
  unfold State.monTrip
  dsimp only
  split
  · apply State.raise_kept
    apply Kept.lit
    assumption
  · apply Kept.lit
    assumption

theorem State.monWindow_kept (a0 : State) (a1 : BitVec 8) (a2 : BitVec 8) (a3 : Bool) (h0 : Kept q n a0) :
    Kept q n (State.monWindow a0 a1 a2 a3) := by
  unfold State.monWindow
  dsimp only
  split
  · apply State.monTrip_kept
    apply Kept.lit
    assumption
  · apply Kept.lit
    assumption

theorem State.pllLoss_kept (a0 : State) (a1 : Nat) (a2 : Bool) (h0 : Kept q n a0) :
    Kept q n (State.pllLoss a0 a1 a2) := by
  unfold State.pllLoss
  apply State.raise_kept
  apply State.modDie_kept
  · assumption
  · intro x2
    simp_all

theorem State.vbatShow_kept (a0 : State) (h0 : Kept q n a0) :
    Kept q n (State.vbatShow a0) := by
  unfold State.vbatShow
  apply State.setReg_kept
  apply State.setReg_kept
  assumption

theorem State.countTrips_kept (a0 : State) (a1 : BitVec 8) (h0 : Kept q n a0) :
    Kept q n (State.countTrips a0 a1) := by
  unfold State.countTrips
  apply Kept.foldl
  · intro x1
    intro x2
    intro x3
    split
    · dsimp only
      apply Kept.lit
      apply State.fldAdd16_kept
      assumption
    · assumption
  · assumption

theorem State.vbatReset_kept (a0 : State) (h0 : Kept q n a0) :
    Kept q n (State.vbatReset a0) := by
  unfold State.vbatReset
  apply Kept.lit
  assumption

theorem State.setZeroed_kept (a0 : State) (h0 : Kept q n a0) :
    Kept q n (State.setZeroed a0) := by
  unfold State.setZeroed
  apply State.raise_kept
  apply Kept.lit
  assumption

theorem State.eraseSecrets_kept (a0 : State) (h0 : Kept q n a0) :
    Kept q n (State.eraseSecrets a0) := by
  unfold State.eraseSecrets
  dsimp only
  apply Kept.lit
  apply Kept.foldl
  · intro x3
    intro x4
    intro x5
    apply State.modPdie_kept
    assumption
  · apply State.wipe_kept
    apply State.wipe_kept
    apply State.wipe_kept
    assumption

theorem State.tamperFlush_kept (a0 : State) (h0 : Kept q n a0) :
    Kept q n (State.tamperFlush a0) := by
  unfold State.tamperFlush
  split
  · assumption
  · apply Kept.lit
    assumption
  · assumption

theorem State.tamperPins_kept (a0 : State) (h0 : Kept q n a0) :
    Kept q n (State.tamperPins a0) := by
  unfold State.tamperPins
  apply Kept.lit
  assumption

theorem State.tamperSequence_kept (a0 : State) (a1 : BitVec 8) (h0 : Kept q n a0) :
    Kept q n (State.tamperSequence a0 a1) := by
  unfold State.tamperSequence
  dsimp only
  apply Kept.lit
  apply State.ledgerPut_kept
  apply State.updDrop_kept
  apply State.updEntry_kept
  apply State.dbgClose_kept
  apply State.tamperPins_kept
  apply State.tamperFlush_kept
  assumption

theorem State.tripOff_kept (a0 : State) (a1 : BitVec 8) (h0 : Kept q n a0) :
    Kept q n (State.tripOff a0 a1) := by
  unfold State.tripOff
  apply Kept.lit
  assumption

theorem State.tripOn_kept (a0 : State) (a1 : BitVec 8) (h0 : Kept q n a0) :
    Kept q n (State.tripOn a0 a1) := by
  unfold State.tripOn
  dsimp only
  split
  · apply State.tamperSequence_kept
    apply State.bbxReq_kept
    apply State.raise_kept
    apply State.countTrips_kept
    apply Kept.lit
    assumption
  · apply State.ledgerPut_kept
    apply State.bbxReq_kept
    apply State.raise_kept
    apply State.countTrips_kept
    apply Kept.lit
    assumption

theorem State.tamperTrip_kept (a0 : State) (a1 : BitVec 8) (h0 : Kept q n a0) :
    Kept q n (State.tamperTrip a0 a1) := by
  unfold State.tamperTrip
  dsimp only
  split
  · assumption
  · split
    · apply State.tripOff_kept
      assumption
    · split
      · apply Kept.lit
        apply State.countTrips_kept
        assumption
      · apply State.tripOn_kept
        assumption

theorem State.zeroStart_kept (a0 : State) (h0 : Kept q n a0) :
    Kept q n (State.zeroStart a0) := by
  unfold State.zeroStart
  split
  · split
    · assumption
    · split
      · assumption
      · dsimp only
        apply Kept.lit
        apply State.eraseSecrets_kept
        assumption
  · assumption

theorem State.fwData_kept (a0 : State) (a1 : Nat) (a2 : Word) (h0 : Kept q n a0) :
    Kept q n (State.fwData a0 a1 a2) := by
  unfold State.fwData
  dsimp only
  split
  · apply Kept.lit
    assumption
  · split
    · split
      · apply Kept.lit
        assumption
      · apply State.bbxReq_kept
        apply Kept.lit
        assumption
    · split
      · apply Kept.lit
        assumption
      · apply State.bbxReq_kept
        apply Kept.lit
        assumption

theorem State.scanFrom_kept (a0 : State) (a1 : Nat) (a2 : Option Nat) (a3 : List Nat) (h0 : Kept q n a0) :
    Kept q n (State.scanFrom a0 a1 a2 a3).1 := by
  induction a3 generalizing a0 a1 a2 with
  | nil =>
    unfold State.scanFrom
    assumption
  | cons x xs ih =>
    unfold State.scanFrom
    dsimp only
    split
    · apply ih
      assumption
    · apply ih
      split
      · assumption
      · apply State.store_kept
        apply State.store_kept
        assumption

theorem State.storeReads_kept (a0 : State) (a1 : Nat) (a2 : Nat) (h0 : Kept q n a0) :
    Kept q n (State.storeReads a0 a1 a2) := by
  unfold State.storeReads
  apply Kept.foldl
  · intro x1
    intro x2
    intro x3
    apply State.readNote_kept
    assumption
  · assumption

theorem State.bbxScan_kept (a0 : State) (h0 : Kept q n a0) :
    Kept q n (State.bbxScan a0) := by
  unfold State.bbxScan
  split
  · assumption
  · dsimp only
    split
    · apply Kept.lit
      apply State.scanFrom_kept
      apply State.storeReads_kept
      apply State.storeReads_kept
      assumption
    · apply State.raise_kept
      apply State.bbxReq_kept
      apply Kept.lit
      apply State.scanFrom_kept
      apply State.storeReads_kept
      apply State.storeReads_kept
      assumption

theorem State.bbxWritten_kept (a0 : State) (h0 : Kept q n a0) :
    Kept q n (State.bbxWritten a0) := by
  unfold State.bbxWritten
  split
  · split
    · assumption
    · dsimp only
      apply Kept.lit
      split
      · apply State.bbxLose_kept
        assumption
      · apply State.bbxWrite_kept
        assumption
  · assumption

theorem State.fieldWrite_kept (a0 : State) (h0 : Kept q n a0) :
    Kept q n (State.fieldWrite a0) := by
  unfold State.fieldWrite
  split
  · assumption
  · apply State.fldWrite_kept
    apply Kept.lit
    assumption

theorem State.fldBoot_kept (a0 : State) (h0 : Kept q n a0) :
    Kept q n (State.fldBoot a0) := by
  unfold State.fldBoot
  split
  · apply State.fldAdd32_kept
    assumption
  · apply State.fldAdd32_kept
    apply State.fldAdd32_kept
    assumption
  · apply State.fldAdd32_kept
    assumption

theorem State.fldCarry_kept (a0 : State) (a1 : SMap Word) (h0 : Kept q n a0) :
    Kept q n (State.fldCarry a0 a1) := by
  unfold State.fldCarry
  apply Kept.foldl
  · intro x1
    intro x2
    intro x3
    split
    · apply State.fldAdd16_kept
      assumption
    · assumption
  · assumption

theorem State.fldFrom_kept (a0 : State) (a1 : Option (List Word)) (a2 : Option (List Word)) (h0 : Kept q n a0) :
    Kept q n (State.fldFrom a0 a1 a2) := by
  unfold State.fldFrom
  split
  · dsimp only
    split
    · apply Kept.lit
      assumption
    · apply State.bbxReq_kept
      apply Kept.lit
      assumption
  · apply State.raise_kept
    apply State.bbxReq_kept
    apply Kept.lit
    assumption

theorem State.fldLoad_kept (a0 : State) (h0 : Kept q n a0) :
    Kept q n (State.fldLoad a0) := by
  unfold State.fldLoad
  dsimp only
  apply State.fldWrite_kept
  apply State.fldBoot_kept
  apply State.fldCarry_kept
  apply State.fldFrom_kept
  apply State.storeReads_kept
  apply State.storeReads_kept
  assumption

theorem State.railCount_kept (a0 : State) (a1 : Nat) (a2 : Bool) (h0 : Kept q n a0) :
    Kept q n (State.railCount a0 a1 a2) := by
  unfold State.railCount
  dsimp only
  split
  · apply Kept.lit
    apply State.fldAdd16_kept
    assumption
  · apply State.fldAdd16_kept
    assumption

theorem State.tempSample_kept (a0 : State) (a1 : List Int) (h0 : Kept q n a0) :
    Kept q n (State.tempSample a0 a1) := by
  unfold State.tempSample
  dsimp only
  split
  · split
    · assumption
    · split
      · apply State.fldAdd32_kept
        apply Kept.lit
        apply Kept.foldl
        · intro x7
          intro x8
          intro x9
          split
          · assumption
          · split
            · apply State.fldAdd32_kept
              assumption
            · assumption
        · assumption
      · apply Kept.lit
        apply Kept.foldl
        · intro x6
          intro x7
          intro x8
          split
          · assumption
          · split
            · apply State.fldAdd32_kept
              assumption
            · assumption
        · assumption
  · split
    · assumption
    · split
      · apply State.fldAdd32_kept
        apply Kept.lit
        apply Kept.foldl
        · intro x7
          intro x8
          intro x9
          split
          · assumption
          · split
            · apply State.fldAdd32_kept
              assumption
            · assumption
        · assumption
      · apply Kept.lit
        apply Kept.foldl
        · intro x6
          intro x7
          intro x8
          split
          · assumption
          · split
            · apply State.fldAdd32_kept
              assumption
            · assumption
        · assumption
  · split
    · assumption
    · split
      · apply State.fldAdd32_kept
        apply Kept.lit
        apply Kept.foldl
        · intro x7
          intro x8
          intro x9
          split
          · assumption
          · split
            · apply State.fldAdd32_kept
              assumption
            · assumption
        · assumption
      · apply Kept.lit
        apply Kept.foldl
        · intro x6
          intro x7
          intro x8
          split
          · assumption
          · split
            · apply State.fldAdd32_kept
              assumption
            · assumption
        · assumption
  · split
    · assumption
    · split
      · apply State.fldAdd32_kept
        apply Kept.lit
        apply Kept.foldl
        · intro x7
          intro x8
          intro x9
          split
          · assumption
          · split
            · apply State.fldAdd32_kept
              assumption
            · assumption
        · assumption
      · apply Kept.lit
        apply Kept.foldl
        · intro x6
          intro x7
          intro x8
          split
          · assumption
          · split
            · apply State.fldAdd32_kept
              assumption
            · assumption
        · assumption
  · split
    · assumption
    · split
      · apply State.fldAdd32_kept
        apply Kept.lit
        apply Kept.foldl
        · intro x7
          intro x8
          intro x9
          split
          · assumption
          · split
            · apply State.fldAdd32_kept
              assumption
            · assumption
        · assumption
      · apply Kept.lit
        apply Kept.foldl
        · intro x6
          intro x7
          intro x8
          split
          · assumption
          · split
            · apply State.fldAdd32_kept
              assumption
            · assumption
        · assumption

theorem State.archErase_kept (a0 : State) (a1 : Nat) (h0 : Kept q n a0) :
    Kept q n (State.archErase a0 a1) := by
  unfold State.archErase
  dsimp only
  apply Kept.lit
  apply State.wipe_kept
  assumption

theorem State.archAbort_kept (a0 : State) (a1 : State → Nat → State) (h0 : Kept q n a0)
    (h1 : ∀ s x, Kept q n s → Kept q n (a1 s x)) :
    Kept q n (State.archAbort a0 a1) := by
  unfold State.archAbort
  split
  · assumption
  · split
    · assumption
    · apply State.raise_kept
      apply h1
      apply State.archErase_kept
      apply Kept.lit
      assumption

theorem State.storeSpans_kept (a0 : State) (a1 : List Word) (a2 : List (Nat × Nat)) (h0 : Kept q n a0) :
    Kept q n (State.storeSpans a0 a1 a2) := by
  induction a2 generalizing a0 a1 with
  | nil =>
    unfold State.storeSpans
    assumption
  | cons x xs ih =>
    unfold State.storeSpans
    apply ih
    apply State.store_kept
    assumption

theorem State.archPut_kept (a0 : State) (a1 : ArchEntry) (h0 : Kept q n a0) :
    Kept q n (State.archPut a0 a1) := by
  unfold State.archPut
  dsimp only
  apply Kept.lit
  apply State.storeSpans_kept
  apply Kept.foldl
  · intro x4
    intro x5
    intro x6
    apply State.archErase_kept
    assumption
  · assumption

theorem State.archiveWrite_kept (a0 : State) (a1 : Bool) (h0 : Kept q n a0) :
    Kept q n (State.archiveWrite a0 a1) := by
  unfold State.archiveWrite
  split
  · assumption
  · dsimp only
    split
    · apply State.raise_kept
      apply Kept.lit
      assumption
    · apply State.archPut_kept
      apply Kept.lit
      assumption

theorem State.closeBatch_kept (a0 : State) (a1 : Nat) (h0 : Kept q n a0) :
    Kept q n (State.closeBatch a0 a1) := by
  unfold State.closeBatch
  dsimp only
  apply Kept.lit
  assumption

theorem State.batchTimer_kept (a0 : State) (h0 : Kept q n a0) :
    Kept q n (State.batchTimer a0) := by
  unfold State.batchTimer
  split
  · apply State.closeBatch_kept
    assumption
  · assumption

theorem State.exportRecord_kept (a0 : State) (a1 : List Word) (h0 : Kept q n a0) :
    Kept q n (State.exportRecord a0 a1) := by
  unfold State.exportRecord
  dsimp only
  split
  · assumption
  · split
    · split
      · apply State.blockPush_kept
        assumption
      · apply Kept.lit
        apply State.blockPush_kept
        assumption
    · split
      · apply State.blockPush_kept
        assumption
      · apply Kept.lit
        apply State.blockPush_kept
        assumption

theorem State.chained_kept (a0 : State) (a1 : List Word) (h0 : Kept q n a0) :
    Kept q n (State.chained a0 a1) := by
  unfold State.chained
  dsimp only
  apply State.exportRecord_kept
  apply Kept.lit
  assumption

theorem State.chainOne_kept (a0 : State) (a1 : PendRec) (a2 : List PendRec) (h0 : Kept q n a0) :
    Kept q n (State.chainOne a0 a1 a2) := by
  unfold State.chainOne
  dsimp only
  apply Kept.lit
  apply State.chained_kept
  assumption

theorem State.closeIfDue_kept (a0 : State) (a1 : List Word) (h0 : Kept q n a0) :
    Kept q n (State.closeIfDue a0 a1) := by
  unfold State.closeIfDue
  dsimp only
  split
  · split
    · apply State.closeBatch_kept
      assumption
    · split
      · apply State.closeBatch_kept
        assumption
      · split
        · apply State.closeBatch_kept
          assumption
        · assumption
  · split
    · apply State.closeBatch_kept
      assumption
    · split
      · apply State.closeBatch_kept
        assumption
      · split
        · apply State.closeBatch_kept
          assumption
        · assumption

theorem State.putCopy_kept (a0 : State) (a1 : Bool) (a2 : LdgCopy) (a3 : List Word) (h0 : Kept q n a0) :
    Kept q n (State.putCopy a0 a1 a2 a3) := by
  unfold State.putCopy
  dsimp only
  split
  · apply Kept.lit
    apply State.store_kept
    apply State.store_kept
    assumption
  · apply Kept.lit
    apply State.store_kept
    apply State.store_kept
    assumption

theorem State.ledgerWritten_kept (a0 : State) (h0 : Kept q n a0) :
    Kept q n (State.ledgerWritten a0) := by
  unfold State.ledgerWritten
  split
  · assumption
  · dsimp only
    split
    · apply Kept.lit
      assumption
    · apply State.putCopy_kept
      apply State.putCopy_kept
      apply Kept.lit
      assumption

theorem State.flushAll_kept (a0 : State) (a1 : List PendRec) (h0 : Kept q n a0) :
    Kept q n (State.flushAll a0 a1) := by
  induction a1 generalizing a0 with
  | nil =>
    unfold State.flushAll
    assumption
  | cons x xs ih =>
    unfold State.flushAll
    apply ih
    apply State.ledgerWritten_kept
    apply State.chainOne_kept
    assumption

theorem State.ledgerFlush_kept (a0 : State) (a1 : Bool) (h0 : Kept q n a0) :
    Kept q n (State.ledgerFlush a0 a1) := by
  unfold State.ledgerFlush
  dsimp only
  apply State.flushAll_kept
  apply State.ledgerWritten_kept
  assumption

theorem State.readHeads_kept (a0 : State) (h0 : Kept q n a0) :
    Kept q n (State.readHeads a0) := by
  unfold State.readHeads
  apply State.readCheck_kept
  apply State.readCheck_kept
  assumption

theorem State.repairCopy_kept (a0 : State) (a1 : Bool) (a2 : LdgCopy) (h0 : Kept q n a0) :
    Kept q n (State.repairCopy a0 a1 a2) := by
  unfold State.repairCopy
  dsimp only
  split
  · apply Kept.lit
    apply State.store_kept
    apply Kept.foldl
    · intro x5
      intro x6
      intro x7
      apply State.store_kept
      assumption
    · assumption
  · apply Kept.lit
    apply State.store_kept
    apply Kept.foldl
    · intro x5
      intro x6
      intro x7
      apply State.store_kept
      assumption
    · assumption

theorem State.ledgerBoot_kept (a0 : State) (h0 : Kept q n a0) :
    Kept q n (State.ledgerBoot a0) := by
  unfold State.ledgerBoot
  dsimp only
  split
  · apply Kept.lit
    split
    · split
      · apply State.openCharge_kept
        apply State.readHeads_kept
        assumption
      · apply State.repairCopy_kept
        apply State.openCharge_kept
        apply State.readHeads_kept
        assumption
    · split
      · apply State.openCharge_kept
        apply State.readHeads_kept
        assumption
      · apply State.repairCopy_kept
        apply State.openCharge_kept
        apply State.readHeads_kept
        assumption
  · apply State.raise_kept
    apply Kept.lit
    apply State.openCharge_kept
    apply State.readHeads_kept
    assumption

theorem State.ledgerChain_kept (a0 : State) (h0 : Kept q n a0) :
    Kept q n (State.ledgerChain a0) := by
  unfold State.ledgerChain
  split
  · assumption
  · split
    · assumption
    · dsimp only
      apply State.closeIfDue_kept
      apply State.chainOne_kept
      assumption

theorem State.ledgerWriteDone_kept (a0 : State) (h0 : Kept q n a0) :
    Kept q n (State.ledgerWriteDone a0) := by
  unfold State.ledgerWriteDone
  split
  · assumption
  · apply State.ledgerWritten_kept
    assumption

theorem State.noteActivity_kept (a0 : State) (a1 : RecordIn) (h0 : Kept q n a0) :
    Kept q n (State.noteActivity a0 a1) := by
  unfold State.noteActivity
  dsimp only
  split
  · assumption
  · split
    · apply State.fixActivity_kept
      apply Kept.lit
      assumption
    · apply State.fixActivity_kept
      apply Kept.lit
      assumption

theorem State.recordIn_kept (a0 : State) (a1 : RecordIn) (h0 : Kept q n a0) :
    Kept q n (State.recordIn a0 a1) := by
  unfold State.recordIn
  apply State.noteActivity_kept
  apply State.ledgerPut_kept
  assumption

theorem State.signDone_kept (a0 : State) (a1 : Bool) (h0 : Kept q n a0) :
    Kept q n (State.signDone a0 a1) := by
  unfold State.signDone
  split
  · assumption
  · split
    · assumption
    · dsimp only
      apply Kept.lit
      apply State.chained_kept
      split
      · apply State.raise_kept
        assumption
      · assumption

theorem State.wdtNote_kept (a0 : State) (a1 : Nat) (a2 : Nat) (h0 : Kept q n a0) :
    Kept q n (State.wdtNote a0 a1 a2) := by
  unfold State.wdtNote
  dsimp only
  apply State.raise_kept
  apply State.orReg_kept
  apply State.modWdt_kept
  assumption

theorem State.watchdogReset_kept (a0 : State) (a1 : Nat) (h0 : Kept q n a0) :
    Kept q n (State.watchdogReset a0 a1) := by
  unfold State.watchdogReset
  dsimp only
  apply State.warmReset_kept
  apply State.bbxReq_kept
  apply Kept.lit
  assumption

theorem State.wdtEnd_kept (a0 : State) (a1 : Nat) (a2 : Bool) (a3 : Nat) (h0 : Kept q n a0) :
    Kept q n (State.wdtEnd a0 a1 a2 a3) := by
  unfold State.wdtEnd
  dsimp only
  split
  · apply State.watchdogReset_kept
    split
    · apply State.modCore_kept
      apply State.modWdt_kept
      assumption
    · apply State.modWdt_kept
      assumption
  · split
    · apply State.modCore_kept
      apply State.modWdt_kept
      assumption
    · apply State.modWdt_kept
      assumption

theorem State.wdtFail_kept (a0 : State) (a1 : Nat) (a2 : Nat) (a3 : Nat) (h0 : Kept q n a0) :
    Kept q n (State.wdtFail a0 a1 a2 a3) := by
  unfold State.wdtFail
  dsimp only
  split
  · apply State.engReset_kept
    apply State.wdtNote_kept
    assumption
  · apply State.wdtEnd_kept
    apply State.wdtNote_kept
    assumption

theorem State.wdtPeriod_kept (a0 : State) (a1 : Nat) (h0 : Kept q n a0) :
    Kept q n (State.wdtPeriod a0 a1) := by
  unfold State.wdtPeriod
  split
  · dsimp only
    split
    · apply State.wdtFail_kept
      assumption
    · apply State.wdtEnd_kept
      assumption
  · assumption

theorem State.wdtClose_kept (a0 : State) (a1 : Nat) (h0 : Kept q n a0) :
    Kept q n (State.wdtClose a0 a1) := by
  unfold State.wdtClose
  split
  · apply State.wdtFail_kept
    assumption
  · assumption

theorem State.wdtChallenge_kept (a0 : State) (a1 : Nat) (a2 : Word) (h0 : Kept q n a0) :
    Kept q n (State.wdtChallenge a0 a1 a2) := by
  unfold State.wdtChallenge
  dsimp only
  split
  · apply State.wdtFail_kept
    assumption
  · split
    · apply State.wdtEnd_kept
      apply State.modWdt_kept
      assumption
    · apply State.wdtFail_kept
      apply State.modWdt_kept
      assumption

theorem State.wdtBad_kept (a0 : State) (a1 : Nat) (a2 : Nat) (h0 : Kept q n a0) :
    Kept q n (State.wdtBad a0 a1 a2) := by
  unfold State.wdtBad
  dsimp only
  split
  · apply State.engReset_kept
    apply State.wdtNote_kept
    assumption
  · apply State.wdtNote_kept
    assumption

theorem State.wdtTask_kept (a0 : State) (a1 : Nat) (a2 : Word) (h0 : Kept q n a0) :
    Kept q n (State.wdtTask a0 a1 a2) := by
  unfold State.wdtTask
  dsimp only
  split
  · apply State.wdtBad_kept
    assumption
  · split
    · apply State.wdtBad_kept
      assumption
    · split
      · apply State.wdtBad_kept
        assumption
      · apply State.modWdt_kept
        assumption

theorem State.wdtServe_kept (a0 : State) (a1 : Nat) (a2 : Word) (h0 : Kept q n a0) :
    Kept q n (State.wdtServe a0 a1 a2) := by
  unfold State.wdtServe
  dsimp only
  split
  · apply State.wdtPeriod_kept
    apply State.wdtClose_kept
    assumption
  · split
    · apply Kept.lit
      apply State.wdtPeriod_kept
      apply State.wdtClose_kept
      assumption
    · split
      · apply State.wdtChallenge_kept
        apply State.wdtPeriod_kept
        apply State.wdtClose_kept
        assumption
      · split
        · apply State.wdtTask_kept
          apply State.wdtPeriod_kept
          apply State.wdtClose_kept
          assumption
        · apply State.wdtPeriod_kept
          apply State.wdtClose_kept
          assumption

theorem State.wdtService_kept (a0 : State) (a1 : Nat) (a2 : Word) (h0 : Kept q n a0) :
    Kept q n (State.wdtService a0 a1 a2) := by
  unfold State.wdtService
  apply State.during_kept
  · assumption
  · intro x1
    intro x2
    apply State.wdtServe_kept
    assumption

theorem State.eraseFall_kept (a0 : State) (h0 : Kept q n a0) :
    Kept q n (State.eraseFall a0) := by
  unfold State.eraseFall
  split
  · assumption
  · dsimp only
    split
    · apply Kept.foldl
      · intro x4
        intro x5
        intro x6
        apply State.modWdt_kept
        assumption
      · apply Kept.lit
        assumption
    · apply State.thawTrifle_kept
      apply Kept.foldl
      · intro x5
        intro x6
        intro x7
        apply State.modWdt_kept
        assumption
      · apply Kept.lit
        assumption

theorem State.undefSector_kept (a0 : State) (a1 : Nat) (h0 : Kept q n a0) :
    Kept q n (State.undefSector a0 a1) := by
  unfold State.undefSector
  dsimp only
  apply State.store_kept
  apply State.draw_kept
  assumption

theorem State.eraseCap_kept (a0 : State) (h0 : Kept q n a0) : Kept q n (State.eraseCap a0) := by
  unfold State.eraseCap
  split
  · exact h0
  · split
    · exact h0
    · dsimp only
      split
      · apply State.updEntry_kept
        apply Kept.lit
        apply State.undefSector_kept
        apply State.raise_kept
        apply Kept.lit
        exact State.eraseFall_kept _ h0
      · refine State.archAbort_kept _ _ ?_ (fun s x hs => State.undefSector_kept s x hs)
        apply State.raise_kept
        apply Kept.lit
        exact State.eraseFall_kept _ h0


theorem State.eraseRise_kept (a0 : State) (h0 : Kept q n a0) :
    Kept q n (State.eraseRise a0) := by
  unfold State.eraseRise
  split
  · assumption
  · dsimp only
    apply Kept.foldl
    · intro x3
      intro x4
      intro x5
      split
      · assumption
      · apply State.modWdt_kept
        apply State.freezeWdt_kept
        assumption
    · apply Kept.lit
      assumption

theorem State.wdtWarn_kept (a0 : State) (a1 : Nat) (h0 : Kept q n a0) :
    Kept q n (State.wdtWarn a0 a1) := by
  unfold State.wdtWarn
  dsimp only
  split
  · split
    · apply State.modCore_kept
      apply State.modWdt_kept
      assumption
    · apply State.modWdt_kept
      assumption
  · assumption

end Sys2Proof.Machine
end

