-- ==== Sys2Proof/Laws/KeptBoot.lean ====
section
/-!
SUPPORT. Every operation of lockstep and boot keeps what `Kept` says.
-/

namespace Sys2Proof.Machine

variable {q : List Instr} {n : Nat}

theorem State.unsplit_kept (a0 : State) (a1 : Nat) (a2 : CoreSt) (h0 : Kept q n a0) :
    Kept q n (State.unsplit a0 a1 a2) := by
  unfold State.unsplit
  dsimp only
  apply State.modWdt_kept
  apply State.modCore_kept
  apply State.modEng_kept
  assumption

theorem State.mismatch_kept (a0 : State) (a1 : Nat) (a2 : Nat) (a3 : Addr) (a4 : Nat) (h0 : Kept q n a0) :
    Kept q n (State.mismatch a0 a1 a2 a3 a4) := by
  unfold State.mismatch
  dsimp only
  apply State.during_kept
  · apply State.orReg_kept
    apply State.modEng_kept
    apply State.modCore_kept
    split
    · split
      · apply State.unsplit_kept
        apply State.setReg_kept
        assumption
      · apply State.setReg_kept
        assumption
    · split
      · apply State.unsplit_kept
        assumption
      · assumption
  · intro x2
    intro x3
    apply State.raise_kept
    assumption

theorem State.copyRange_kept (a0 : State) (a1 : Nat) (a2 : Nat) (a3 : Nat) (h0 : Kept q n a0) :
    Kept q n (State.copyRange a0 a1 a2 a3) := by
  unfold State.copyRange
  dsimp only
  apply Kept.foldl
  · intro x2
    intro x3
    intro x4
    apply State.putByte_kept
    assumption
  · apply State.wipe_kept
    assumption

theorem State.modTrf_kept (a0 : State) (a1 : TrfSt → TrfSt) (h0 : Kept q n a0) :
    Kept q n (State.modTrf a0 a1) := by
  unfold State.modTrf
  apply Kept.lit
  assumption

theorem State.spadCopy_kept (a0 : State) (a1 : Nat) (a2 : Nat) (h0 : Kept q n a0) :
    Kept q n (State.spadCopy a0 a1 a2) := by
  unfold State.spadCopy
  apply State.copyRange_kept
  assumption

theorem State.joinEnd_kept (a0 : State) (a1 : Nat) (h0 : Kept q n a0) :
    Kept q n (State.joinEnd a0 a1) := by
  unfold State.joinEnd
  split
  · split
    · assumption
    · dsimp only
      apply State.takeCkpt_kept
      apply State.modCore_kept
      apply State.modEng_kept
      apply State.spadCopy_kept
      assumption
  · assumption

theorem State.joinNow_kept (a0 : State) (a1 : Nat) (h0 : Kept q n a0) :
    Kept q n (State.joinNow a0 a1) := by
  unfold State.joinNow
  dsimp only
  apply State.modEng_kept
  apply State.modWdt_kept
  apply State.modCore_kept
  assumption

theorem State.lockstepDiffers_kept (a0 : State) (a1 : Nat) (a2 : BitVec 4) (a3 : Addr) (h0 : Kept q n a0) :
    Kept q n (State.lockstepDiffers a0 a1 a2 a3) := by
  unfold State.lockstepDiffers
  split
  · split
    · assumption
    · apply State.raise_kept
      assumption
  · split
    · assumption
    · split
      · apply State.gcode_kept
        assumption
      · apply State.mismatch_kept
        split
        · apply State.gcode_kept
          assumption
        · assumption

theorem State.modeReset_kept (a0 : State) (a1 : Nat) (h0 : Kept q n a0) :
    Kept q n (State.modeReset a0 a1) := by
  unfold State.modeReset
  split
  · assumption
  · split
    · apply State.finishMode_kept
      apply State.modEng_kept
      assumption
    · split
      · assumption
      · dsimp only
        apply State.takeCkpt_kept
        split
        · apply State.coreReset_kept
          apply State.coreReset_kept
          apply State.lksDisarm_kept
          apply State.modEng_kept
          apply State.modEng_kept
          assumption
        · apply State.coreReset_kept
          apply State.modEng_kept
          apply State.modWdt_kept
          apply State.spadCopy_kept
          apply State.modEng_kept
          assumption

theorem State.noVote_kept (a0 : State) (h0 : Kept q n a0) :
    Kept q n (State.noVote a0) := by
  unfold State.noVote
  apply State.raise_kept
  apply State.modTrf_kept
  assumption

theorem State.wbApply_kept (a0 : State) (a1 : Nat) (a2 : WbEntry) (h0 : Kept q n a0) :
    Kept q n (State.wbApply a0 a1 a2) := by
  unfold State.wbApply
  apply Kept.foldl
  · intro x1
    intro x2
    intro x3
    apply State.store_kept
    assumption
  · assumption

theorem State.undo_kept (a0 : State) (a1 : Nat) (a2 : List (Addr × Word)) (h0 : Kept q n a0) :
    Kept q n (State.undo a0 a1 a2) := by
  induction a2 generalizing a0 a1 with
  | nil =>
    unfold State.undo
    assumption
  | cons x xs ih =>
    unfold State.undo
    apply ih
    apply State.store_kept
    assumption

theorem State.resync_kept (a0 : State) (a1 : Nat) (a2 : CoreSt) (a3 : CoreSt) (h0 : Kept q n a0) :
    Kept q n (State.resync a0 a1 a2 a3) := by
  unfold State.resync
  dsimp only
  apply State.modEng_kept
  apply State.modCore_kept
  apply State.modCore_kept
  apply State.undo_kept
  apply State.undo_kept
  apply Kept.foldl
  · intro x7
    intro x8
    intro x9
    apply State.wbApply_kept
    assumption
  · assumption

theorem State.scanFix_kept (a0 : State) (a1 : Nat) (h0 : Kept q n a0) :
    Kept q n (State.scanFix a0 a1) := by
  unfold State.scanFix
  dsimp only
  apply Kept.foldl
  · intro x2
    intro x3
    intro x4
    apply State.gcode_kept
    apply State.setClass_kept
    assumption
  · assumption

theorem State.selftestEnd_kept (a0 : State) (a1 : Nat) (a2 : Bool) (a3 : Bool) (h0 : Kept q n a0) :
    Kept q n (State.selftestEnd a0 a1 a2 a3) := by
  unfold State.selftestEnd
  dsimp only
  split
  · assumption
  · split
    · apply State.raise_kept
      apply State.resync_kept
      apply State.modEng_kept
      apply State.lksCount_kept
      apply State.scanFix_kept
      apply State.scanFix_kept
      assumption
    · apply State.raise_kept
      apply State.fenceEngine_kept
      apply State.modEng_kept
      apply State.lksCount_kept
      apply State.scanFix_kept
      apply State.scanFix_kept
      assumption

theorem State.sigClose_kept (a0 : State) (a1 : Nat) (a2 : Bool) (h0 : Kept q n a0) :
    Kept q n (State.sigClose a0 a1 a2) := by
  unfold State.sigClose
  split
  · split
    · apply State.mismatch_kept
      assumption
    · apply State.modEng_kept
      assumption
  · assumption

theorem State.splitNow_kept (a0 : State) (a1 : Nat) (a2 : CoreSt) (h0 : Kept q n a0) :
    Kept q n (State.splitNow a0 a1 a2) := by
  unfold State.splitNow
  dsimp only
  apply State.wdtStart_kept
  apply State.modCore_kept
  apply State.modCore_kept
  apply State.lksDisarm_kept
  apply State.modEng_kept
  assumption

theorem State.testEnd_kept (a0 : State) (a1 : Nat) (a2 : BitVec 32) (h0 : Kept q n a0) :
    Kept q n (State.testEnd a0 a1 a2) := by
  unfold State.testEnd
  split
  · assumption
  · split
    · assumption
    · dsimp only
      split
      · apply State.orReg_kept
        assumption
      · apply State.bbxReq_kept
        apply State.raise_kept
        apply Kept.foldl
        · intro x7
          intro x8
          intro x9
          apply State.wdtStop_kept
          apply State.modEng_kept
          assumption
        · apply State.setRegs_kept
          apply State.orReg_kept
          assumption

theorem State.testStart_kept (a0 : State) (a1 : Nat) (h0 : Kept q n a0) :
    Kept q n (State.testStart a0 a1) := by
  unfold State.testStart
  split
  · refine State.modDie_keeps _ _ _ ?_ (fun _ => rfl)
    assumption
  · assumption

theorem State.trifleDiffers_kept (a0 : State) (a1 : BitVec 3) (h0 : Kept q n a0) :
    Kept q n (State.trifleDiffers a0 a1) := by
  unfold State.trifleDiffers
  dsimp only
  split
  · assumption
  · split
    · assumption
    · split
      · apply State.raise_kept
        apply State.modTrf_kept
        assumption
      · apply State.noVote_kept
        assumption
    · apply State.noVote_kept
      assumption

theorem State.trifleRejoin_kept (a0 : State) (a1 : Nat) (h0 : Kept q n a0) :
    Kept q n (State.trifleRejoin a0 a1) := by
  unfold State.trifleRejoin
  split
  · assumption
  · apply State.modTrf_kept
    apply State.copyRange_kept
    assumption

theorem State.trifleTest_kept (a0 : State) (a1 : Nat) (a2 : Bool) (h0 : Kept q n a0) :
    Kept q n (State.trifleTest a0 a1 a2) := by
  unfold State.trifleTest
  split
  · assumption
  · split
    · apply State.modTrf_kept
      assumption
    · apply State.raise_kept
      apply State.modTrf_kept
      assumption

theorem State.bootEntries_kept (a0 : State) (h0 : Kept q n a0) :
    Kept q n (State.bootEntries a0) := by
  unfold State.bootEntries
  dsimp only
  split
  · split
    · apply State.bbxReq_kept
      apply State.bbxReq_kept
      assumption
    · apply State.bbxReq_kept
      apply State.bbxReq_kept
      apply State.bbxReq_kept
      assumption
  · split
    · apply State.bbxReq_kept
      assumption
    · apply State.bbxReq_kept
      apply State.bbxReq_kept
      assumption

theorem State.bootRecords_kept (a0 : State) (h0 : Kept q n a0) :
    Kept q n (State.bootRecords a0) := by
  unfold State.bootRecords
  split
  · assumption
  · dsimp only
    apply Kept.lit
    assumption

theorem State.bootStart_kept (a0 : State) (h0 : Kept q n a0) :
    Kept q n (State.bootStart a0) := by
  unfold State.bootStart
  dsimp only
  apply State.alignMarker_kept
  apply Kept.lit
  assumption

theorem State.resetDevice_kept (a0 : State) (a1 : ResetKind) (h0 : Kept q n a0) :
    Kept q n (State.resetDevice a0 a1) := by
  unfold State.resetDevice
  split
  · apply State.vbatShow_kept
    apply State.deviceReset_kept
    assumption
  · split
    · apply State.vbatShow_kept
      apply State.deviceReset_kept
      assumption
    · apply State.bootStart_kept
      apply State.vbatShow_kept
      apply State.deviceReset_kept
      assumption

theorem State.tinBroken_kept (a0 : State) (h0 : Kept q n a0) :
    Kept q n (State.tinBroken a0) := by
  unfold State.tinBroken
  split
  · dsimp only
    apply State.store_kept
    apply State.draw_kept
    assumption
  · assumption

theorem State.ledgerBroken_kept (a0 : State) (h0 : Kept q n a0) :
    Kept q n (State.ledgerBroken a0) := by
  unfold State.ledgerBroken
  dsimp only
  apply Kept.lit
  split
  · assumption
  · apply State.store_kept
    apply State.draw_kept
    assumption

theorem State.collapse_kept (a0 : State) (h0 : Kept q n a0) :
    Kept q n (State.collapse a0) := by
  unfold State.collapse
  split
  · apply State.resetDevice_kept
    apply State.tinBroken_kept
    apply State.ledgerBroken_kept
    assumption
  · assumption

theorem State.otpRaise_kept (a0 : State) (a1 : Nat) (a2 : Nat) (a3 : Nat) (h0 : Kept q n a0) :
    Kept q n (State.otpRaise a0 a1 a2 a3) := by
  unfold State.otpRaise
  apply State.wrs_kept
  assumption

theorem State.confirmFirmware_kept (a0 : State) (h0 : Kept q n a0) :
    Kept q n (State.confirmFirmware a0) := by
  unfold State.confirmFirmware
  dsimp only
  split
  · split
    · apply State.otpRaise_kept
      apply State.confirmSlot_kept
      assumption
    · apply State.confirmSlot_kept
      assumption
  · assumption

theorem State.copyTrifle_kept (a0 : State) (a1 : Bool) (h0 : Kept q n a0) :
    Kept q n (State.copyTrifle a0 a1) := by
  unfold State.copyTrifle
  split
  · assumption
  · apply Kept.foldl
    · intro x2
      intro x3
      intro x4
      split
      · apply State.modTrf_kept
        apply State.store_kept
        assumption
      · assumption
    · assumption

theorem State.powerTime_kept (a0 : State) (h0 : Kept q n a0) :
    Kept q n (State.powerTime a0) := by
  unfold State.powerTime
  dsimp only
  apply Kept.lit
  assumption

theorem State.tamperBoot_kept (a0 : State) (h0 : Kept q n a0) :
    Kept q n (State.tamperBoot a0) := by
  unfold State.tamperBoot
  dsimp only
  split
  · split
    · assumption
    · split
      · apply State.setZeroed_kept
        apply State.eraseSecrets_kept
        apply State.raise_kept
        apply State.countTrips_kept
        apply Kept.lit
        assumption
      · apply State.raise_kept
        apply State.countTrips_kept
        apply Kept.lit
        assumption
  · split
    · assumption
    · split
      · apply State.setZeroed_kept
        apply State.eraseSecrets_kept
        apply State.raise_kept
        apply State.countTrips_kept
        apply Kept.lit
        assumption
      · apply State.raise_kept
        apply State.countTrips_kept
        apply Kept.lit
        assumption

theorem State.powerUp_kept (a0 : State) (h0 : Kept q n a0) :
    Kept q n (State.powerUp a0) := by
  unfold State.powerUp
  dsimp only
  apply State.tamperBoot_kept
  split
  · split
    · apply Kept.lit
      apply State.powerTime_kept
      apply State.vbatShow_kept
      apply State.vbatReset_kept
      assumption
    · apply State.bootStart_kept
      apply State.powerTime_kept
      apply State.vbatShow_kept
      apply State.vbatReset_kept
      assumption
  · split
    · apply Kept.lit
      apply State.powerTime_kept
      assumption
    · apply State.bootStart_kept
      apply State.powerTime_kept
      assumption

theorem State.detectorRelease_kept (a0 : State) (h0 : Kept q n a0) :
    Kept q n (State.detectorRelease a0) := by
  unfold State.detectorRelease
  split
  · assumption
  · dsimp only
    split
    · apply State.powerUp_kept
      apply Kept.lit
      assumption
    · apply Kept.lit
      assumption

theorem State.fwTry_kept (a0 : State) (a1 : List Bool) (h0 : Kept q n a0) :
    Kept q n (State.fwTry a0 a1).1 := by
  induction a1 generalizing a0 with
  | nil =>
    unfold State.fwTry
    assumption
  | cons x xs ih =>
    unfold State.fwTry
    dsimp only
    split
    · dsimp only [KeptRes, KeptRd, KeptWr, KeptBlk, KeptCsrRd]
      apply State.bundleReads_kept
      apply State.bootTry_kept
      assumption
    · apply ih
      apply State.bootFailed_kept
      apply State.bundleReads_kept
      apply State.bootTry_kept
      assumption

theorem State.firmwareStart_kept (a0 : State) (h0 : Kept q n a0) :
    Kept q n (State.firmwareStart a0) := by
  unfold State.firmwareStart
  split
  · assumption
  · dsimp only
    split
    · apply Kept.lit
      refine Kept.fst ?_ (by assumption)
      apply State.fwTry_kept
      apply State.bootChoose_kept
      assumption
    · apply State.bootEntries_kept
      apply State.bootRecords_kept
      apply State.haltImage_kept
      apply State.bootChoose_kept
      apply State.bootChoose_kept
      apply Kept.lit
      apply State.copyTrifle_kept
      apply State.bootUse_kept
      refine Kept.fst ?_ (by assumption)
      apply State.fwTry_kept
      apply State.bootChoose_kept
      assumption

theorem State.flushDeadline_kept (a0 : State) (h0 : Kept q n a0) :
    Kept q n (State.flushDeadline a0) := by
  unfold State.flushDeadline
  split
  · split
    · assumption
    · apply State.resetDevice_kept
      apply State.bbxFlush_kept
      apply State.ledgerBroken_kept
      assumption
  · assumption

theorem State.flushEnd_kept (a0 : State) (h0 : Kept q n a0) :
    Kept q n (State.flushEnd a0) := by
  unfold State.flushEnd
  split
  · dsimp only
    split
    · split
      · apply State.bbxFlush_kept
        apply State.ledgerFlush_kept
        assumption
      · apply State.resetDevice_kept
        apply State.bbxFlush_kept
        apply State.ledgerFlush_kept
        assumption
    · split
      · apply State.bbxFlush_kept
        assumption
      · apply State.resetDevice_kept
        apply State.bbxFlush_kept
        assumption
  · assumption

theorem State.shedLoad_kept (a0 : State) (h0 : Kept q n a0) :
    Kept q n (State.shedLoad a0) := by
  unfold State.shedLoad
  dsimp only
  apply Kept.foldl
  · intro x2
    intro x3
    intro x4
    apply State.modEth_kept
    apply State.modPdie_kept
    assumption
  · apply State.modSft_kept
    apply State.modSft_kept
    apply Kept.foldl
    · intro x5
      intro x6
      intro x7
      apply State.wdtStop_kept
      apply State.modCore_kept
      apply State.modCore_kept
      assumption
    · assumption

theorem State.lossFlush_kept (a0 : State) (h0 : Kept q n a0) :
    Kept q n (State.lossFlush a0) := by
  unfold State.lossFlush
  split
  · apply State.shedLoad_kept
    apply Kept.lit
    assumption
  · apply State.shedLoad_kept
    apply State.startFlush_kept
    assumption

theorem State.placeModule_kept (a0 : State) (a1 : BundleMod) (h0 : Kept q n a0) :
    Kept q n (State.placeModule a0 a1) := by
  unfold State.placeModule
  apply State.store_kept
  assumption

theorem State.modulePlace_kept (a0 : State) (h0 : Kept q n a0) :
    Kept q n (State.modulePlace a0) := by
  unfold State.modulePlace
  dsimp only
  split
  · assumption
  · split
    · apply Kept.lit
      apply Kept.foldl
      · intro x5
        intro x6
        intro x7
        apply State.placeModule_kept
        assumption
      · assumption
    · apply State.warmReset_kept
      apply State.slotEntry_kept
      apply State.setSlotRec_kept
      apply State.setFail_kept
      assumption

theorem State.railsAtPower_kept (a0 : State) (a1 : BitVec 13) (h0 : Kept q n a0) :
    Kept q n (State.railsAtPower a0 a1) := by
  unfold State.railsAtPower
  apply Kept.foldl
  · intro x1
    intro x2
    intro x3
    split
    · assumption
    · apply State.railCount_kept
      assumption
  · assumption

theorem State.powerGood_kept (a0 : State) (a1 : BitVec 13) (a2 : Bool) (a3 : Nat) (h0 : Kept q n a0) :
    Kept q n (State.powerGood a0 a1 a2 a3) := by
  unfold State.powerGood
  split
  · assumption
  · dsimp only
    split
    · apply State.powerUp_kept
      apply State.railsAtPower_kept
      apply Kept.lit
      assumption
    · apply State.railsAtPower_kept
      apply Kept.lit
      assumption

theorem State.powerLoss_kept (a0 : State) (a1 : Bool) (h0 : Kept q n a0) :
    Kept q n (State.powerLoss a0 a1) := by
  unfold State.powerLoss
  split
  · assumption
  · dsimp only
    split
    · split
      · apply Kept.lit
        assumption
      · apply State.fldAdd16_kept
        apply Kept.lit
        assumption
    · apply State.resetDevice_kept
      split
      · apply Kept.lit
        assumption
      · apply State.fldAdd16_kept
        apply Kept.lit
        assumption
    · apply State.resetDevice_kept
      split
      · apply Kept.lit
        assumption
      · apply State.fldAdd16_kept
        apply Kept.lit
        assumption
    · apply State.lossFlush_kept
      split
      · apply Kept.lit
        assumption
      · apply State.fldAdd16_kept
        apply Kept.lit
        assumption

theorem State.railExcursion_kept (a0 : State) (a1 : Nat) (a2 : Bool) (h0 : Kept q n a0) :
    Kept q n (State.railExcursion a0 a1 a2) := by
  unfold State.railExcursion
  split
  · assumption
  · dsimp only
    split
    · split
      · apply Kept.lit
        apply State.railCount_kept
        assumption
      · apply State.railCount_kept
        assumption
    · split
      · apply State.collapse_kept
        split
        · apply Kept.lit
          apply State.railCount_kept
          assumption
        · apply State.railCount_kept
          assumption
      · split
        · apply Kept.lit
          apply State.railCount_kept
          assumption
        · apply State.railCount_kept
          assumption
    · split
      · apply State.resetDevice_kept
        apply Kept.lit
        apply State.railCount_kept
        assumption
      · apply State.railCount_kept
        assumption

theorem State.rejectSlots_kept (a0 : State) (h0 : Kept q n a0) :
    Kept q n (State.rejectSlots a0) := by
  unfold State.rejectSlots
  apply Kept.foldl
  · intro x1
    intro x2
    intro x3
    apply State.rejectSlot_kept
    apply State.rejectSlot_kept
    assumption
  · assumption

theorem State.resetRelease_kept (a0 : State) (h0 : Kept q n a0) :
    Kept q n (State.resetRelease a0) := by
  unfold State.resetRelease
  dsimp only
  split
  · apply State.bootStart_kept
    apply Kept.lit
    assumption
  · apply Kept.lit
    assumption

theorem State.resetRequest_kept (a0 : State) (h0 : Kept q n a0) :
    Kept q n (State.resetRequest a0) := by
  unfold State.resetRequest
  dsimp only
  split
  · apply Kept.lit
    assumption
  · apply State.resetDevice_kept
    apply Kept.lit
    assumption
  · apply State.warmReset_kept
    apply Kept.lit
    assumption

theorem State.rstRelease_kept (a0 : State) (h0 : Kept q n a0) :
    Kept q n (State.rstRelease a0) := by
  unfold State.rstRelease
  split
  · apply Kept.lit
    assumption
  · assumption

theorem State.sectorErased_kept (a0 : State) (h0 : Kept q n a0) :
    Kept q n (State.sectorErased a0) := by
  unfold State.sectorErased
  split
  · assumption
  · split
    · assumption
    · dsimp only
      apply Kept.lit
      split
      · assumption
      · apply State.wipe_kept
        assumption

theorem State.slotConfirm_kept (a0 : State) (a1 : Nat) (h0 : Kept q n a0) :
    Kept q n (State.slotConfirm a0 a1) := by
  unfold State.slotConfirm
  split
  · assumption
  · split
    · assumption
    · split
      · apply State.confirmFirmware_kept
        assumption
      · split
        · apply State.confirmSlot_kept
          assumption
        · assumption

theorem State.voteTest_kept (a0 : State) (a1 : BitVec 3) (h0 : Kept q n a0) :
    Kept q n (State.voteTest a0 a1) := by
  unfold State.voteTest
  apply Kept.foldl
  · intro x1
    intro x2
    intro x3
    dsimp only
    split
    · apply State.bbxReq_kept
      apply State.raise_kept
      apply State.modTrf_kept
      apply State.raise_kept
      apply State.modTrf_kept
      assumption
    · apply State.raise_kept
      apply State.modTrf_kept
      assumption
  · assumption

theorem State.trifleStart_kept (a0 : State) (a1 : BitVec 3) (h0 : Kept q n a0) :
    Kept q n (State.trifleStart a0 a1) := by
  unfold State.trifleStart
  split
  · split
    · assumption
    · dsimp only
      apply State.voteTest_kept
      apply State.rejectSlots_kept
      apply State.repairRecord_kept
      apply State.ledgerBoot_kept
      apply State.fldLoad_kept
      apply State.wdtStart_kept
      apply State.wdtStart_kept
      apply Kept.lit
      assumption
  · assumption

theorem State.zeroEnd_kept (a0 : State) (h0 : Kept q n a0) :
    Kept q n (State.zeroEnd a0) := by
  unfold State.zeroEnd
  split
  · split
    · assumption
    · dsimp only
      split
      · split
        · apply State.resetDevice_kept
          apply State.bbxFlush_kept
          apply Kept.lit
          apply State.setZeroed_kept
          apply State.eraseSecrets_kept
          assumption
        · apply Kept.lit
          apply State.setZeroed_kept
          apply State.eraseSecrets_kept
          assumption
      · apply State.warmReset_kept
        apply Kept.lit
        apply State.setZeroed_kept
        apply State.eraseSecrets_kept
        assumption
  · assumption

end Sys2Proof.Machine
end

