-- ==== Sys2Proof/Laws/KeptEngine.lean ====
section
/-!
SUPPORT. Every operation of the engines: CSRs, their memory, exceptions and instructions keeps what `Kept` says.
-/

namespace Sys2Proof.Machine

variable {q : List Instr} {n : Nat}

theorem State.dropReserved_kept (a0 : State) (a1 : Nat) (a2 : Nat) (a3 : Nat) (h0 : Kept q n a0) :
    Kept q n (State.dropReserved a0 a1 a2 a3) := by
  unfold State.dropReserved
  dsimp only
  apply State.raiseRsvd_kept
  apply State.orReg_kept
  assumption

theorem State.portSettled_kept (a0 : State) (a1 : Nat) (h0 : Kept q n a0) :
    Kept q n (State.portSettled a0 a1) := by
  unfold State.portSettled
  split
  · apply State.handed_kept
    assumption
  · assumption

theorem State.crbAck_kept (a0 : State) (a1 : Word) (h0 : Kept q n a0) :
    Kept q n (State.crbAck a0 a1) := by
  unfold State.crbAck
  dsimp only
  apply Kept.lit
  assumption

theorem State.crbWrite_kept (a0 : State) (a1 : Nat) (a2 : Word) (h0 : Kept q n a0) :
    Kept q n (State.crbWrite a0 a1 a2) := by
  unfold State.crbWrite
  split
  · apply State.latchMeets_kept
    assumption
  · split
    · apply State.crbAck_kept
      assumption
    · split
      · apply Kept.lit
        assumption
      · split
        · apply Kept.lit
          assumption
        · assumption

theorem State.wdtWrite_kept (a0 : State) (a1 : Nat) (a2 : Nat) (a3 : Word) (h0 : Kept q n a0) :
    Kept q n (State.wdtWrite a0 a1 a2 a3) := by
  unfold State.wdtWrite
  split
  · assumption
  · split
    · apply State.wdtService_kept
      assumption
    · split
      · apply State.modWdt_kept
        assumption
      · assumption

theorem State.queDrop_kept (a0 : State) (a1 : Nat) (a2 : Nat) (h0 : Kept q n a0) :
    Kept q n (State.queDrop a0 a1 a2) := by
  unfold State.queDrop
  split
  · split
    · apply State.popHead_kept
      assumption
    · assumption
  · assumption

theorem State.lksInj_kept (a0 : State) (a1 : Nat) (a2 : Word) (h0 : Kept q n a0) :
    Kept q n (State.lksInj a0 a1 a2) := by
  unfold State.lksInj
  split
  · apply State.setReg_kept
    assumption
  · assumption

theorem State.ethWrite_kept (a0 : State) (a1 : Nat) (a2 : Nat) (a3 : Nat) (h0 : Kept q n a0) :
    Kept q n (State.ethWrite a0 a1 a2 a3) := by
  unfold State.ethWrite
  dsimp only
  split
  · apply State.mbxTx_kept
    assumption
  · split
    · split
      · apply State.mbxGo_kept
        assumption
      · assumption
    · split
      · apply State.mbxPop_kept
        assumption
      · split
        · apply State.modPdie_kept
          assumption
        · split
          · split
            · apply State.saInstall_kept
              assumption
            · assumption
          · assumption

theorem State.cardWrite_kept (a0 : State) (a1 : Nat) (a2 : Nat) (a3 : Word) (h0 : Kept q n a0) :
    Kept q n (State.cardWrite a0 a1 a2 a3) := by
  unfold State.cardWrite
  split
  · dsimp only
    split
    · apply State.cardOff_kept
      split
      · apply State.cardOn_kept
        assumption
      · assumption
    · split
      · apply State.cardOn_kept
        assumption
      · assumption
  · split
    · apply State.cardSend_kept
      assumption
    · split
      · apply State.cardDrop_kept
        assumption
      · assumption

theorem State.spiuWrite_kept (a0 : State) (a1 : Nat) (a2 : Nat) (a3 : Word) (h0 : Kept q n a0) :
    Kept q n (State.spiuWrite a0 a1 a2 a3) := by
  unfold State.spiuWrite
  split
  · dsimp only
    split
    · apply State.spiPut_kept
      assumption
    · apply State.spiDrop_kept
      assumption
    · assumption
  · split
    · apply State.uartPut_kept
      assumption
    · split
      · apply State.uartDrop_kept
        assumption
      · assumption

theorem State.calcWrite_kept (a0 : State) (a1 : Nat) (a2 : Nat) (a3 : Word) (h0 : Kept q n a0) :
    Kept q n (State.calcWrite a0 a1 a2 a3) := by
  unfold State.calcWrite
  split
  · assumption
  · dsimp only
    split
    · split
      · apply State.calcStart_kept
        assumption
      · assumption
    · split
      · apply State.calcData_kept
        assumption
      · apply State.calcClose_kept
        assumption

theorem State.timeWrite_kept (a0 : State) (a1 : Nat) (a2 : Nat) (h0 : Kept q n a0) :
    Kept q n (State.timeWrite a0 a1 a2) := by
  unfold State.timeWrite
  split
  · apply State.timeAdj_kept
    assumption
  · split
    · apply State.timeStep_kept
      assumption
    · split
      · apply State.timeSync_kept
        assumption
      · split
        · apply Kept.lit
          assumption
        · assumption

theorem State.swint_kept (a0 : State) (a1 : Nat) (a2 : Nat) (h0 : Kept q n a0) :
    Kept q n (State.swint a0 a1 a2) := by
  unfold State.swint
  dsimp only
  apply State.modCore_kept
  assumption

theorem State.csrEffect_kept (a0 : State) (a1 : Nat) (a2 : Nat) (a3 : Nat) (a4 : Nat) (h0 : Kept q n a0) :
    Kept q n (State.csrEffect a0 a1 a2 a3 a4) := by
  unfold State.csrEffect
  dsimp only
  split
  · split
    · apply State.fenceDie_kept
      assumption
    · assumption
  · split
    · apply State.cfgCtrl_kept
      assumption
    · assumption
  · apply State.crbWrite_kept
    assumption
  · apply State.wdtWrite_kept
    assumption
  · split
    · apply State.packGo_kept
      assumption
    · assumption
  · split
    · apply Kept.lit
      assumption
    · assumption
  · split
    · apply State.fwData_kept
      assumption
    · assumption
  · split
    · apply State.queDrop_kept
      assumption
    · assumption
  · split
    · apply State.lksInj_kept
      assumption
    · assumption
  · apply State.ethWrite_kept
    assumption
  · split
    · apply State.msSend_kept
      assumption
    · split
      · apply State.msDrop_kept
        assumption
      · assumption
  · apply State.cardWrite_kept
    assumption
  · apply State.spiuWrite_kept
    assumption
  · apply State.calcWrite_kept
    assumption
  · split
    · apply State.timeWrite_kept
      assumption
    · assumption
  · split
    · apply State.swint_kept
      assumption
    · assumption

theorem State.noteEdit_kept (a0 : State) (a1 : Nat) (a2 : Nat) (a3 : Nat) (a4 : Nat) (a5 : Row) (h0 : Kept q n a0) :
    Kept q n (State.noteEdit a0 a1 a2 a3 a4 a5) := by
  unfold State.noteEdit
  split
  · assumption
  · apply Kept.lit
    assumption

theorem State.csrPut_kept (a0 : State) (a1 : Nat) (a2 : Nat) (a3 : Nat) (a4 : Nat) (a5 : Row) (h0 : Kept q n a0) :
    Kept q n (State.csrPut a0 a1 a2 a3 a4 a5) := by
  unfold State.csrPut
  dsimp only
  split
  · apply State.cfgSingle_kept
    assumption
  · split
    · apply State.cfgSingle_kept
      assumption
    · split
      · apply State.dropReserved_kept
        assumption
      · apply State.csrEffect_kept
        apply State.noteEdit_kept
        apply State.setRegs_kept
        apply State.portSettled_kept
        assumption

theorem State.unhold_kept (a0 : State) (a1 : Nat) (a2 : Nat) (a3 : Nat) (a4 : Nat) (h0 : Kept q n a0) :
    Kept q n (State.unhold a0 a1 a2 a3 a4) := by
  induction a4 generalizing a0 a1 a2 a3 with
  | zero =>
    unfold State.unhold
    assumption
  | succ m ih =>
    unfold State.unhold
    dsimp only
    apply Kept.lit
    apply ih
    assumption

theorem State.csrSet_kept (a0 : State) (a1 : Nat) (a2 : Nat) (a3 : Nat) (a4 : Word) (h0 : Kept q n a0) :
    Kept q n (State.csrSet a0 a1 a2 a3 a4) := by
  unfold State.csrSet
  split
  · assumption
  · dsimp only
    split
    · assumption
    · split
      · apply Kept.lit
        assumption
      · apply State.csrPut_kept
        apply State.unhold_kept
        assumption

theorem State.sampleGin_kept (a0 : State) (a1 : Nat) (h0 : Kept q n a0) :
    Kept q n (State.sampleGin a0 a1) := by
  unfold State.sampleGin
  dsimp only
  apply State.modUart_kept
  apply State.draw_kept
  assumption

theorem State.captureFrom_kept (a0 : State) (a1 : Nat) (a2 : Nat) (a3 : Nat) (a4 : Nat) (h0 : Kept q n a0) :
    Kept q n (State.captureFrom a0 a1 a2 a3 a4) := by
  induction a4 generalizing a0 a1 a2 a3 with
  | zero =>
    unfold State.captureFrom
    assumption
  | succ m ih =>
    unfold State.captureFrom
    dsimp only
    apply Kept.lit
    apply ih
    assumption

theorem State.csrGet_kept (a0 : State) (a1 : Nat) (a2 : Nat) (a3 : Nat) (h0 : Kept q n a0) :
    KeptCsrRd q n (State.csrGet a0 a1 a2 a3) := by
  unfold State.csrGet
  dsimp only
  split
  · dsimp only [KeptRes, KeptRd, KeptWr, KeptBlk, KeptCsrRd]
    split
    · apply State.sampleGin_kept
      assumption
    · assumption
  · split
    · dsimp only [KeptRes, KeptRd, KeptWr, KeptBlk, KeptCsrRd]
      split
      · apply State.sampleGin_kept
        assumption
      · assumption
    · split
      · dsimp only [KeptRes, KeptRd, KeptWr, KeptBlk, KeptCsrRd]
        apply State.captureFrom_kept
        split
        · apply State.sampleGin_kept
          assumption
        · assumption
      · dsimp only [KeptRes, KeptRd, KeptWr, KeptBlk, KeptCsrRd]
        split
        · apply State.sampleGin_kept
          assumption
        · assumption

theorem State.padDiverge_kept (a0 : State) (a1 : Nat) (a2 : Nat) (h0 : Kept q n a0) :
    Kept q n (State.padDiverge a0 a1 a2) := by
  unfold State.padDiverge
  split
  · assumption
  · dsimp only
    split
    · apply State.mismatch_kept
      apply State.readNote_kept
      assumption
    · apply State.readNote_kept
      assumption

theorem State.readCodewords_kept (a0 : State) (a1 : Nat) (a2 : List Nat) (h0 : Kept q n a0) :
    Kept q n (State.readCodewords a0 a1 a2).1 := by
  unfold State.readCodewords
  dsimp only [KeptRes, KeptRd, KeptWr, KeptBlk, KeptCsrRd]
  apply Kept.foldl
  · intro x2
    intro x3
    intro x4
    apply State.padDiverge_kept
    apply State.readNote_kept
    assumption
  · assumption

theorem State.cacheHit_kept (a0 : State) (a1 : Nat) (a2 : Bool) (a3 : Nat) (h0 : Kept q n a0) :
    Kept q n (State.cacheHit a0 a1 a2 a3).1 := by
  unfold State.cacheHit
  split
  · assumption
  · split
    · assumption
    · dsimp only
      split
      · dsimp only [KeptRes, KeptRd, KeptWr, KeptBlk, KeptCsrRd]
        apply State.modCore_kept
        apply State.gcode_kept
        apply State.raise_kept
        assumption
      · dsimp only [KeptRes, KeptRd, KeptWr, KeptBlk, KeptCsrRd]
        apply State.gcode_kept
        apply State.raise_kept
        assumption

theorem State.lineFor_kept (a0 : State) (a1 : Nat) (a2 : Bool) (a3 : Nat) (h0 : Kept q n a0) :
    Kept q n (State.lineFor a0 a1 a2 a3).1 := by
  unfold State.lineFor
  dsimp only
  split
  · dsimp only [KeptRes, KeptRd, KeptWr, KeptBlk, KeptCsrRd]
    apply State.modCore_kept
    refine Kept.fst ?_ (by assumption)
    apply State.cacheHit_kept
    assumption
  · split
    · dsimp only [KeptRes, KeptRd, KeptWr, KeptBlk, KeptCsrRd]
      refine Kept.fst ?_ (by assumption)
      apply State.readCodewords_kept
      refine Kept.fst ?_ (by assumption)
      apply State.cacheHit_kept
      assumption
    · dsimp only [KeptRes, KeptRd, KeptWr, KeptBlk, KeptCsrRd]
      apply State.modCore_kept
      refine Kept.fst ?_ (by assumption)
      apply State.readCodewords_kept
      refine Kept.fst ?_ (by assumption)
      apply State.cacheHit_kept
      assumption

theorem State.fetchRun_kept (a0 : State) (a1 : Nat) (a2 : Nat) (a3 : Nat) (h0 : Kept q n a0) :
    Kept q n (State.fetchRun a0 a1 a2 a3).1 := by
  unfold State.fetchRun
  split
  · assumption
  · split
    · split
      · dsimp only [KeptRes, KeptRd, KeptWr, KeptBlk, KeptCsrRd]
        refine Kept.fst ?_ (by assumption)
        apply State.lineFor_kept
        assumption
      · dsimp only [KeptRes, KeptRd, KeptWr, KeptBlk, KeptCsrRd]
        refine Kept.fst ?_ (by assumption)
        apply State.lineFor_kept
        assumption
    · apply State.readCodewords_kept
      assumption

theorem State.fetch_kept (a0 : State) (a1 : Nat) (a2 : Nat) (a3 : Nat) (a4 : Nat) (h0 : Kept q n a0) :
    Kept q n (State.fetch a0 a1 a2 a3 a4).1 := by
  unfold State.fetch
  dsimp only
  split
  · assumption
  · apply Kept.foldl_fst
    · intro x3
      intro x4
      intro x5
      split
      · assumption
      · dsimp only [KeptRes, KeptRd, KeptWr, KeptBlk, KeptCsrRd]
        apply State.fetchRun_kept
        assumption
    · assumption

theorem State.mergeUe_kept (a0 : State) (a1 : Nat) (a2 : List AWord) (h0 : Kept q n a0) :
    Kept q n (State.mergeUe a0 a1 a2).1 := by
  unfold State.mergeUe
  dsimp only
  split
  · split
    · assumption
    · apply State.readCheck_kept
      assumption
  · split
    · assumption
    · apply State.readCheck_kept
      assumption
  · assumption

theorem State.strongReads_kept (a0 : State) (a1 : Nat) (a2 : Nat) (a3 : List (List AWord)) (h0 : Kept q n a0) :
    Kept q n (State.strongReads a0 a1 a2 a3).1 := by
  induction a3 generalizing a0 a1 a2 with
  | nil =>
    unfold State.strongReads
    assumption
  | cons x xs ih =>
    unfold State.strongReads
    dsimp only
    split
    · apply ih
      assumption
    · split
      · dsimp only [KeptRes, KeptRd, KeptWr, KeptBlk, KeptCsrRd]
        refine Kept.fst ?_ (by assumption)
        apply State.mergeUe_kept
        assumption
      · apply ih
        refine Kept.fst ?_ (by assumption)
        apply State.mergeUe_kept
        assumption

theorem State.journalWord_kept (a0 : State) (a1 : Nat) (a2 : Nat) (h0 : Kept q n a0) :
    Kept q n (State.journalWord a0 a1 a2) := by
  unfold State.journalWord
  dsimp only
  apply State.modEng_kept
  assumption

theorem State.corePut_kept (a0 : State) (a1 : Nat) (a2 : List AWord) (h0 : Kept q n a0) :
    Kept q n (State.corePut a0 a1 a2) := by
  unfold State.corePut
  apply State.storeRunWords_kept
  apply Kept.foldl
  · intro x2
    intro x3
    intro x4
    apply State.journalWord_kept
    assumption
  · assumption

theorem State.spadPut_kept (a0 : State) (a1 : Nat) (a2 : List AWord) (h0 : Kept q n a0) :
    Kept q n (State.spadPut a0 a1 a2) := by
  unfold State.spadPut
  split
  · apply State.corePut_kept
    apply State.corePut_kept
    assumption
  · apply State.corePut_kept
    assumption

theorem State.lastLost_kept (a0 : State) (a1 : Nat) (h0 : Kept q n a0) :
    Kept q n (State.lastLost a0 a1) := by
  unfold State.lastLost
  split
  · apply State.modCore_kept
    apply State.storeNotice_kept
    assumption
  · assumption

theorem State.cacheStore_kept (a0 : State) (a1 : Nat) (a2 : List AWord) (h0 : Kept q n a0) :
    Kept q n (State.cacheStore a0 a1 a2) := by
  unfold State.cacheStore
  dsimp only
  split
  · refine Kept.fst ?_ (by assumption)
    apply State.cacheHit_kept
    assumption
  · apply State.modCore_kept
    refine Kept.fst ?_ (by assumption)
    apply State.cacheHit_kept
    assumption

theorem State.bufferRun_kept (a0 : State) (a1 : Nat) (a2 : Nat) (a3 : List AWord) (h0 : Kept q n a0) :
    Kept q n (State.bufferRun a0 a1 a2 a3) := by
  unfold State.bufferRun
  dsimp only
  split
  · apply State.cacheStore_kept
    apply State.modCore_kept
    assumption
  · apply State.modCore_kept
    assumption

theorem State.putBlock_kept (a0 : State) (a1 : Nat) (a2 : List AWord) (h0 : Kept q n a0) :
    Kept q n (State.putBlock a0 a1 a2).1 := by
  unfold State.putBlock
  dsimp only
  split
  · assumption
  · split
    · dsimp only [KeptRes, KeptRd, KeptWr, KeptBlk, KeptCsrRd]
      refine Kept.fst ?_ (by assumption)
      apply State.mergeUe_kept
      assumption
    · dsimp only [KeptRes, KeptRd, KeptWr, KeptBlk, KeptCsrRd]
      apply State.storeRunWords_kept
      refine Kept.fst ?_ (by assumption)
      apply State.mergeUe_kept
      assumption

theorem State.storeRun_kept (a0 : State) (a1 : Nat) (a2 : Nat) (a3 : List AWord) (h0 : Kept q n a0) :
    Kept q n (State.storeRun a0 a1 a2 a3).1 := by
  unfold State.storeRun
  dsimp only
  split
  · dsimp only [KeptRes, KeptRd, KeptWr, KeptBlk, KeptCsrRd]
    apply State.spadPut_kept
    assumption
  · split
    · dsimp only [KeptRes, KeptRd, KeptWr, KeptBlk, KeptCsrRd]
      apply Kept.foldl
      · intro x5
        intro x6
        intro x7
        apply State.csrSet_kept
        assumption
      · assumption
    · split
      · dsimp only [KeptRes, KeptRd, KeptWr, KeptBlk, KeptCsrRd]
        split
        · apply State.lastLost_kept
          apply State.bufferRun_kept
          assumption
        · apply State.bufferRun_kept
          assumption
      · split
        · dsimp only [KeptRes, KeptRd, KeptWr, KeptBlk, KeptCsrRd]
          split
          · apply State.cacheStore_kept
            refine Kept.fst ?_ (by assumption)
            apply State.putBlock_kept
            assumption
          · refine Kept.fst ?_ (by assumption)
            apply State.putBlock_kept
            assumption
        · dsimp only [KeptRes, KeptRd, KeptWr, KeptBlk, KeptCsrRd]
          split
          · apply State.cacheStore_kept
            apply State.storeNotice_kept
            refine Kept.fst ?_ (by assumption)
            apply State.putBlock_kept
            assumption
          · apply State.storeNotice_kept
            refine Kept.fst ?_ (by assumption)
            apply State.putBlock_kept
            assumption
        · dsimp only [KeptRes, KeptRd, KeptWr, KeptBlk, KeptCsrRd]
          refine Kept.fst ?_ (by assumption)
          apply State.putBlock_kept
          assumption

theorem State.storeAll_kept (a0 : State) (a1 : Nat) (a2 : Nat) (a3 : List (List AWord)) (h0 : Kept q n a0) :
    KeptWr q n (State.storeAll a0 a1 a2 a3) := by
  induction a3 generalizing a0 a1 a2 with
  | nil =>
    unfold State.storeAll
    dsimp only [KeptRes, KeptRd, KeptWr, KeptBlk, KeptCsrRd]
    assumption
  | cons x xs ih =>
    unfold State.storeAll
    split
    · dsimp only [KeptRes, KeptRd, KeptWr, KeptBlk, KeptCsrRd]
      refine Kept.fst ?_ (by assumption)
      apply State.storeRun_kept
      assumption
    · apply ih
      refine Kept.fst ?_ (by assumption)
      apply State.storeRun_kept
      assumption

theorem State.putEntry_kept (a0 : State) (a1 : Nat) (a2 : WbEntry) (h0 : Kept q n a0) :
    Kept q n (State.putEntry a0 a1 a2) := by
  unfold State.putEntry
  dsimp only
  split
  · refine Kept.fst ?_ (by assumption)
    apply State.putBlock_kept
    assumption
  · apply State.storeNotice_kept
    refine Kept.fst ?_ (by assumption)
    apply State.putBlock_kept
    assumption

theorem State.storePieces_kept (a0 : State) (a1 : Nat) (a2 : Nat) (a3 : Bool) (a4 : List (List Nat))
    (a5 : List AWord) (h0 : Kept q n a0) :
    KeptWr q n (State.storePieces a0 a1 a2 a3 a4 a5) := by
  unfold State.storePieces
  dsimp only
  split
  · dsimp only [KeptRes, KeptRd, KeptWr, KeptBlk, KeptCsrRd]
    assumption
  · split
    · dsimp only [KeptRes, KeptRd, KeptWr, KeptBlk, KeptCsrRd]
    · split
      · dsimp only [KeptRes, KeptRd, KeptWr, KeptBlk, KeptCsrRd]
      · split
        · dsimp only [KeptRes, KeptRd, KeptWr, KeptBlk, KeptCsrRd]
          refine Kept.fst ?_ (by assumption)
          apply State.strongReads_kept
          assumption
        · split
          · dsimp only [KeptRes, KeptRd, KeptWr, KeptBlk, KeptCsrRd]
            apply State.modCore_kept
            apply Kept.foldl
            · intro x9
              intro x10
              intro x11
              apply State.putEntry_kept
              assumption
            · refine KeptWr.ok ?_ (by assumption)
              apply State.storeAll_kept
              assumption
          · apply State.storeAll_kept
            assumption

theorem State.pushWords_kept (a0 : State) (a1 : Nat) (a2 : Nat) (a3 : Nat) (a4 : Nat) (a5 : List Word)
    (h0 : Kept q n a0) :
    KeptWr q n (State.pushWords a0 a1 a2 a3 a4 a5) := by
  unfold State.pushWords
  dsimp only
  split
  · dsimp only [KeptRes, KeptRd, KeptWr, KeptBlk, KeptCsrRd]
    assumption
  · split
    · dsimp only [KeptRes, KeptRd, KeptWr, KeptBlk, KeptCsrRd]
      apply State.modCore_kept
      refine KeptWr.ok ?_ (by assumption)
      apply State.storePieces_kept
      assumption
    · apply State.storePieces_kept
      assumption

theorem State.drainAll_kept (a0 : State) (a1 : Nat) (h0 : Kept q n a0) :
    Kept q n (State.drainAll a0 a1) := by
  unfold State.drainAll
  apply State.modCore_kept
  apply Kept.foldl
  · intro x2
    intro x3
    intro x4
    apply State.putEntry_kept
    assumption
  · assumption

theorem State.loadCsr_kept (a0 : State) (a1 : List Nat) (h0 : Kept q n a0) :
    Kept q n (State.loadCsr a0 a1).1 := by
  induction a1 generalizing a0 with
  | nil =>
    unfold State.loadCsr
    assumption
  | cons x xs ih =>
    unfold State.loadCsr
    dsimp only
    apply ih
    apply State.csrGet_kept
    assumption

theorem State.loadRun_kept (a0 : State) (a1 : Nat) (a2 : Nat) (a3 : List Nat) (h0 : Kept q n a0) :
    Kept q n (State.loadRun a0 a1 a2 a3).1 := by
  unfold State.loadRun
  dsimp only
  split
  · assumption
  · split
    · split
      · dsimp only [KeptRes, KeptRd, KeptWr, KeptBlk, KeptCsrRd]
        refine Kept.fst ?_ (by assumption)
        apply State.lineFor_kept
        assumption
      · dsimp only [KeptRes, KeptRd, KeptWr, KeptBlk, KeptCsrRd]
        refine Kept.fst ?_ (by assumption)
        apply State.lineFor_kept
        assumption
    · split
      · dsimp only [KeptRes, KeptRd, KeptWr, KeptBlk, KeptCsrRd]
        refine Kept.fst ?_ (by assumption)
        apply State.readCodewords_kept
        assumption
      · dsimp only [KeptRes, KeptRd, KeptWr, KeptBlk, KeptCsrRd]
        refine Kept.fst ?_ (by assumption)
        apply State.readCodewords_kept
        assumption

theorem State.loadRuns_kept (a0 : State) (a1 : Nat) (a2 : Nat) (a3 : List (List Nat)) (h0 : Kept q n a0) :
    KeptRd q n (State.loadRuns a0 a1 a2 a3) := by
  induction a3 generalizing a0 a1 a2 with
  | nil =>
    unfold State.loadRuns
    dsimp only [KeptRes, KeptRd, KeptWr, KeptBlk, KeptCsrRd]
    assumption
  | cons x xs ih =>
    unfold State.loadRuns
    split
    · dsimp only
      split
      · dsimp only [KeptRes, KeptRd, KeptWr, KeptBlk, KeptCsrRd]
        refine KeptRd.ok ?_ (by assumption)
        apply ih
        apply State.loadCsr_kept
        assumption
      · apply ih
        apply State.loadCsr_kept
        assumption
    · split
      · dsimp only [KeptRes, KeptRd, KeptWr, KeptBlk, KeptCsrRd]
        refine Kept.fst ?_ (by assumption)
        apply State.loadRun_kept
        assumption
      · split
        · dsimp only [KeptRes, KeptRd, KeptWr, KeptBlk, KeptCsrRd]
          refine KeptRd.ok ?_ (by assumption)
          apply ih
          refine Kept.fst ?_ (by assumption)
          apply State.loadRun_kept
          assumption
        · apply ih
          refine Kept.fst ?_ (by assumption)
          apply State.loadRun_kept
          assumption

theorem State.loadPieces_kept (a0 : State) (a1 : Nat) (a2 : Nat) (a3 : Bool) (a4 : List (List Nat))
    (a5 : List Nat) (h0 : Kept q n a0) :
    KeptRd q n (State.loadPieces a0 a1 a2 a3 a4 a5) := by
  unfold State.loadPieces
  split
  · dsimp only [KeptRes, KeptRd, KeptWr, KeptBlk, KeptCsrRd]
    assumption
  · split
    · dsimp only [KeptRes, KeptRd, KeptWr, KeptBlk, KeptCsrRd]
    · apply State.loadRuns_kept
      assumption

theorem State.storeAt_kept (a0 : State) (a1 : Nat) (a2 : Nat) (a3 : Bool) (a4 : Nat) (a5 : List Word)
    (h0 : Kept q n a0) :
    KeptWr q n (State.storeAt a0 a1 a2 a3 a4 a5) := by
  unfold State.storeAt
  dsimp only
  apply State.storePieces_kept
  assumption

theorem State.load_kept (a0 : State) (a1 : Nat) (a2 : Nat) (a3 : Bool) (a4 : Nat) (a5 : Nat) (h0 : Kept q n a0) :
    KeptRd q n (State.load a0 a1 a2 a3 a4 a5) := by
  unfold State.load
  dsimp only
  apply State.loadPieces_kept
  assumption

theorem State.modeDone_kept (a0 : State) (a1 : Nat) (h0 : Kept q n a0) :
    Kept q n (State.modeDone a0 a1) := by
  unfold State.modeDone
  split
  · apply State.finishMode_kept
    apply State.modEng_kept
    assumption
  · assumption

theorem State.select_kept (a0 : State) (a1 : Nat) (h0 : Kept q n a0) :
    Kept q n (State.select a0 a1) := by
  unfold State.select
  dsimp only
  apply State.modCore_kept
  assumption

theorem State.started_kept (a0 : State) (a1 : Nat) (h0 : Kept q n a0) :
    Kept q n (State.started a0 a1) := by
  unfold State.started
  apply State.modeDone_kept
  apply State.modEng_kept
  apply State.modCore_kept
  apply State.select_kept
  assumption

theorem State.tripleFault_kept (a0 : State) (a1 : Nat) (h0 : Kept q n a0) :
    Kept q n (State.tripleFault a0 a1) := by
  unfold State.tripleFault
  split
  · assumption
  · dsimp only
    apply State.engReset_kept
    apply State.modCore_kept
    apply State.raise_kept
    assumption

theorem State.readTable_kept (a0 : State) (a1 : Nat) (a2 : Nat) (h0 : Kept q n a0) :
    Kept q n (State.readTable a0 a1 a2).1 := by
  unfold State.readTable
  split
  · assumption
  · split
    · dsimp only [KeptRes, KeptRd, KeptWr, KeptBlk, KeptCsrRd]
      refine Kept.fst ?_ (by assumption)
      apply State.readCodewords_kept
      assumption
    · dsimp only [KeptRes, KeptRd, KeptWr, KeptBlk, KeptCsrRd]
      refine Kept.fst ?_ (by assumption)
      apply State.readCodewords_kept
      assumption

theorem State.readVector_kept (a0 : State) (a1 : Nat) (a2 : Nat) (h0 : Kept q n a0) :
    Kept q n (State.readVector a0 a1 a2).1 := by
  unfold State.readVector
  split
  · dsimp only [KeptRes, KeptRd, KeptWr, KeptBlk, KeptCsrRd]
    refine Kept.fst ?_ (by assumption)
    apply State.readTable_kept
    assumption
  · dsimp only
    split
    · dsimp only [KeptRes, KeptRd, KeptWr, KeptBlk, KeptCsrRd]
      refine Kept.fst ?_ (by assumption)
      apply State.readTable_kept
      assumption
    · dsimp only [KeptRes, KeptRd, KeptWr, KeptBlk, KeptCsrRd]
      refine Kept.fst ?_ (by assumption)
      apply State.readTable_kept
      assumption

theorem State.fetchHandler_kept (a0 : State) (a1 : Nat) (a2 : Nat) (h0 : Kept q n a0) :
    Kept q n (State.fetchHandler a0 a1 a2).1 := by
  unfold State.fetchHandler
  dsimp only
  split
  · dsimp only [KeptRes, KeptRd, KeptWr, KeptBlk, KeptCsrRd]
    refine Kept.fst ?_ (by assumption)
    apply State.fetch_kept
    assumption
  · apply State.fetch_kept
    refine Kept.fst ?_ (by assumption)
    apply State.fetch_kept
    assumption

theorem State.doubleFault_kept (a0 : State) (a1 : Nat) (a2 : Nat) (a3 : Nat) (a4 : Nat) (a5 : Word)
    (h0 : Kept q n a0) :
    Kept q n (State.doubleFault a0 a1 a2 a3 a4 a5) := by
  unfold State.doubleFault
  split
  · apply State.tripleFault_kept
    refine Kept.fst ?_ (by assumption)
    apply State.readVector_kept
    assumption
  · dsimp only
    split
    · apply State.tripleFault_kept
      refine Kept.fst ?_ (by assumption)
      apply State.fetchHandler_kept
      apply State.modCore_kept
      refine Kept.fst ?_ (by assumption)
      apply State.readVector_kept
      assumption
    · refine Kept.fst ?_ (by assumption)
      apply State.fetchHandler_kept
      apply State.modCore_kept
      refine Kept.fst ?_ (by assumption)
      apply State.readVector_kept
      assumption

theorem State.pushFrame_kept (a0 : State) (a1 : Nat) (a2 : Nat) (a3 : Nat) (a4 : Nat) (a5 : List Word)
    (h0 : Kept q n a0) :
    KeptWr q n (State.pushFrame a0 a1 a2 a3 a4 a5) := by
  unfold State.pushFrame
  split
  · apply State.pushWords_kept
    apply State.drainAll_kept
    assumption
  · apply State.pushWords_kept
    assumption

theorem State.enterBank_kept (a0 : State) (a1 : Nat) (a2 : Nat) (a3 : Exn) (a4 : Nat) (a5 : Word)
    (a6 : VecEntry) (h0 : Kept q n a0) :
    Kept q n (State.enterBank a0 a1 a2 a3 a4 a5 a6) := by
  unfold State.enterBank
  dsimp only
  split
  · apply State.doubleFault_kept
    refine Kept.fst ?_ (by assumption)
    apply State.fetchHandler_kept
    apply State.modCore_kept
    assumption
  · refine Kept.fst ?_ (by assumption)
    apply State.fetchHandler_kept
    apply State.modCore_kept
    assumption

theorem State.enterWith_kept (a0 : State) (a1 : Nat) (a2 : Exn) (a3 : Nat) (a4 : Word) (h0 : Kept q n a0) :
    Kept q n (State.enterWith a0 a1 a2 a3 a4) := by
  unfold State.enterWith
  dsimp only
  split
  · apply State.doubleFault_kept
    refine Kept.fst ?_ (by assumption)
    apply State.readVector_kept
    assumption
  · split
    · split
      · apply State.doubleFault_kept
        refine KeptWr.exn ?_ (by assumption)
        apply State.pushFrame_kept
        refine Kept.fst ?_ (by assumption)
        apply State.readVector_kept
        assumption
      · refine Kept.fst ?_ (by assumption)
        apply State.readVector_kept
        assumption
      · apply State.enterBank_kept
        apply State.modCore_kept
        refine KeptWr.ok ?_ (by assumption)
        apply State.pushFrame_kept
        refine Kept.fst ?_ (by assumption)
        apply State.readVector_kept
        assumption
    · apply State.enterBank_kept
      split
      · split
        · apply State.orReg_kept
          refine Kept.fst ?_ (by assumption)
          apply State.readVector_kept
          assumption
        · refine Kept.fst ?_ (by assumption)
          apply State.readVector_kept
          assumption
      · split
        · apply State.orReg_kept
          refine Kept.fst ?_ (by assumption)
          apply State.readVector_kept
          assumption
        · refine Kept.fst ?_ (by assumption)
          apply State.readVector_kept
          assumption

theorem State.takeExn_kept (a0 : State) (a1 : Nat) (a2 : Exn) (a3 : Nat) (a4 : Bool) (h0 : Kept q n a0) :
    Kept q n (State.takeExn a0 a1 a2 a3 a4) := by
  unfold State.takeExn
  dsimp only
  split
  · apply State.tripleFault_kept
    assumption
  · apply State.enterWith_kept
    apply State.modCore_kept
    assumption

theorem State.breakAt_kept (a0 : State) (a1 : Nat) (a2 : List Nat) (a3 : Nat) (h0 : Kept q n a0) :
    Kept q n (State.breakAt a0 a1 a2 a3) := by
  unfold State.breakAt
  dsimp only
  split
  · split
    · apply State.freezeWdt_kept
      apply State.modCore_kept
      apply State.orReg_kept
      assumption
    · apply State.takeExn_kept
      apply State.orReg_kept
      assumption
  · split
    · apply State.freezeWdt_kept
      apply State.modCore_kept
      apply State.orReg_kept
      assumption
    · apply State.takeExn_kept
      apply State.orReg_kept
      assumption

theorem State.fetched_kept (a0 : State) (a1 : Nat) (a2 : Nat) (h0 : Kept q n a0) :
    Kept q n (State.fetched a0 a1 a2).1 := by
  unfold State.fetched
  apply State.fetch_kept
  apply State.started_kept
  assumption

theorem State.settle_kept (a0 : State) (a1 : Nat) (a2 : Nat) (a3 : Res) (h0 : Kept q n a0) (h3 : KeptRes q n a3) :
    Kept q n (State.settle a0 a1 a2 a3) := by
  match a3, h3 with
  | .hold, _ => exact h0
  | .exn u x rsm, h => exact State.takeHalt_kept _ _ (State.takeExn_kept _ _ _ _ _ h)
  | .ok u 0, h => exact State.takeHalt_kept _ _ h
  | .ok u (d + 1), h => exact State.takeHalt_kept _ _ (State.takeExn_kept _ _ _ _ _ h)

theorem State.issued_kept (a0 : State) (a1 : Nat) (a2 : Nat) (h0 : Kept q n a0) :
    Kept q n (State.issued a0 a1 a2) := by
  unfold State.issued
  apply State.modCore_kept
  apply State.fetched_kept
  assumption

theorem State.runInsn_kept (a0 : State) (a1 : CoreId) (a2 : Nat) (a3 : Bool) (a4 : Bool) (a5 : Nat)
    (a6 : State → Res) (h0 : Kept q n a0) (h6 : ∀ s, Kept q n s → KeptRes q n (a6 s)) :
    Kept q n (State.runInsn a0 a1 a2 a3 a4 a5 a6) := by
  unfold State.runInsn
  dsimp only
  split
  · assumption
  · split
    · apply State.breakAt_kept
      apply State.started_kept
      assumption
    · split
      · apply State.takeHalt_kept
        apply State.takeExn_kept
        refine Kept.fst ?_ (by assumption)
        apply State.fetched_kept
        assumption
      · split
        · apply State.takeHalt_kept
          apply State.takeExn_kept
          refine Kept.fst ?_ (by assumption)
          apply State.fetched_kept
          assumption
        · apply State.settle_kept
          · assumption
          · apply h6
            apply State.issued_kept
            assumption

theorem State.splitCancel_kept (a0 : State) (a1 : Nat) (h0 : Kept q n a0) :
    Kept q n (State.splitCancel a0 a1) := by
  unfold State.splitCancel
  dsimp only
  split
  · split
    · apply State.unsplit_kept
      assumption
    · assumption
  · assumption

theorem State.interrupt_kept (a0 : State) (a1 : Nat) (h0 : Kept q n a0) :
    Kept q n (State.interrupt a0 a1) := by
  unfold State.interrupt
  dsimp only
  split
  · apply State.splitCancel_kept
    assumption
  · split
    · apply State.splitCancel_kept
      assumption
    · split
      · apply State.modCore_kept
        apply State.splitCancel_kept
        assumption
      · apply State.takeHalt_kept
        apply State.takeExn_kept
        apply State.splitCancel_kept
        assumption

theorem State.plain_kept (a0 : State) (a1 : CoreId) (a2 : CoreSt → CoreSt) (h0 : Kept q n a0) :
    KeptRes q n (State.plain a0 a1 a2) := by
  unfold State.plain
  dsimp only [KeptRes, KeptRd, KeptWr, KeptBlk, KeptCsrRd]
  apply State.modCore_kept
  assumption

theorem State.wbAck_kept (a0 : State) (a1 : Nat) (a2 : Bool) (h0 : Kept q n a0) :
    Kept q n (State.wbAck a0 a1 a2) := by
  unfold State.wbAck
  split
  · assumption
  · split
    · assumption
    · dsimp only
      split
      · split
        · apply State.modEng_kept
          apply State.storeNotice_kept
          apply State.modCore_kept
          assumption
        · apply State.storeNotice_kept
          apply State.modCore_kept
          assumption
      · split
        · apply State.modEng_kept
          apply State.putEntry_kept
          apply State.modCore_kept
          assumption
        · apply State.putEntry_kept
          apply State.modCore_kept
          assumption

theorem State.wbDrain_kept (a0 : State) (a1 : Nat) (h0 : Kept q n a0) :
    Kept q n (State.wbDrain a0 a1) := by
  unfold State.wbDrain
  apply State.modCore_kept
  assumption

theorem State.alu1_kept (a0 : State) (a1 : CoreId) (a2 : Reg) (a3 : UnOp) (h0 : Kept q n a0) :
    Kept q n (State.alu1 a0 a1 a2 a3) := by
  unfold State.alu1
  apply State.runInsn_kept
  · assumption
  · intro x1
    intro x2
    dsimp only
    dsimp only [KeptRes, KeptRd, KeptWr, KeptBlk, KeptCsrRd]
    apply State.modCore_kept
    assumption

theorem State.alu2_kept (a0 : State) (a1 : CoreId) (a2 : Bool) (a3 : Reg) (a4 : Src) (a5 : AluOp) (h0 : Kept q n a0) :
    Kept q n (State.alu2 a0 a1 a2 a3 a4 a5) := by
  unfold State.alu2
  apply State.runInsn_kept
  · assumption
  · intro x1
    intro x2
    dsimp only
    dsimp only [KeptRes, KeptRd, KeptWr, KeptBlk, KeptCsrRd]
    apply State.modCore_kept
    assumption

theorem State.regInsn_kept (a0 : State) (a1 : CoreId) (a2 : Nat) (a3 : Bool) (a4 : Bool) (a5 : CoreSt → CoreSt)
    (h0 : Kept q n a0) :
    Kept q n (State.regInsn a0 a1 a2 a3 a4 a5) := by
  unfold State.regInsn
  apply State.runInsn_kept
  · assumption
  · intro x1
    intro x2
    apply State.plain_kept
    assumption

theorem State.loadEa_kept (a0 : State) (a1 : CoreId) (a2 : Nat) (a3 : Bool) (a4 : Ea)
    (a5 : CoreSt → List Word → CoreSt) (h0 : Kept q n a0) :
    KeptRes q n (State.loadEa a0 a1 a2 a3 a4 a5) := by
  unfold State.loadEa
  dsimp only
  split
  · apply State.plain_kept
    assumption
  · split
    · dsimp only [KeptRes, KeptRd, KeptWr, KeptBlk, KeptCsrRd]
      assumption
    · split
      · apply State.plain_kept
        refine KeptRd.ok ?_ (by assumption)
        apply State.load_kept
        assumption
      · dsimp only [KeptRes, KeptRd, KeptWr, KeptBlk, KeptCsrRd]
        refine KeptRd.exn ?_ (by assumption)
        apply State.load_kept
        assumption
      · dsimp only [KeptRes, KeptRd, KeptWr, KeptBlk, KeptCsrRd]

theorem State.storeEa_kept (a0 : State) (a1 : CoreId) (a2 : Bool) (a3 : Ea) (a4 : List Word) (h0 : Kept q n a0) :
    KeptRes q n (State.storeEa a0 a1 a2 a3 a4) := by
  unfold State.storeEa
  dsimp only
  split
  · dsimp only [KeptRes, KeptRd, KeptWr, KeptBlk, KeptCsrRd]
    assumption
  · split
    · apply State.plain_kept
      refine KeptWr.ok ?_ (by assumption)
      apply State.storeAt_kept
      assumption
    · dsimp only [KeptRes, KeptRd, KeptWr, KeptBlk, KeptCsrRd]
      refine KeptWr.exn ?_ (by assumption)
      apply State.storeAt_kept
      assumption
    · dsimp only [KeptRes, KeptRd, KeptWr, KeptBlk, KeptCsrRd]

theorem State.vecInsn_kept (a0 : State) (a1 : CoreId) (a2 : Bool) (a3 : CoreSt → CoreSt) (h0 : Kept q n a0) :
    Kept q n (State.vecInsn a0 a1 a2 a3) := by
  unfold State.vecInsn
  apply State.regInsn_kept
  assumption

theorem State.queueExn_kept (a0 : State) (a1 : Nat) (a2 : Nat) (a3 : Nat) (h0 : Kept q n a0) :
    KeptRes q n (State.queueExn a0 a1 a2 a3) := by
  unfold State.queueExn
  dsimp only [KeptRes, KeptRd, KeptWr, KeptBlk, KeptCsrRd]
  apply State.setReg_kept
  assumption

theorem State.portCredit_kept (a0 : State) (a1 : Nat) (a2 : Nat) (a3 : Nat) (h0 : Kept q n a0) :
    KeptRes q n (State.portCredit a0 a1 a2 a3) := by
  unfold State.portCredit
  dsimp only
  split
  · apply State.queueExn_kept
    assumption
  · dsimp only [KeptRes, KeptRd, KeptWr, KeptBlk, KeptCsrRd]
    apply State.modCore_kept
    assumption

theorem State.portPush_kept (a0 : State) (a1 : Nat) (a2 : Nat) (a3 : List (List Word)) (h0 : Kept q n a0) :
    KeptRes q n (State.portPush a0 a1 a2 a3) := by
  unfold State.portPush
  dsimp only
  split
  · apply State.queueExn_kept
    assumption
  · split
    · apply State.queueExn_kept
      assumption
    · split
      · apply State.queueExn_kept
        assumption
      · split
        · split
          · apply State.queueExn_kept
            assumption
          · dsimp only [KeptRes, KeptRd, KeptWr, KeptBlk, KeptCsrRd]
        · dsimp only [KeptRes, KeptRd, KeptWr, KeptBlk, KeptCsrRd]
          apply State.push_kept
          assumption

theorem State.portTake_kept (a0 : State) (a1 : Nat) (a2 : Nat) (a3 : Bool) (h0 : Kept q n a0) :
    KeptRes q n (State.portTake a0 a1 a2 a3) := by
  unfold State.portTake
  dsimp only
  split
  · apply State.queueExn_kept
    assumption
  · split
    · apply State.queueExn_kept
      assumption
    · split
      · split
        · apply State.queueExn_kept
          assumption
        · dsimp only [KeptRes, KeptRd, KeptWr, KeptBlk, KeptCsrRd]
      · split
        · apply State.queueExn_kept
          assumption
        · dsimp only [KeptRes, KeptRd, KeptWr, KeptBlk, KeptCsrRd]
          apply State.modCore_kept
          split
          · apply State.popHead_kept
            assumption
          · assumption

theorem Wr.andThen_kept (a0 : Wr) (a1 : State → Res) (h0 : KeptWr q n a0)
    (h1 : ∀ s, Kept q n s → KeptRes q n (a1 s)) : KeptRes q n (Wr.andThen a0 a1) := by
  cases a0 with
  | ok s => exact h1 s h0
  | exn s x => exact h0
  | hold => trivial

theorem State.gateEnter_kept (a0 : State) (a1 : Nat) (a2 : Nat) (a3 : Nat) (a4 : Bool) (h0 : Kept q n a0) :
    KeptRes q n (State.gateEnter a0 a1 a2 a3 a4) := by
  unfold State.gateEnter
  apply Wr.andThen_kept
  · apply State.pushWords_kept
    assumption
  · intro x1
    intro x2
    dsimp only [KeptRes, KeptRd, KeptWr, KeptBlk, KeptCsrRd]
    apply State.modCore_kept
    assumption

theorem State.trap_kept (a0 : State) (a1 : Nat) (a2 : Nat) (h0 : Kept q n a0) :
    KeptRes q n (State.trap a0 a1 a2) := by
  unfold State.trap
  dsimp only
  split
  · dsimp only [KeptRes, KeptRd, KeptWr, KeptBlk, KeptCsrRd]
    assumption
  · split
    · dsimp only [KeptRes, KeptRd, KeptWr, KeptBlk, KeptCsrRd]
      assumption
    · split
      · dsimp only [KeptRes, KeptRd, KeptWr, KeptBlk, KeptCsrRd]
        refine Kept.fst ?_ (by assumption)
        apply State.readTable_kept
        assumption
      · split
        · dsimp only [KeptRes, KeptRd, KeptWr, KeptBlk, KeptCsrRd]
          refine Kept.fst ?_ (by assumption)
          apply State.readTable_kept
          assumption
        · apply State.gateEnter_kept
          refine Kept.fst ?_ (by assumption)
          apply State.readTable_kept
          assumption

theorem State.sysPut_kept (a0 : State) (a1 : Nat) (a2 : Nat) (a3 : Nat) (h0 : Kept q n a0) :
    Kept q n (State.sysPut a0 a1 a2 a3) := by
  unfold State.sysPut
  dsimp only
  apply State.modCore_kept
  assumption

theorem State.sysWrite_kept (a0 : State) (a1 : Nat) (a2 : Nat) (a3 : Nat) (h0 : Kept q n a0) :
    Kept q n (State.sysWrite a0 a1 a2 a3) := by
  unfold State.sysWrite
  split
  · apply State.raise_kept
    apply State.orReg_kept
    assumption
  · apply State.sysPut_kept
    assumption

theorem State.sysWriteWord_kept (a0 : State) (a1 : Nat) (a2 : Nat) (a3 : Nat) (a4 : Nat) (a5 : Word)
    (h0 : Kept q n a0) :
    Kept q n (State.sysWriteWord a0 a1 a2 a3 a4 a5) := by
  unfold State.sysWriteWord
  split
  · apply State.modCore_kept
    assumption
  · dsimp only
    apply State.sysWrite_kept
    apply State.modCore_kept
    assumption

theorem State.dfClear_kept (a0 : State) (a1 : Nat) (h0 : Kept q n a0) :
    Kept q n (State.dfClear a0 a1) := by
  unfold State.dfClear
  dsimp only
  apply State.modCore_kept
  split
  · apply State.orReg_kept
    assumption
  · assumption

theorem State.fenced_kept (a0 : State) (a1 : CoreId) (a2 : State → Res) (h0 : Kept q n a0)
    (h2 : ∀ s, Kept q n s → KeptRes q n (a2 s)) :
    KeptRes q n (State.fenced a0 a1 a2) := by
  unfold State.fenced
  split
  · apply h2
    assumption
  · dsimp only [KeptRes, KeptRd, KeptWr, KeptBlk, KeptCsrRd]

theorem State.popFrame_kept (a0 : State) (a1 : Nat) (h0 : Kept q n a0) :
    KeptRd q n (State.popFrame a0 a1) := by
  unfold State.popFrame
  dsimp only
  apply State.load_kept
  assumption

theorem State.rete_kept (a0 : State) (a1 : Nat) (h0 : Kept q n a0) :
    KeptRes q n (State.rete a0 a1) := by
  unfold State.rete
  dsimp only
  split
  · dsimp only [KeptRes, KeptRd, KeptWr, KeptBlk, KeptCsrRd]
    assumption
  · split
    · dsimp only [KeptRes, KeptRd, KeptWr, KeptBlk, KeptCsrRd]
      assumption
    · split
      · dsimp only [KeptRes, KeptRd, KeptWr, KeptBlk, KeptCsrRd]
        assumption
      · split
        · dsimp only [KeptRes, KeptRd, KeptWr, KeptBlk, KeptCsrRd]
          apply State.modCore_kept
          assumption
        · split
          · dsimp only [KeptRes, KeptRd, KeptWr, KeptBlk, KeptCsrRd]
            apply State.modCore_kept
            refine KeptRd.ok ?_ (by assumption)
            apply State.popFrame_kept
            assumption
          · dsimp only [KeptRes, KeptRd, KeptWr, KeptBlk, KeptCsrRd]
            refine KeptRd.exn ?_ (by assumption)
            apply State.popFrame_kept
            assumption
          · dsimp only [KeptRes, KeptRd, KeptWr, KeptBlk, KeptCsrRd]

theorem State.retg_kept (a0 : State) (a1 : Nat) (h0 : Kept q n a0) :
    KeptRes q n (State.retg a0 a1) := by
  unfold State.retg
  dsimp only
  split
  · dsimp only [KeptRes, KeptRd, KeptWr, KeptBlk, KeptCsrRd]
    assumption
  · split
    · split
      · dsimp only [KeptRes, KeptRd, KeptWr, KeptBlk, KeptCsrRd]
        refine KeptRd.ok ?_ (by assumption)
        apply State.popFrame_kept
        assumption
      · split
        · dsimp only [KeptRes, KeptRd, KeptWr, KeptBlk, KeptCsrRd]
          refine KeptRd.ok ?_ (by assumption)
          apply State.popFrame_kept
          assumption
        · dsimp only [KeptRes, KeptRd, KeptWr, KeptBlk, KeptCsrRd]
          apply State.modCore_kept
          refine KeptRd.ok ?_ (by assumption)
          apply State.popFrame_kept
          assumption
    · dsimp only [KeptRes, KeptRd, KeptWr, KeptBlk, KeptCsrRd]
      refine KeptRd.exn ?_ (by assumption)
      apply State.popFrame_kept
      assumption
    · dsimp only [KeptRes, KeptRd, KeptWr, KeptBlk, KeptCsrRd]

theorem State.sysInsn_kept (a0 : State) (a1 : CoreId) (a2 : BitVec 4) (a3 : Nat) (a4 : State → Res)
    (h0 : Kept q n a0) (h4 : ∀ s, Kept q n s → KeptRes q n (a4 s)) :
    Kept q n (State.sysInsn a0 a1 a2 a3 a4) := by
  unfold State.sysInsn
  apply State.runInsn_kept
  · assumption
  · intro x1
    intro x2
    apply h4
    assumption

theorem State.elementRead_kept (a0 : State) (a1 : Nat) (a2 : List Nat) (h0 : Kept q n a0) :
    KeptRd q n (State.elementRead a0 a1 a2) := by
  unfold State.elementRead
  apply State.loadPieces_kept
  assumption

theorem State.bcrcElement_kept (a0 : State) (a1 : Nat) (a2 : BlockArg) (h0 : Kept q n a0) :
    KeptBlk q n (State.bcrcElement a0 a1 a2) := by
  unfold State.bcrcElement
  dsimp only
  split
  · dsimp only [KeptRes, KeptRd, KeptWr, KeptBlk, KeptCsrRd]
    assumption
  · split
    · dsimp only [KeptRes, KeptRd, KeptWr, KeptBlk, KeptCsrRd]
      refine KeptRd.exn ?_ (by assumption)
      apply State.elementRead_kept
      assumption
    · dsimp only [KeptRes, KeptRd, KeptWr, KeptBlk, KeptCsrRd]
    · dsimp only [KeptRes, KeptRd, KeptWr, KeptBlk, KeptCsrRd]
      apply State.modCore_kept
      refine KeptRd.ok ?_ (by assumption)
      apply State.elementRead_kept
      assumption

theorem State.elementWrite_kept (a0 : State) (a1 : Nat) (a2 : Nat) (a3 : List Word) (a4 : CoreSt → CoreSt)
    (h0 : Kept q n a0) :
    KeptBlk q n (State.elementWrite a0 a1 a2 a3 a4) := by
  unfold State.elementWrite
  split
  · dsimp only [KeptRes, KeptRd, KeptWr, KeptBlk, KeptCsrRd]
    apply State.modCore_kept
    refine KeptWr.ok ?_ (by assumption)
    apply State.storeAt_kept
    assumption
  · dsimp only [KeptRes, KeptRd, KeptWr, KeptBlk, KeptCsrRd]
    refine KeptWr.exn ?_ (by assumption)
    apply State.storeAt_kept
    assumption
  · dsimp only [KeptRes, KeptRd, KeptWr, KeptBlk, KeptCsrRd]

theorem State.bfillElement_kept (a0 : State) (a1 : Nat) (a2 : BlockArg) (h0 : Kept q n a0) :
    KeptBlk q n (State.bfillElement a0 a1 a2) := by
  unfold State.bfillElement
  dsimp only
  split
  · dsimp only [KeptRes, KeptRd, KeptWr, KeptBlk, KeptCsrRd]
    assumption
  · apply State.elementWrite_kept
    assumption

theorem State.elements_kept (a0 : State) (a1 : Nat) (a2 : Nat) (a3 : State → Blk) (a4 : Nat) (h0 : Kept q n a0)
    (h3 : ∀ s, Kept q n s → KeptBlk q n (a3 s)) :
    KeptBlk q n (State.elements a0 a1 a2 a3 a4) := by
  induction a4 generalizing a0 a1 a2 with
  | zero =>
    unfold State.elements
    dsimp only [KeptRes, KeptRd, KeptWr, KeptBlk, KeptCsrRd]
    assumption
  | succ m ih =>
    unfold State.elements
    split
    · dsimp only [KeptRes, KeptRd, KeptWr, KeptBlk, KeptCsrRd]
      assumption
    · split
      · apply ih
        refine KeptBlk.ok ?_ (by assumption)
        apply h3
        assumption
      · dsimp only [KeptRes, KeptRd, KeptWr, KeptBlk, KeptCsrRd]
        refine KeptBlk.exn ?_ (by assumption)
        apply h3
        assumption
      · dsimp only [KeptRes, KeptRd, KeptWr, KeptBlk, KeptCsrRd]
        assumption

theorem State.blockRun_kept (a0 : State) (a1 : Nat) (a2 : BlockArg) (a3 : Nat) (a4 : CoreSt → CoreSt)
    (a5 : CoreSt → CoreSt) (a6 : State → Blk) (h0 : Kept q n a0) (h6 : ∀ s, Kept q n s → KeptBlk q n (a6 s)) :
    KeptRes q n (State.blockRun a0 a1 a2 a3 a4 a5 a6) := by
  unfold State.blockRun
  dsimp only
  split
  · dsimp only [KeptRes, KeptRd, KeptWr, KeptBlk, KeptCsrRd]
    refine KeptBlk.exn ?_ (by assumption)
    apply State.elements_kept
    · split
      · assumption
      · apply State.modCore_kept
        assumption
    · intro x5
      intro x6
      apply h6
      assumption
  · dsimp only [KeptRes, KeptRd, KeptWr, KeptBlk, KeptCsrRd]
  · split
    · dsimp only [KeptRes, KeptRd, KeptWr, KeptBlk, KeptCsrRd]
      apply State.modCore_kept
      refine KeptBlk.ok ?_ (by assumption)
      apply State.elements_kept
      · split
        · assumption
        · apply State.modCore_kept
          assumption
      · intro x7
        intro x8
        apply h6
        assumption
    · dsimp only [KeptRes, KeptRd, KeptWr, KeptBlk, KeptCsrRd]
      apply State.modCore_kept
      refine KeptBlk.ok ?_ (by assumption)
      apply State.elements_kept
      · split
        · assumption
        · apply State.modCore_kept
          assumption
      · intro x7
        intro x8
        apply h6
        assumption

theorem State.bmovElement_kept (a0 : State) (a1 : Nat) (a2 : BlockArg) (h0 : Kept q n a0) :
    KeptBlk q n (State.bmovElement a0 a1 a2) := by
  unfold State.bmovElement
  dsimp only
  split
  · dsimp only [KeptRes, KeptRd, KeptWr, KeptBlk, KeptCsrRd]
    assumption
  · split
    · dsimp only [KeptRes, KeptRd, KeptWr, KeptBlk, KeptCsrRd]
      refine KeptRd.exn ?_ (by assumption)
      apply State.elementRead_kept
      assumption
    · dsimp only [KeptRes, KeptRd, KeptWr, KeptBlk, KeptCsrRd]
    · apply State.elementWrite_kept
      refine KeptRd.ok ?_ (by assumption)
      apply State.elementRead_kept
      assumption

theorem State.breakLine_kept (a0 : State) (a1 : Nat) (a2 : Nat) (a3 : Nat) (h0 : Kept q n a0) :
    Kept q n (State.breakLine a0 a1 a2 a3) := by
  unfold State.breakLine
  dsimp only
  split
  · split
    · assumption
    · apply State.latchCycle_kept
      apply Kept.lit
      apply State.draw_kept
      assumption
  · split
    · assumption
    · apply State.latchCycle_kept
      apply Kept.lit
      assumption

end Sys2Proof.Machine
end

