-- ==== Sys2Proof/Laws/KeptMgmt.lean ====
section
/-!
SUPPORT. Every operation of debug, DMA, register writes and management keeps what `Kept` says.
-/

namespace Sys2Proof.Machine

variable {q : List Instr} {n : Nat}

theorem State.dbgAns_kept (a0 : State) (a1 : Word) (h0 : Kept q n a0) :
    Kept q n (State.dbgAns a0 a1) := by
  unfold State.dbgAns
  apply Kept.lit
  assumption

theorem State.dbgErr_kept (a0 : State) (a1 : Nat) (h0 : Kept q n a0) :
    Kept q n (State.dbgErr a0 a1) := by
  unfold State.dbgErr
  apply State.orReg_kept
  assumption

theorem State.dbgDeny_kept (a0 : State) (a1 : Nat) (a2 : Nat) (a3 : Nat) (h0 : Kept q n a0) :
    Kept q n (State.dbgDeny a0 a1 a2 a3) := by
  unfold State.dbgDeny
  dsimp only
  split
  · split
    · apply Kept.lit
      apply State.raise_kept
      apply State.orReg_kept
      assumption
    · apply State.bbxReq_kept
      apply Kept.lit
      apply State.raise_kept
      apply State.orReg_kept
      assumption
  · apply Kept.lit
    apply State.raise_kept
    apply State.orReg_kept
    assumption

theorem State.dbgTouch_kept (a0 : State) (a1 : Nat) (a2 : Bool) (h0 : Kept q n a0) :
    Kept q n (State.dbgTouch a0 a1 a2) := by
  unfold State.dbgTouch
  split
  · assumption
  · apply State.modEng_kept
    assumption

theorem State.dbgWrite_kept (a0 : State) (a1 : Nat) (a2 : Word) (h0 : Kept q n a0) :
    Kept q n (State.dbgWrite a0 a1 a2) := by
  unfold State.dbgWrite
  split
  · split
    · apply State.dbgErr_kept
      assumption
    · apply State.csrSet_kept
      assumption
  · split
    · apply State.dbgErr_kept
      assumption
    · split
      · dsimp only
        apply State.dbgTouch_kept
        apply State.spadStore_kept
        assumption
      · split
        · refine Kept.fst ?_ (by assumption)
          apply State.putBlock_kept
          assumption
        · apply State.dbgErr_kept
          refine Kept.fst ?_ (by assumption)
          apply State.putBlock_kept
          assumption

theorem State.dbgRead_kept (a0 : State) (a1 : Nat) (h0 : Kept q n a0) :
    Kept q n (State.dbgRead a0 a1) := by
  unfold State.dbgRead
  split
  · split
    · apply State.dbgErr_kept
      assumption
    · dsimp only
      apply State.dbgAns_kept
      apply State.csrGet_kept
      assumption
  · split
    · apply State.dbgErr_kept
      assumption
    · dsimp only
      split
      · split
        · apply State.dbgErr_kept
          split
          · apply State.readCheck_kept
            assumption
          · apply State.readCheck_kept
            assumption
        · apply State.dbgAns_kept
          split
          · apply State.readCheck_kept
            assumption
          · apply State.readCheck_kept
            assumption
      · split
        · apply State.dbgErr_kept
          split
          · apply State.readCheck_kept
            assumption
          · apply State.readCheck_kept
            assumption
        · apply State.dbgAns_kept
          split
          · apply State.readCheck_kept
            assumption
          · apply State.readCheck_kept
            assumption

theorem State.dbgMem_kept (a0 : State) (a1 : Bool) (a2 : Word) (h0 : Kept q n a0) :
    Kept q n (State.dbgMem a0 a1 a2) := by
  unfold State.dbgMem
  dsimp only
  split
  · split
    · apply State.setRegs_kept
      apply State.dbgDeny_kept
      assumption
    · apply State.dbgDeny_kept
      assumption
  · split
    · split
      · apply State.setRegs_kept
        apply State.dbgWrite_kept
        assumption
      · apply State.dbgWrite_kept
        assumption
    · split
      · apply State.setRegs_kept
        apply State.dbgRead_kept
        assumption
      · apply State.dbgRead_kept
        assumption

theorem State.dbgSysWrite_kept (a0 : State) (a1 : Nat) (a2 : Nat) (a3 : Nat) (a4 : Word) (h0 : Kept q n a0) :
    Kept q n (State.dbgSysWrite a0 a1 a2 a3 a4) := by
  unfold State.dbgSysWrite
  split
  · assumption
  · split
    · assumption
    · split
      · apply State.modCore_kept
        assumption
      · split
        · apply State.modCore_kept
          assumption
        · split
          · apply State.modCore_kept
            assumption
          · split
            · apply State.modCore_kept
              assumption
            · apply State.sysWriteWord_kept
              assumption

theorem State.dbgRegister_kept (a0 : State) (a1 : Nat) (a2 : Bool) (a3 : Word) (h0 : Kept q n a0) :
    Kept q n (State.dbgRegister a0 a1 a2 a3) := by
  unfold State.dbgRegister
  dsimp only
  split
  · apply State.dbgDeny_kept
    assumption
  · split
    · apply State.dbgDeny_kept
      assumption
    · split
      · apply State.dbgTouch_kept
        split
        · apply State.dbgSysWrite_kept
          assumption
        · apply State.modCore_kept
          assumption
      · apply State.dbgAns_kept
        assumption

theorem State.dbgOpen_kept (a0 : State) (a1 : BitVec 5) (a2 : BitVec 128) (a3 : Word) (h0 : Kept q n a0) :
    Kept q n (State.dbgOpen a0 a1 a2 a3) := by
  unfold State.dbgOpen
  dsimp only
  apply Kept.lit
  apply State.raise_kept
  assumption

theorem State.dbgCtrlOpen_kept (a0 : State) (h0 : Kept q n a0) :
    Kept q n (State.dbgCtrlOpen a0) := by
  unfold State.dbgCtrlOpen
  split
  · apply State.dbgOpen_kept
    assumption
  · assumption

theorem State.dbgCtrl_kept (a0 : State) (a1 : Word) (h0 : Kept q n a0) :
    Kept q n (State.dbgCtrl a0 a1) := by
  unfold State.dbgCtrl
  dsimp only
  split
  · apply State.dbgClose_kept
    split
    · apply State.dbgCtrlOpen_kept
      assumption
    · assumption
  · split
    · apply State.dbgCtrlOpen_kept
      assumption
    · assumption

theorem State.dbgRun_kept (a0 : State) (a1 : Nat) (a2 : Nat) (a3 : Nat) (a4 : Nat → State → State)
    (a5 : State → State) (h0 : Kept q n a0) (h4 : ∀ x s, Kept q n s → Kept q n (a4 x s))
    (h5 : ∀ s, Kept q n s → Kept q n (a5 s)) :
    Kept q n (State.dbgRun a0 a1 a2 a3 a4 a5) := by
  unfold State.dbgRun
  dsimp only
  split
  · split
    · apply State.dbgDeny_kept
      assumption
    · split
      · apply h5
        assumption
      · apply State.dbgDeny_kept
        assumption
  · split
    · apply State.dbgErr_kept
      assumption
    · split
      · apply State.dbgDeny_kept
        assumption
      · split
        · assumption
        · apply h4
          assumption

theorem State.dbgHalt_kept (a0 : State) (a1 : Nat) (a2 : Nat) (a3 : Nat) (h0 : Kept q n a0) :
    Kept q n (State.dbgHalt a0 a1 a2 a3) := by
  unfold State.dbgHalt
  apply State.dbgRun_kept
  · assumption
  · intro x1
    intro x2
    intro x3
    split
    · assumption
    · apply State.takeHalt_kept
      apply State.modCore_kept
      assumption
  · intro x1
    intro x2
    split
    · assumption
    · apply State.freezeWdt_kept
      apply State.freezeWdt_kept
      apply Kept.lit
      assumption

theorem State.dbgStep_kept (a0 : State) (a1 : Nat) (a2 : Nat) (a3 : Nat) (h0 : Kept q n a0) :
    Kept q n (State.dbgStep a0 a1 a2 a3) := by
  unfold State.dbgStep
  apply State.dbgRun_kept
  · assumption
  · intro x1
    intro x2
    intro x3
    split
    · apply State.unhalt_kept
      assumption
    · assumption
  · intro x1
    intro x2
    dsimp only [id]
    assumption

theorem State.dbgResume_kept (a0 : State) (a1 : Nat) (a2 : Nat) (a3 : Nat) (h0 : Kept q n a0) :
    Kept q n (State.dbgResume a0 a1 a2 a3) := by
  unfold State.dbgResume
  apply State.dbgRun_kept
  · assumption
  · intro x1
    intro x2
    intro x3
    apply State.resumeCore_kept
    assumption
  · intro x1
    intro x2
    split
    · apply State.thawTrifle_kept
      apply Kept.lit
      assumption
    · assumption

theorem State.dbgHaltWrite_kept (a0 : State) (a1 : Nat) (a2 : Nat) (a3 : Nat) (a4 : Word) (h0 : Kept q n a0) :
    Kept q n (State.dbgHaltWrite a0 a1 a2 a3 a4) := by
  unfold State.dbgHaltWrite
  dsimp only
  split
  · apply State.dbgResume_kept
    split
    · apply State.dbgStep_kept
      split
      · apply State.dbgHalt_kept
        assumption
      · assumption
    · split
      · apply State.dbgHalt_kept
        assumption
      · assumption
  · split
    · apply State.dbgStep_kept
      split
      · apply State.dbgHalt_kept
        assumption
      · assumption
    · split
      · apply State.dbgHalt_kept
        assumption
      · assumption

theorem State.apInner_kept (a0 : State) (a1 : Nat) (a2 : Nat) (a3 : Bool) (a4 : Word) (h0 : Kept q n a0) :
    Kept q n (State.apInner a0 a1 a2 a3 a4) := by
  unfold State.apInner
  dsimp only
  split
  · split
    · apply State.dbgErr_kept
      assumption
    · split
      · apply State.dbgMem_kept
        assumption
      · split
        · apply State.dbgRegister_kept
          assumption
        · split
          · apply State.dbgCtrl_kept
            assumption
          · split
            · apply State.dbgHaltWrite_kept
              assumption
            · apply State.csrSet_kept
              assumption
  · split
    · apply State.dbgErr_kept
      apply State.dbgAns_kept
      assumption
    · split
      · apply State.dbgMem_kept
        apply State.dbgAns_kept
        assumption
      · split
        · apply State.dbgRegister_kept
          apply State.dbgAns_kept
          assumption
        · split
          · apply State.dbgCtrl_kept
            apply State.dbgAns_kept
            assumption
          · split
            · apply State.dbgHaltWrite_kept
              apply State.dbgAns_kept
              assumption
            · apply State.dbgAns_kept
              apply State.csrGet_kept
              apply State.dbgAns_kept
              assumption

theorem State.apAccess_kept (a0 : State) (a1 : Nat) (a2 : Nat) (a3 : Bool) (a4 : Word) (h0 : Kept q n a0) :
    Kept q n (State.apAccess a0 a1 a2 a3 a4) := by
  unfold State.apAccess
  split
  · apply Kept.lit
    assumption
  · apply State.apInner_kept
    apply Kept.lit
    assumption

theorem State.tapSelect_kept (a0 : State) (a1 : BitVec 8) (a2 : BitVec 64) (h0 : Kept q n a0) :
    Kept q n (State.tapSelect a0 a1 a2) := by
  unfold State.tapSelect
  apply Kept.lit
  assumption

theorem State.boundaryInsn_kept (a0 : State) (a1 : BitVec 8) (a2 : Option (List Bool)) (h0 : Kept q n a0) :
    Kept q n (State.boundaryInsn a0 a1 a2) := by
  unfold State.boundaryInsn
  split
  · dsimp only
    split
    · apply Kept.lit
      apply State.tapSelect_kept
      assumption
    · apply State.tapSelect_kept
      assumption
  · apply State.tapSelect_kept
    assumption

theorem State.dbgAp_kept (a0 : State) (a1 : BitVec 40) (h0 : Kept q n a0) :
    Kept q n (State.dbgAp a0 a1) := by
  unfold State.dbgAp
  dsimp only
  split
  · apply Kept.lit
    assumption
  · apply State.apAccess_kept
    apply Kept.lit
    assumption

theorem State.dbgNonce_kept (a0 : State) (h0 : Kept q n a0) :
    Kept q n (State.dbgNonce a0) := by
  unfold State.dbgNonce
  split
  · apply Kept.lit
    assumption
  · dsimp only
    apply Kept.lit
    apply State.draw_kept
    assumption

theorem State.dbgToken_kept (a0 : State) (a1 : List Word) (h0 : Kept q n a0) :
    Kept q n (State.dbgToken a0 a1) := by
  unfold State.dbgToken
  dsimp only
  split
  · apply State.dbgOpen_kept
    apply Kept.lit
    assumption
  · apply Kept.lit
    assumption

theorem State.dmaRun_kept (a0 : State) (a1 : Nat) (a2 : List Nat) (h0 : Kept q n a0) :
    Kept q n (State.dmaRun a0 a1 a2).1 := by
  unfold State.dmaRun
  dsimp only
  split
  · apply State.loadCsr_kept
    assumption
  · split
    · dsimp only [KeptRes, KeptRd, KeptWr, KeptBlk, KeptCsrRd]
      refine Kept.fst ?_ (by assumption)
      apply State.readCheck_kept
      assumption
    · dsimp only [KeptRes, KeptRd, KeptWr, KeptBlk, KeptCsrRd]
      apply State.draw_kept
      refine Kept.fst ?_ (by assumption)
      apply State.readCheck_kept
      assumption

theorem State.dmaRead_kept (a0 : State) (a1 : Nat) (a2 : List (List Nat)) (h0 : Kept q n a0) :
    Kept q n (State.dmaRead a0 a1 a2).1 := by
  induction a2 generalizing a0 a1 with
  | nil =>
    unfold State.dmaRead
    assumption
  | cons x xs ih =>
    unfold State.dmaRead
    dsimp only
    apply ih
    apply State.dmaRun_kept
    assumption

theorem State.dmaPut_kept (a0 : State) (a1 : Nat) (a2 : List AWord) (h0 : Kept q n a0) :
    Kept q n (State.dmaPut a0 a1 a2) := by
  unfold State.dmaPut
  dsimp only
  split
  · apply Kept.foldl
    · intro x3
      intro x4
      intro x5
      apply State.csrSet_kept
      assumption
    · assumption
  · apply State.putBlock_kept
    assumption

theorem State.dmaFold_kept (a0 : State) (a1 : Nat) (a2 : Nat) (a3 : List Word) (h0 : Kept q n a0) :
    Kept q n (State.dmaFold a0 a1 a2 a3) := by
  unfold State.dmaFold
  split
  · apply State.calcDma_kept
    assumption
  · assumption

theorem State.dmaMove_kept (a0 : State) (a1 : Burst) (h0 : Kept q n a0) :
    Kept q n (State.dmaMove a0 a1) := by
  unfold State.dmaMove
  dsimp only
  apply State.dmaFold_kept
  apply Kept.foldl
  · intro x3
    intro x4
    intro x5
    apply State.dmaPut_kept
    assumption
  · apply State.dmaRead_kept
    assumption

theorem State.dmaBurst_kept (a0 : State) (a1 : Burst) (h0 : Kept q n a0) :
    Kept q n (State.dmaBurst a0 a1) := by
  unfold State.dmaBurst
  dsimp only
  split
  · assumption
  · split
    · apply State.mpuViol_kept
      assumption
    · split
      · apply State.mpuViol_kept
        assumption
      · split
        · assumption
        · split
          · assumption
          · split
            · assumption
            · apply State.dmaMove_kept
              assumption

theorem State.csrSets_kept (a0 : State) (a1 : Nat) (a2 : List Word) (h0 : Kept q n a0) :
    Kept q n (State.csrSets a0 a1 a2) := by
  induction a2 generalizing a0 a1 with
  | nil =>
    unfold State.csrSets
    assumption
  | cons x xs ih =>
    unfold State.csrSets
    apply ih
    apply State.csrSet_kept
    assumption

theorem State.coreWrite_kept (a0 : State) (a1 : Nat) (a2 : Nat) (a3 : List Word) (h0 : Kept q n a0) :
    Kept q n (State.coreWrite a0 a1 a2 a3) := by
  unfold State.coreWrite
  dsimp only
  split
  · assumption
  · split
    · apply State.takeExn_kept
      assumption
    · apply State.csrSets_kept
      assumption

theorem State.masterWrite_kept (a0 : State) (a1 : Master) (a2 : Nat) (a3 : List Word) (h0 : Kept q n a0) :
    Kept q n (State.masterWrite a0 a1 a2 a3) := by
  unfold State.masterWrite
  dsimp only
  split
  · assumption
  · split
    · apply State.coreWrite_kept
      assumption
    · split
      · assumption
      · split
        · apply State.mpuViol_kept
          assumption
        · split
          · assumption
          · split
            · assumption
            · apply State.csrSets_kept
              assumption
    · split
      · assumption
      · apply State.csrSets_kept
        assumption
    · split
      · apply State.dbgDeny_kept
        assumption
      · split
        · apply State.dbgErr_kept
          assumption
        · apply State.csrSets_kept
          assumption

theorem State.regWrite_kept (a0 : State) (a1 : Nat) (a2 : Master) (a3 : Nat) (a4 : List Word) (h0 : Kept q n a0) :
    Kept q n (State.regWrite a0 a1 a2 a3 a4) := by
  unfold State.regWrite
  apply State.masterWrite_kept
  apply State.to_kept
  assumption

theorem State.useNonce_kept (a0 : State) (a1 : MgmtFound) (h0 : Kept q n a0) :
    Kept q n (State.useNonce a0 a1) := by
  unfold State.useNonce
  split
  · apply Kept.lit
    assumption
  · assumption

theorem State.mspiPeriod_kept (a0 : State) (a1 : MgmtPort) (h0 : Kept q n a0) :
    Kept q n (State.mspiPeriod a0 a1) := by
  unfold State.mspiPeriod
  split
  · apply Kept.lit
    assumption
  · assumption

theorem State.countNotNow_kept (a0 : State) (h0 : Kept q n a0) :
    Kept q n (State.countNotNow a0) := by
  unfold State.countNotNow
  dsimp only
  apply Kept.lit
  apply State.fldAdd32_kept
  assumption

theorem State.mgmt_kept (a0 : State) (a1 : Word) (a2 : MgmtReq) (a3 : MgmtFound) (a4 : State → State)
    (h0 : Kept q n a0) (h4 : ∀ s, Kept q n s → Kept q n (a4 s)) :
    Kept q n (State.mgmt a0 a1 a2 a3 a4) := by
  unfold State.mgmt
  split
  · assumption
  · dsimp only
    split
    · apply h4
      apply State.useNonce_kept
      apply State.mspiPeriod_kept
      assumption
    · split
      · apply State.respond_kept
        apply State.countNotNow_kept
        apply State.useNonce_kept
        apply State.mspiPeriod_kept
        assumption
      · apply State.respond_kept
        apply State.useNonce_kept
        apply State.mspiPeriod_kept
        assumption

theorem State.answer_kept (a0 : State) (a1 : Word) (a2 : MgmtReq) (a3 : List Word) (h0 : Kept q n a0) :
    Kept q n (State.answer a0 a1 a2 a3) := by
  unfold State.answer
  apply State.respond_kept
  assumption

theorem State.freeWords_kept (a0 : State) (a1 : Nat) (h0 : Kept q n a0) :
    Kept q n (State.freeWords a0 a1).2 := by
  unfold State.freeWords
  dsimp only
  apply State.draw_kept
  assumption

theorem State.begun_kept (a0 : State) (a1 : Word) (a2 : MgmtReq) (h0 : Kept q n a0) :
    Kept q n (State.begun a0 a1 a2) := by
  unfold State.begun
  apply Kept.lit
  assumption

theorem State.disableCmd_kept (a0 : State) (a1 : MgmtReq) (h0 : Kept q n a0) :
    Kept q n (State.disableCmd a0 a1) := by
  unfold State.disableCmd
  apply State.mgmt_kept
  · assumption
  · intro x1
    intro x2
    apply State.answer_kept
    apply State.disable_kept
    assumption

theorem State.enable_kept (a0 : State) (a1 : MgmtReq) (h0 : Kept q n a0) :
    Kept q n (State.enable a0 a1) := by
  unfold State.enable
  apply State.mgmt_kept
  · assumption
  · intro x1
    intro x2
    apply State.checkGo_kept
    apply State.begun_kept
    assumption

theorem State.getBbx_kept (a0 : State) (a1 : MgmtReq) (h0 : Kept q n a0) :
    Kept q n (State.getBbx a0 a1) := by
  unfold State.getBbx
  dsimp only
  apply State.mgmt_kept
  · assumption
  · intro x2
    intro x3
    split
    · apply State.answer_kept
      apply State.freeWords_kept
      assumption
    · apply State.answer_kept
      assumption

theorem State.getDigest_kept (a0 : State) (a1 : MgmtReq) (h0 : Kept q n a0) :
    Kept q n (State.getDigest a0 a1) := by
  unfold State.getDigest
  apply State.mgmt_kept
  · assumption
  · intro x1
    intro x2
    apply State.answer_kept
    assumption

theorem State.getField_kept (a0 : State) (a1 : MgmtReq) (h0 : Kept q n a0) :
    Kept q n (State.getField a0 a1) := by
  unfold State.getField
  dsimp only
  apply State.mgmt_kept
  · assumption
  · intro x2
    intro x3
    apply State.answer_kept
    assumption

theorem State.getNonce_kept (a0 : State) (a1 : MgmtReq) (h0 : Kept q n a0) :
    Kept q n (State.getNonce a0 a1) := by
  unfold State.getNonce
  apply State.mgmt_kept
  · assumption
  · intro x1
    intro x2
    dsimp only
    apply State.answer_kept
    apply Kept.lit
    apply State.draw_kept
    assumption

theorem State.getStatus_kept (a0 : State) (a1 : MgmtReq) (h0 : Kept q n a0) :
    Kept q n (State.getStatus a0 a1) := by
  unfold State.getStatus
  apply State.mgmt_kept
  · assumption
  · intro x1
    intro x2
    apply State.answer_kept
    assumption

theorem State.loadImage_kept (a0 : State) (a1 : MgmtReq) (h0 : Kept q n a0) :
    Kept q n (State.loadImage a0 a1) := by
  unfold State.loadImage
  apply State.mgmt_kept
  · assumption
  · intro x1
    intro x2
    apply State.loadGo_kept
    apply State.begun_kept
    assumption

theorem State.modeCommand_kept (a0 : State) (a1 : Word) (a2 : Bool) (a3 : MgmtReq) (h0 : Kept q n a0) :
    Kept q n (State.modeCommand a0 a1 a2 a3) := by
  unfold State.modeCommand
  dsimp only
  apply State.mgmt_kept
  · assumption
  · intro x2
    intro x3
    apply State.modEng_kept
    apply State.begun_kept
    assumption

theorem State.custody_kept (a0 : State) (a1 : Word) (a2 : MgmtReq) (a3 : Nat) (a4 : List Nat) (a5 : Bool)
    (a6 : Bool) (a7 : Bool) (a8 : State → State) (h0 : Kept q n a0) (h8 : ∀ s, Kept q n s → Kept q n (a8 s)) :
    Kept q n (State.custody a0 a1 a2 a3 a4 a5 a6 a7 a8) := by
  unfold State.custody
  apply State.mgmt_kept
  · assumption
  · intro x1
    intro x2
    apply h8
    assumption

theorem State.otpAnswer_kept (a0 : State) (a1 : Word) (a2 : MgmtReq) (a3 : Bool) (a4 : List Word) (h0 : Kept q n a0) :
    Kept q n (State.otpAnswer a0 a1 a2 a3 a4) := by
  unfold State.otpAnswer
  split
  · apply State.answer_kept
    assumption
  · apply State.respond_kept
    apply State.raise_kept
    assumption

theorem State.otpProgram_kept (a0 : State) (a1 : Nat) (a2 : List Word) (a3 : Bool) (h0 : Kept q n a0) :
    Kept q n (State.otpProgram a0 a1 a2 a3) := by
  unfold State.otpProgram
  dsimp only
  split
  · apply State.wrs_kept
    assumption
  · apply State.wrs_kept
    apply State.freeWords_kept
    assumption

theorem State.advanceEpoch_kept (a0 : State) (a1 : MgmtReq) (a2 : Bool) (h0 : Kept q n a0) :
    Kept q n (State.advanceEpoch a0 a1 a2) := by
  unfold State.advanceEpoch
  dsimp only
  apply State.custody_kept
  · assumption
  · intro x2
    intro x3
    apply State.otpAnswer_kept
    apply State.otpProgram_kept
    assumption

theorem State.markWord_kept (a0 : State) (h0 : Kept q n a0) :
    Kept q n (State.markWord a0).2 := by
  unfold State.markWord
  dsimp only
  apply State.draw_kept
  assumption

theorem State.otpMark_kept (a0 : State) (a1 : Nat) (a2 : Bool) (h0 : Kept q n a0) :
    Kept q n (State.otpMark a0 a1 a2) := by
  unfold State.otpMark
  dsimp only
  apply State.otpProgram_kept
  apply State.markWord_kept
  assumption

theorem State.writeRoot_kept (a0 : State) (a1 : MgmtReq) (a2 : Bool) (a3 : Nat) (h0 : Kept q n a0) :
    Kept q n (State.writeRoot a0 a1 a2 a3) := by
  unfold State.writeRoot
  split
  · apply State.otpMark_kept
    apply State.otpProgram_kept
    assumption
  · assumption

theorem State.enrolPuf_kept (a0 : State) (h0 : Kept q n a0) :
    Kept q n (State.enrolPuf a0) := by
  unfold State.enrolPuf
  apply Kept.lit
  assumption

theorem State.enrol_kept (a0 : State) (a1 : MgmtReq) (a2 : Bool) (h0 : Kept q n a0) :
    Kept q n (State.enrol a0 a1 a2) := by
  unfold State.enrol
  apply State.custody_kept
  · assumption
  · intro x1
    intro x2
    dsimp only
    apply State.otpAnswer_kept
    apply Kept.foldl
    · intro x6
      intro x7
      intro x8
      apply State.writeRoot_kept
      assumption
    · apply State.enrolPuf_kept
      assumption

theorem State.eraseSessionKeys_kept (a0 : State) (h0 : Kept q n a0) :
    Kept q n (State.eraseSessionKeys a0) := by
  unfold State.eraseSessionKeys
  apply Kept.foldl
  · intro x1
    intro x2
    intro x3
    apply State.modPdie_kept
    assumption
  · assumption

theorem State.getCustody_kept (a0 : State) (a1 : MgmtReq) (h0 : Kept q n a0) :
    Kept q n (State.getCustody a0 a1) := by
  unfold State.getCustody
  apply State.mgmt_kept
  · assumption
  · intro x1
    intro x2
    apply State.answer_kept
    assumption

theorem State.getLcert_kept (a0 : State) (a1 : MgmtReq) (h0 : Kept q n a0) :
    Kept q n (State.getLcert a0 a1) := by
  unfold State.getLcert
  apply State.mgmt_kept
  · assumption
  · intro x1
    intro x2
    apply State.answer_kept
    assumption

theorem State.ledgerEnds_kept (a0 : State) (h0 : Kept q n a0) :
    Kept q n (State.ledgerEnds a0) := by
  unfold State.ledgerEnds
  dsimp only
  apply Kept.lit
  apply State.configRecord_kept
  assumption

theorem State.lifeMark_kept (a0 : State) (a1 : Nat) (a2 : Bool) (h0 : Kept q n a0) :
    Kept q n (State.lifeMark a0 a1 a2) := by
  unfold State.lifeMark
  dsimp only
  split
  · apply State.otpMark_kept
    assumption
  · apply State.dbgClose_kept
    apply State.otpMark_kept
    assumption

theorem State.provision_kept (a0 : State) (a1 : MgmtReq) (a2 : Bool) (h0 : Kept q n a0) :
    Kept q n (State.provision a0 a1 a2) := by
  unfold State.provision
  apply State.custody_kept
  · assumption
  · intro x1
    intro x2
    apply State.otpAnswer_kept
    apply State.lifeMark_kept
    assumption

theorem State.reenrol_kept (a0 : State) (a1 : MgmtReq) (h0 : Kept q n a0) :
    Kept q n (State.reenrol a0 a1) := by
  unfold State.reenrol
  apply State.custody_kept
  · assumption
  · intro x1
    intro x2
    dsimp only
    apply State.answer_kept
    apply Kept.lit
    apply State.enrolPuf_kept
    assumption

theorem State.retire_kept (a0 : State) (a1 : MgmtReq) (a2 : Bool) (h0 : Kept q n a0) :
    Kept q n (State.retire a0 a1 a2) := by
  unfold State.retire
  apply State.custody_kept
  · assumption
  · intro x1
    intro x2
    dsimp only
    apply State.otpAnswer_kept
    apply State.lifeMark_kept
    apply State.eraseSessionKeys_kept
    apply State.ledgerEnds_kept
    split
    · apply State.disable_kept
      assumption
    · assumption

theorem State.revokeRoot_kept (a0 : State) (a1 : MgmtReq) (a2 : Bool) (h0 : Kept q n a0) :
    Kept q n (State.revokeRoot a0 a1 a2) := by
  unfold State.revokeRoot
  dsimp only
  apply State.custody_kept
  · assumption
  · intro x2
    intro x3
    apply State.otpAnswer_kept
    apply State.otpMark_kept
    assumption

theorem State.sealDevice_kept (a0 : State) (a1 : MgmtReq) (a2 : Bool) (h0 : Kept q n a0) :
    Kept q n (State.sealDevice a0 a1 a2) := by
  unfold State.sealDevice
  apply State.custody_kept
  · assumption
  · intro x1
    intro x2
    apply State.otpAnswer_kept
    apply State.lifeMark_kept
    assumption

theorem State.setOwner_kept (a0 : State) (a1 : MgmtReq) (h0 : Kept q n a0) :
    Kept q n (State.setOwner a0 a1) := by
  unfold State.setOwner
  apply State.custody_kept
  · assumption
  · intro x1
    intro x2
    apply State.answer_kept
    apply Kept.lit
    assumption

theorem State.gnomiHeard_kept (a0 : State) (h0 : Kept q n a0) :
    Kept q n (State.gnomiHeard a0) := by
  unfold State.gnomiHeard
  apply Kept.lit
  assumption

theorem State.gnomiArch_kept (a0 : State) (a1 : MgmtReq) (h0 : Kept q n a0) :
    Kept q n (State.gnomiArch a0 a1) := by
  unfold State.gnomiArch
  dsimp only
  apply State.mgmt_kept
  · apply State.gnomiHeard_kept
    assumption
  · intro x2
    intro x3
    split
    · apply State.answer_kept
      apply State.freeWords_kept
      assumption
    · split
      · apply State.answer_kept
        apply State.freeWords_kept
        assumption
      · apply State.answer_kept
        assumption

theorem State.gnomiClose_kept (a0 : State) (a1 : MgmtReq) (h0 : Kept q n a0) :
    Kept q n (State.gnomiClose a0 a1) := by
  unfold State.gnomiClose
  apply State.mgmt_kept
  · apply State.gnomiHeard_kept
    assumption
  · intro x1
    intro x2
    apply State.answer_kept
    apply Kept.lit
    assumption

theorem State.gnomiEnds_kept (a0 : State) (h0 : Kept q n a0) :
    Kept q n (State.gnomiEnds a0) := by
  unfold State.gnomiEnds
  split
  · assumption
  · split
    · assumption
    · apply Kept.lit
      assumption

theorem State.gnomiHello_kept (a0 : State) (a1 : MgmtReq) (h0 : Kept q n a0) :
    Kept q n (State.gnomiHello a0 a1) := by
  unfold State.gnomiHello
  apply State.mgmt_kept
  · apply State.gnomiHeard_kept
    assumption
  · intro x1
    intro x2
    dsimp only
    apply State.answer_kept
    apply Kept.lit
    apply State.draw_kept
    assumption

theorem State.gnomiOpen_kept (a0 : State) (a1 : MgmtReq) (h0 : Kept q n a0) :
    Kept q n (State.gnomiOpen a0 a1) := by
  unfold State.gnomiOpen
  dsimp only
  apply State.mgmt_kept
  · apply State.gnomiHeard_kept
    assumption
  · intro x2
    intro x3
    apply State.answer_kept
    apply State.activityRecord_kept
    apply Kept.lit
    assumption

theorem State.gnomiRead_kept (a0 : State) (a1 : MgmtReq) (h0 : Kept q n a0) :
    Kept q n (State.gnomiRead a0 a1) := by
  unfold State.gnomiRead
  dsimp only
  apply State.mgmt_kept
  · apply State.gnomiHeard_kept
    assumption
  · intro x2
    intro x3
    split
    · apply State.answer_kept
      apply State.freeWords_kept
      assumption
    · apply State.answer_kept
      assumption

theorem State.progFail_kept (a0 : State) (a1 : Nat) (a2 : Nat) (h0 : Kept q n a0) :
    Kept q n (State.progFail a0 a1 a2) := by
  unfold State.progFail
  dsimp only
  apply State.updEntry_kept
  apply Kept.lit
  split
  · assumption
  · apply State.store_kept
    apply State.freeWords_kept
    assumption

theorem State.updAbort_kept (a0 : State) (a1 : MgmtReq) (h0 : Kept q n a0) :
    Kept q n (State.updAbort a0 a1) := by
  unfold State.updAbort
  apply State.mgmt_kept
  · assumption
  · intro x1
    intro x2
    apply State.answer_kept
    apply State.updDrop_kept
    assumption

theorem State.updBegin_kept (a0 : State) (a1 : MgmtReq) (h0 : Kept q n a0) :
    Kept q n (State.updBegin a0 a1) := by
  unfold State.updBegin
  dsimp only
  apply State.mgmt_kept
  · assumption
  · intro x2
    intro x3
    apply State.answer_kept
    apply Kept.lit
    apply State.setSlotRec_kept
    assumption

theorem State.updDone_kept (a0 : State) (h0 : Kept q n a0) :
    Kept q n (State.updDone a0) := by
  unfold State.updDone
  dsimp only
  apply Kept.lit
  apply State.store_kept
  apply State.setSlotRec_kept
  assumption

theorem State.updCommit_kept (a0 : State) (a1 : MgmtReq) (h0 : Kept q n a0) :
    Kept q n (State.updCommit a0 a1) := by
  unfold State.updCommit
  dsimp only
  apply State.mgmt_kept
  · assumption
  · intro x2
    intro x3
    split
    · split
      · apply State.warmReset_kept
        apply State.answer_kept
        apply State.updDone_kept
        assumption
      · apply State.answer_kept
        apply State.updDone_kept
        assumption
    · apply State.answer_kept
      assumption

theorem State.updWrite_kept (a0 : State) (a1 : MgmtReq) (a2 : Bool) (h0 : Kept q n a0) :
    Kept q n (State.updWrite a0 a1 a2) := by
  unfold State.updWrite
  dsimp only
  apply State.mgmt_kept
  · assumption
  · intro x2
    intro x3
    apply State.answer_kept
    split
    · apply State.store_kept
      assumption
    · apply State.progFail_kept
      assumption

end Sys2Proof.Machine
end

