-- ==== Sys2Proof/Machine/Pins.lean ====
section
/-!
DEFINITION. The levels that the device drives on its balls, where its state gives them (R54, R156, R420, R421, R447, R532,
R534, R537, R551, R557).
-/

namespace Sys2Proof.Machine

/-- Output balls. A pair of isolated output cells without its rail is not driven (R551, R557). -/
structure Balls where
  /-- VETO_T and VETO_C -/
  veto : Option (Bool × Bool)
  /-- EOUT_T and EOUT_C -/
  eout : Option (Bool × Bool)
  epulseN : Bool
  rstoutN : Bool
  mspiRdyN : Bool
  ppsOut : Bool
  /-- VCC_EN of the card slots 0 and 1 -/
  cardVcc : Bool × Bool
deriving DecidableEq, Repr

/-- A pair at its balls: not driven without VDDIO33 (R551, R555). -/
def State.ballsOf (s : State) (pads : Bool × Bool) : Option (Bool × Bool) := if s.cus.vddio33Lost then none else some pads

/-- The levels now. In reset the fields behind them stand at the levels of R557. -/
def State.balls (s : State) : Balls :=
  { veto := s.ballsOf s.vetoPads, eout := s.ballsOf s.eoutPads, epulseN := !s.epulseLow, rstoutN := s.boot.rstOut,
    mspiRdyN := !s.mspiReady, ppsOut := s.port.ppsOut, cardVcc := ((s.cardOf 0).active, (s.cardOf 1).active) }

end Sys2Proof.Machine
end

