-- ==== Sys2Proof/WellFormed.lean ====
section
/-!
DEFINITION. Which terms of the syntax are commands that can reach the device: what the types of the operands do not
already say. `exec` has a meaning for every term, well-formed or not.
-/

namespace Sys2Proof

/-- The ring address of a die other than the hub (R13). -/
def seatOk (die : DieAddr) : Bool := die != 0

/-- A compute die (R13). -/
def computeOk (die : DieAddr) : Bool := decide (1 ≤ die.toNat) && decide (die.toNat ≤ 4)

/-- A die with DMA channels: a compute or a port die (R336). -/
def dmaDieOk (die : DieAddr) : Bool := decide (1 ≤ die.toNat) && decide (die.toNat ≤ 6)

/-- A master names a channel of a die that has channels (R42, R302). -/
def masterOk : Master → Bool
  | .trifle => true
  | .core _ => true
  | .dma die _ => dmaDieOk die
  | .debug => true

/-- LEN is at most 1,024 (R92). -/
def reqOk (q : MgmtReq) : Bool := decide (q.args.length ≤ 1024)

/-- A DMA burst of a die with channels (R302, R336). -/
def burstOk (b : Burst) : Bool := dmaDieOk b.die

/-- A request to a stack: at most a line of words, within one line (R300). -/
def hbmReqOk (r : HbmReq) : Bool := decide (r.addr.toNat % 32 + max r.words.length r.n.toNat ≤ 32)

/-- A record's body has 36 words at most (R178). -/
def recordOk (r : RecordIn) : Bool := decide (r.body.length ≤ 36)

/-- A CAN frame carries 2,048 bytes at most (R530). -/
def canOk (f : CanFrame) : Bool := decide (f.data.length ≤ 2048)

/-- A Trifle copy, 0 to 2 (R375). -/
def copyOk (k : BitVec 2) : Bool := decide (k.toNat ≤ 2)

/-- A kind of R504. -/
def kindOk (k : Byte) : Bool := (decide (1 ≤ k.toNat) && decide (k.toNat ≤ 0x0F)) || k == 0x80

/-- A command that can reach the device. -/
def Instr.wellFormed : Instr → Bool
  | .registerWrite _ m _ _ => masterOk m
  | .powerGood _ _ _ _ => true
  | .powerOnDetectorRelease _ => true
  | .powerLoss _ _ => true
  | .flushDeadline _ => true
  | .resetNRequest _ => true
  | .ledgerFlushEnd _ => true
  | .trifleStart _ _ => true
  | .rstoutRelease _ => true
  | .firmwareStart _ => true
  | .enumAnswer _ seat _ _ _ => seatOk seat
  | .enumerationEnd _ => true
  | .heartbeatSend _ die => seatOk die
  | .heartbeatDue _ die => seatOk die
  | .linkTrainingEnd _ die _ _ _ => seatOk die
  | .linkDown _ die => seatOk die
  | .dieFence _ m _ => masterOk m
  | .alignmentMarker _ _ => true
  | .monitorWindow _ _ _ _ => true
  | .monDead _ => true
  | .pllLockLoss _ _ _ => true
  | .cfgCtrlLoad _ m _ => masterOk m
  | .cfgCtrlEn _ m _ => masterOk m
  | .loadComplete _ => true
  | .checkComplete _ => true
  | .mgmtFrameBad _ _ => true
  | .unknownCommand _ _ req => reqOk req
  | .getStatus _ req => reqOk req
  | .getNonce _ req => reqOk req
  | .getDigest _ req => reqOk req
  | .loadImage _ req => reqOk req
  | .enable _ req => reqOk req
  | .disable _ req => reqOk req
  | .frameBoundary _ => true
  | .intakeCutoff _ => true
  | .clearWrite _ _ => true
  | .slotClearEnd _ => true
  | .sifterBatchStart _ _ => true
  | .sifterPointTake _ _ _ => true
  | .sifterDiscardPop _ _ => true
  | .sampleStep _ => true
  | .motionSamplePublish _ _ _ => true
  | .egoStale _ => true
  | .latPctrlGo _ m _ => masterOk m
  | .expansionComplete _ => true
  | .verdictFlitPop _ _ => true
  | .deadline _ _ => true
  | .vetoToggle _ => true
  | .vdgPin _ => true
  | .ppsIn _ => true
  | .timeAdj _ m _ => masterOk m
  | .timeStep _ m _ => masterOk m
  | .timeSync _ m _ => masterOk m
  | .timeHold _ => true
  | .holdoverUncStep _ => true
  | .msPairing _ _ => true
  | .positionFix _ _ => true
  | .ledgerRecordHandover _ r => recordOk r
  | .ledgerChain _ => true
  | .ledgerWriteDone _ => true
  | .batchTimer _ => true
  | .batchSignDone _ _ => true
  | .archiveWrite _ _ => true
  | .gnomiHello _ req => reqOk req
  | .gnomiOpen _ req => reqOk req
  | .gnomiRead _ req => reqOk req
  | .gnomiArch _ req => reqOk req
  | .gnomiClose _ req => reqOk req
  | .gnomiTimeout _ => true
  | .interruptEntry _ _ => true
  | .timerLine _ _ => true
  | .writeBufferDrain _ _ => true
  | .writeBufferAck _ _ _ => true
  | .engSwint _ m _ _ => masterOk m
  | .add _ _ _ _ => true
  | .addc _ _ _ _ => true
  | .sub _ _ _ _ => true
  | .subb _ _ _ _ => true
  | .adds _ _ _ _ => true
  | .subs _ _ _ _ => true
  | .and _ _ _ _ => true
  | .or _ _ _ _ => true
  | .xor _ _ _ _ => true
  | .cmp _ _ _ _ => true
  | .tst _ _ _ _ => true
  | .mov _ _ _ _ => true
  | .shl _ _ _ _ => true
  | .shls _ _ _ _ => true
  | .shr _ _ _ _ => true
  | .sar _ _ _ _ => true
  | .rol _ _ _ _ => true
  | .ror _ _ _ _ => true
  | .mul _ _ _ _ => true
  | .mulu _ _ _ _ => true
  | .mulq _ _ _ _ => true
  | .div _ _ _ _ => true
  | .divu _ _ _ _ => true
  | .divs _ _ _ _ => true
  | .rem _ _ _ _ => true
  | .mac _ _ _ _ _ => true
  | .macs _ _ _ _ _ => true
  | .neg _ _ _ => true
  | .negs _ _ _ => true
  | .abs _ _ _ => true
  | .abss _ _ _ => true
  | .not _ _ _ => true
  | .clz _ _ _ => true
  | .popc _ _ _ => true
  | .movFromAcc _ _ _ _ _ => true
  | .movToAcc _ _ _ _ _ => true
  | .movFromPred _ _ _ _ _ => true
  | .movToPred _ _ _ _ _ => true
  | .movi _ _ _ _ => true
  | .ext _ _ _ _ _ _ _ => true
  | .ins _ _ _ _ _ _ _ => true
  | .ld _ _ _ _ => true
  | .st _ _ _ _ => true
  | .ldp _ _ _ _ => true
  | .stp _ _ _ _ => true
  | .lea _ _ _ _ _ => true
  | .vld _ _ _ _ => true
  | .vst _ _ _ _ => true
  | .vlds _ _ _ _ _ _ _ => true
  | .vgath _ _ _ _ _ _ _ _ => true
  | .vscat _ _ _ _ _ _ _ _ => true
  | .adda _ _ _ _ => true
  | .mova _ _ _ => true
  | .cmpa _ _ _ _ _ => true
  | .vadd _ _ _ => true
  | .vsub _ _ _ => true
  | .vadds _ _ _ => true
  | .vmul _ _ _ => true
  | .vmulq _ _ _ => true
  | .vmac _ _ _ => true
  | .vmin _ _ _ => true
  | .vmax _ _ _ => true
  | .vand _ _ _ => true
  | .vor _ _ _ => true
  | .vxor _ _ _ => true
  | .vshl _ _ _ => true
  | .vshr _ _ _ => true
  | .vsar _ _ _ => true
  | .vcmp _ _ _ => true
  | .vsel _ _ _ => true
  | .vred _ _ _ => true
  | .vperm _ _ _ => true
  | .vbin _ _ _ => true
  | .qpush _ _ _ _ => true
  | .qpushv _ _ _ _ _ _ => true
  | .qpop _ _ _ _ => true
  | .qpeek _ _ _ _ => true
  | .qcred _ _ _ _ => true
  | .queDrop _ m _ _ => masterOk m
  | .br _ _ _ => true
  | .bcc _ _ _ _ _ => true
  | .jmp _ _ _ _ => true
  | .loop _ _ _ _ => true
  | .callm _ _ _ _ => true
  | .retm _ _ _ _ => true
  | .trap _ _ _ _ => true
  | .mfs _ _ _ => true
  | .mts _ _ _ => true
  | .nop _ _ _ => true
  | .fence _ _ _ => true
  | .sync _ _ _ => true
  | .chk _ _ _ => true
  | .wait _ _ _ => true
  | .gmset _ _ _ => true
  | .gmclr _ _ _ => true
  | .mpusw _ _ _ => true
  | .rete _ _ _ => true
  | .retg _ _ _ => true
  | .dfclr _ _ _ => true
  | .split _ _ _ => true
  | .join _ _ _ => true
  | .bmov _ _ _ _ => true
  | .bfill _ _ _ _ => true
  | .bcrc _ _ _ _ => true
  | .hbmRequestServed _ _ req => hbmReqOk req
  | .mergeWrite _ _ _ => true
  | .refresh _ _ => true
  | .scrubRead _ _ _ => true
  | .scrubRewrite _ _ => true
  | .poolScrub _ die _ => computeOk die
  | .spadWriteback _ _ => true
  | .hbmDead _ _ _ => true
  | .hbmTempRead _ _ _ => true
  | .hbmTableSwitch _ => true
  | .hbmTrainingEnd _ _ _ => true
  | .hbmInjtArm _ m _ => masterOk m
  | .dmaBurst _ b => burstOk b
  | .mpuSyninfoClear _ m _ _ => masterOk m
  | .sigWindowClose _ _ _ => true
  | .lockstepMismatch _ _ _ _ => true
  | .selftestEnd _ _ _ _ => true
  | .joinHandoverEnd _ _ => true
  | .splitCommand _ req => reqOk req
  | .joinCommand _ req => reqOk req
  | .engineModeReset _ _ => true
  | .comparatorTestStart _ die => computeOk die
  | .comparatorTestEnd _ die _ => computeOk die
  | .lksInjArm _ m die _ => masterOk m && computeOk die
  | .trifleDisagree _ _ => true
  | .trifleSelftestEnd _ copy _ => copyOk copy
  | .trifleRejoin _ copy => copyOk copy
  | .ethFrameReceive _ _ _ _ => true
  | .cvuTimeout _ _ _ => true
  | .routeFlitPush _ _ _ => true
  | .cvuTxFlitPop _ _ _ => true
  | .cvuMbxStart _ _ => true
  | .macTxStart _ _ _ => true
  | .cvuCalcStart _ m _ _ _ => masterOk m
  | .cvuCalcData _ m _ _ _ => masterOk m
  | .cvuInjArm _ m _ _ => masterOk m
  | .ethLinkDown _ _ _ _ => true
  | .ethMbxgo _ m _ _ => masterOk m
  | .ethMbxpop _ m _ _ => masterOk m
  | .ethSactlInstall _ m _ _ => masterOk m
  | .plcaTxOpportunity _ _ => true
  | .t1sNobcn _ _ => true
  | .t1sCollision _ _ => true
  | .canFrameReceive _ _ _ f => canOk f
  | .canFifoPush _ _ _ => true
  | .canFrameTransmit _ _ _ _ => true
  | .busoffRecovery _ _ _ => true
  | .msSpeedPulse _ => true
  | .msiByteReceive _ _ => true
  | .msiDtx _ m _ => masterOk m
  | .msiDrxRemove _ m _ => masterOk m
  | .cardActivate _ m _ _ => masterOk m
  | .cardDeactivate _ m _ _ => masterOk m
  | .cardTx _ m _ _ => masterOk m
  | .cardRxRemove _ m _ _ => masterOk m
  | .cardCharReceive _ _ _ _ => true
  | .cardRemoval _ _ => true
  | .spiuTx _ m _ _ _ => masterOk m
  | .spiuRxRemove _ m _ _ _ => masterOk m
  | .spiuCs _ m _ _ _ => masterOk m
  | .spiTransferDone _ _ _ _ => true
  | .spiAutoTransfer _ => true
  | .spiAutoLate _ => true
  | .spiuUtx _ m _ _ => masterOk m
  | .spiuUrxRemove _ m _ _ => masterOk m
  | .uartRxByte _ _ _ _ => true
  | .ppsOutRise _ => true
  | .ppsOutFall _ => true
  | .faultReport _ _ => true
  | .lineBreak _ _ _ _ => true
  | .graceExpiry _ => true
  | .crbAck _ m _ => masterOk m
  | .crbLatchClear _ m ix _ => masterOk m && decide (ix < 4096)
  | .crbLogpop _ m _ => masterOk m
  | .crbInjReport _ m _ => masterOk m
  | .crbInjDry _ m _ => masterOk m
  | .crbInjLine _ m _ => masterOk m
  | .crbInjCancel _ m _ => masterOk m
  | .eoutToggle _ => true
  | .epulseEnd _ => true
  | .eoutPin _ => true
  | .wdtService _ m _ _ => masterOk m
  | .wdtCheckin _ m _ _ => masterOk m
  | .wdtWindowClose _ _ => true
  | .wdtPeriodEnd _ _ => true
  | .wdtWarning _ _ => true
  | .eraseBusyRise _ => true
  | .eraseBusyFall _ => true
  | .eraseCap _ => true
  | .modulePlace _ => true
  | .slotConfirm _ k => decide (k.toNat ≤ 1)
  | .updBegin _ req => reqOk req
  | .sectorEraseDone _ => true
  | .updWrite _ req _ => reqOk req
  | .updCommit _ req => reqOk req
  | .updAbort _ req => reqOk req
  | .getCustody _ req => reqOk req
  | .getLcert _ req => reqOk req
  | .enrol _ req _ => reqOk req
  | .installLcert _ req _ => reqOk req
  | .setOwner _ req => reqOk req
  | .provision _ req _ => reqOk req
  | .sealDevice _ req _ => reqOk req
  | .advanceEpoch _ req _ => reqOk req
  | .revokeRoot _ req _ => reqOk req
  | .reenrol _ req => reqOk req
  | .retire _ req _ => reqOk req
  | .tamperTrip _ _ => true
  | .zeroisationStart _ => true
  | .zeroisationEnd _ => true
  | .tapReset _ _ => true
  | .bypass _ _ => true
  | .idcode _ => true
  | .samplePreload _ _ => true
  | .extest _ _ => true
  | .clamp _ => true
  | .highz _ => true
  | .dbgNonce _ => true
  | .dbgToken _ words => words.length == 52
  | .dbgAp _ _ => true
  | .dbgCtrlOpen _ => true
  | .dbgCtrlClose _ => true
  | .debugHalt _ _ _ _ => true
  | .debugStep _ _ _ _ => true
  | .debugResume _ _ _ _ => true
  | .dbgMemoryAccess _ _ _ => true
  | .dbgRegisterAccess _ die _ _ => computeOk die
  | .bbxEntryRequest _ kind body => kindOk kind && decide (body.length ≤ 18)
  | .bbxEntryWrite _ => true
  | .bbxScanEnd _ => true
  | .bbxFwdata _ m _ => masterOk m
  | .fieldRecordWrite _ => true
  | .tempSample _ celsius => decide (celsius.length ≤ 8)
  | .getBbx _ req => reqOk req
  | .getField _ req => reqOk req
  | .railExcursion _ rail _ => decide (rail.toNat ≤ 12)
  | .illegalOpcode _ _ _ => true
  | .ethLinkUp _ _ _ => true
  | .cardInsertion _ _ => true
  | .monitorPulseEnd _ => true
  | .vholdCollapse _ => true
  | .resetNRelease _ => true
  | .beaconReceive _ _ => true

end Sys2Proof
end

