-- ==== Sys2Proof/Tests/Slice0.lean ====
section
/-!
SUPPORT. Tests: ill-formed terms that each check refuses, single steps whose results the manual gives, and for each
statement a state and operands that meet the hypotheses of its clauses, at boundary values of their ranges.
-/

namespace Sys2Proof.Machine.Test

set_option Elab.async false
set_option linter.unusedVariables false

/-! ### Each check of WellFormed refuses an ill-formed term -/

theorem test_wf_seat : (Instr.heartbeatDue 0 0).wellFormed = false := by decide
theorem test_wf_compute : (Instr.comparatorTestStart 0 5).wellFormed = false := by decide
theorem test_wf_master : (Instr.registerWrite 0 (.dma 7 0) 0 0).wellFormed = false := by decide
theorem test_wf_dma_die : (Instr.dmaBurst 0 ⟨0, 0, 0, 0, 1⟩).wellFormed = false := by decide
theorem test_wf_request : (Instr.getStatus 0 ⟨.mspi, 0, List.replicate 1025 0⟩).wellFormed = false := by decide +kernel
theorem test_wf_hbm : (Instr.hbmRequestServed 0 0 ⟨0, 0x01000000001F, true, [1, 2], .none, true, 0⟩).wellFormed = false := by decide
theorem test_wf_record : (Instr.ledgerRecordHandover 0 ⟨1, 0, List.replicate 37 0⟩).wellFormed = false := by decide
theorem test_wf_copy : (Instr.trifleRejoin 0 3).wellFormed = false := by decide
theorem test_wf_slot : (Instr.slotConfirm 0 2).wellFormed = false := by decide
theorem test_wf_latch : (Instr.crbLatchClear 0 .trifle 4096 0).wellFormed = false := by decide
theorem test_wf_can : (Instr.canFrameReceive 0 false 0 ⟨2, false, false, false, false, 3, 0, 0, List.replicate 2049 0, ⟨0, 0, 0⟩⟩).wellFormed = false := by
  decide +kernel
theorem test_wf_tin_kind : (Instr.bbxEntryRequest 0 0x10 []).wellFormed = false := by decide
theorem test_wf_tin_body : (Instr.bbxEntryRequest 0 1 (List.replicate 19 0)).wellFormed = false := by decide
theorem test_wf_temp : (Instr.tempSample 0 (List.replicate 9 20)).wellFormed = false := by decide
theorem test_wf_rail : (Instr.railExcursion 0 13 true).wellFormed = false := by decide
theorem test_wf_good : (Instr.crbLatchClear 0 .trifle 4095 0).wellFormed = true := by decide


/-! ### Small states -/

/-- An instruction of n words may issue on core c in a ring of at most m, where the core meets P. -/
abbrev Meets (s : State) (t : Nat) (c : CoreId) (n m : Nat) (P : CoreSt → Prop) : Prop :=
  (s.to t).Issues c.toNat n ∧ ((s.to t).coreOf c.toNat).ring ≤ m ∧ P (((s.to t).issued c.toNat n).coreOf c.toNat)

/-- The machine after reset with core 0 running at 0x400 of its scratchpad, which holds zeros. -/
def running (k : CoreSt) : State := { State.reset with core := [(0, { k with pc := 0x400, runst := .run })] }

/-- A core whose D registers hold the given words, D0 first, in ring 0 with the flags given. -/
def withD (ws : List Word) (sw : Word) : CoreSt :=
  { d := (List.range ws.length).foldl (fun m i => m.set (dflt 0) i (ws.getD i 0)) [], sw := sw }

/-- A state with one live word of configuration. -/
def liveIs (s : State) (die blk off : Nat) (v : Word) : State :=
  { s with csr := { s.csr with live := s.csr.live.set csrReset (csrKey die blk off) v } }

/-- A read that comes with its words. -/
def Rd.came : Rd → Bool
  | .ok _ _ => true
  | _ => false

/-- A store that is made. -/
def Wr.came : Wr → Bool
  | .ok _ => true
  | _ => false

/-- A queue bound to one producer and one consumer, of 8 places, with credits and flits. -/
def queue1 (producer consumer : Agent) (credit : Nat) (flits : List Flit) : QueueSt :=
  { depth := 8, producers := [producer], consumer := some consumer, credits := [(0, credit)], flits := flits }

/-- A visible flit of eight words. -/
def flit8 (last poison : Bool) (words : List Word) : Flit :=
  { words := words, k := 0, last := last, poison := poison, visibleAt := 0, cont := false }

/-- A region of the engine's protection unit lets every ring read, write and run the whole scratchpad of core 0. -/
def anyRing (s : State) : State := liveIs (liveIs s 1 0x10 0x43 0x200) 1 0x10 0x45 0x8DB

/-! ### Single steps whose results the manual's worked examples give -/

/-- What a command leaves, read by f. -/
def after {α : Type} (i : Instr) (s : State) (f : State → α) : Option α :=
  match exec i s with
  | .next y => some (f y)
  | _ => none

/-- The nine digits of the check values. -/
def digits : List Byte := [0x31, 0x32, 0x33, 0x34, 0x35, 0x36, 0x37, 0x38, 0x39]

/-- The check values of R384. -/
theorem test_crc32c : crc32c digits = 0xE3069283 := by decide +kernel
theorem test_crc16 : crc16 0x1021 0xFFFF digits = 0x29B1 := by decide +kernel

/-- The fault ID of TRIPLE_FAULT of E77 (the example of file 14). -/
theorem test_fault_id : faultId 3 0x1D 1 = 0x6E81 := by decide +kernel

/-- The state of "an overflowing division" (file 08), on core 0: ring 2 with OVT, ARITH's vector in ring 1. -/
def division : State :=
  (anyRing { State.reset with
    core := [(0, { d := [(4, 0x8000), (5, 2), (7, 0xFFFF)], sw := 0x1080, pc := 0x2003, vbr := 0x600, runst := .run })] }).wrs
      (spadBase 0 + 0x620) [0x500, 0, 0, 1]

theorem test_div_overflow : after (.div 0 0 4 (.reg 7)) division (fun y =>
    let k := y.coreOf 0
    ([k.dr 4, k.dr 5, (k.bankAt 1).esw, (k.bankAt 1).ecause, k.sw], [(k.bankAt 1).epc, k.pc])) =
      some ([0x8000, 0, 0xB08C, 0x0208, 0x088C], [0x2004, 0x500]) := by decide +kernel

theorem test_divs : after (.divs 0 0 4 (.reg 7)) division (fun y =>
    let k := y.coreOf 0
    (k.dr 4, k.dr 5, k.flag 3, k.flag 5)) = some (0x7FFF, 0, false, true) := by decide +kernel

/-- CALLM #0x0030 of file 08. -/
theorem test_callm : after (.callm 0 0 0x30 (.disp 0x100 0))
    { State.reset with core := [(0, { d := [(4, 0x44), (5, 0x55)], bank := [(0, { a := [(3, 0x18000)] })], sw := 0,
                                      pc := 0x400, runst := .run })] }
    (fun y => ((y.coreOf 0).ar 7, [y.rd (spadBase 0 + 0x17FFE), y.rd (spadBase 0 + 0x17FFF)])) =
      some (0x17FFB, [0x44, 0x55]) := by decide +kernel

/-- The service call of file 07, with the task in the scratchpad: the frame on ring 1's stack, and SW. -/
theorem test_trap : after (.trap 0 0 12 0)
    ((anyRing { State.reset with
      core := [(0, { bank := [(1, { a := [(3, 0x18000)] })], slim := [(1, 0x17000)], gtb := 0x1F000, gtn := 64,
                     sw := 0x1801, pc := 0x2040, runst := .run })] }).wrs (spadBase 0 + 0x1F030) [0x4000, 0, 0, 0x1D])
    (fun y => ((y.coreOf 0).sw, (y.coreOf 0).pc, (y.coreOf 0).ar 7, y.rds (spadBase 0 + 0x17FFC) 4)) =
      some (0x0801, 0x4000, 0x17FFC, [0xF801, 0x2041, 0, 0]) := by decide +kernel

/-- The forged return of file 07: GATE with DETAIL 6 in ring 1, its frame below, and the forged word in place. -/
theorem test_retg_forged : after (.retg 0 0 0)
    (((anyRing { State.reset with
      core := [(0, { bank := [(1, { a := [(3, 0x17FFC)], esw := 0x2000 })], slim := [(1, 0x17000)], vbr := 0x600,
                     sw := 0x0801, pc := 0x4020, runst := .run })] }).wrs
        (spadBase 0 + 0x17FFC) [0x2001, 0x2041, 0, 0]).wrs (spadBase 0 + 0x614) [0x500, 0, 0, 5])
    (fun y =>
      let b := (y.coreOf 0).bankAt 1
      ([b.esw, b.ecause, b.enest, y.rd (spadBase 0 + 0x17FFC)], [b.epc, (y.coreOf 0).ar 7])) =
      some ([0x6801, 0x0605, 1, 0x2001], [0x4020, 0x17FF8]) := by decide +kernel

/-- The straddling vector load of file 11: MPU_DATA for the first word that no region covers. -/
theorem test_vld_straddles : after (.vld 0 0 0 (.ind 1))
    ((liveIs (liveIs (liveIs (liveIs (anyRing { State.reset with
      core := [(0, { a := [(1, 0x10040F0)], vbr := 0x600, sw := 0x1000, pc := 0x400, runst := .run })],
      dies := { State.reset.dies with enumEnd := some 0 } })
        1 0x10 0x52 0x4000) 1 0x10 0x53 0x0100) 1 0x10 0x55 1) 1 0x10 0x57 0x0DD2).wrs (spadBase 0 + 0x61C) [0x500, 0, 0, 1])
    (fun y => (((y.coreOf 0).bankAt 1).eaddr, ((y.coreOf 0).bankAt 1).ecause)) = some (0x1004100, 0x0147) := by
  decide +kernel

/-- The double check-in of file 15: DUPLICATE is cause 4. -/
theorem test_double_checkin : after (.wdtCheckin 40000 .trifle (.twd 1) 2)
    (liveIs (liveIs (liveIs (liveIs { State.reset with
      wdt := { State.reset.wdt with unit := [(1, { running := true, done := 5 })] } }
        0 4 (wdtOff 1) 2) 0 4 (wdtOff 1 + 1) 20000) 0 4 (wdtOff 1 + 3) 2000) 0 4 (wdtOff 1 + 5) 7)
    (fun y => ((y.wdtOf 1).done, (y.wdtOf 1).cause, (y.wdtOf 1).violCnt)) = some (5, 4, 1) := by decide +kernel


/-! ### States and operands that meet the hypotheses of the statements -/

theorem wit_SumsAndDifferences :
    (let t : Nat := 0
     let c : CoreId := 0
     let d : Reg := 0
     let s : State := running (withD [0x7FFF, 0xFFFF] 0x80)
     let x : Src := .reg 1
     let calm := fun (k : CoreSt) (r : Int) => ¬(k.flag 7 = true ∧ (r < -32768 ∨ 32767 < r))
     let a := fun (k : CoreSt) => k.dr d.toNat
     let b := fun (k : CoreSt) => k.src x
     let cin := fun (k : CoreSt) => (if k.flag 0 then 1 else 0 : Nat)
     let bin := fun (k : CoreSt) => (if k.flag 0 then 0 else 1 : Nat)
     Meets s t c (srcLen x) 3 (fun k => calm k ((a k).toInt + (b k).toInt)) ∧
     Meets s t c (srcLen x) 3 (fun k => calm k ((a k).toInt + (b k).toInt + cin k)) ∧
     Meets s t c (srcLen x) 3 (fun k => calm k ((a k).toInt - (b k).toInt - bin k)) ∧
     Meets s t c (srcLen x) 3 (fun _ => True) ∧ Meets s t c 1 3 (fun k => calm k (-(a k).toInt))) ∧
    (let t : Nat := 0
     let c : CoreId := 0
     let s : State := running (withD [0x7FFF, 0xFFFF] 0x80)
     let x : Src := .reg 1
     let d : Reg := 1
     let calm := fun (k : CoreSt) (r : Int) => ¬(k.flag 7 = true ∧ (r < -32768 ∨ 32767 < r))
     let a := fun (k : CoreSt) => k.dr d.toNat
     let b := fun (k : CoreSt) => k.src x
     Meets s t c (srcLen x) 3 (fun k => calm k ((a k).toInt - (b k).toInt))) := by
  unfold Meets State.Issues; refine ⟨?_, ?_⟩ <;> decide +kernel

theorem wit_SaturatingArithmetic :
    (let t : Nat := 0
     let c : CoreId := 0
     let x : Src := .reg 0
     let s : State := running (withD [0x8000] 0)
     Meets s t c (srcLen x) 3 (fun _ => True) ∧ Meets s t c 1 3 (fun _ => True)) := by
  unfold Meets State.Issues; decide +kernel

theorem wit_LogicAndCounts :
    (let t : Nat := 0
     let c : CoreId := 0
     let d : Reg := 0
     let x : Src := .reg 0
     let s : State := anyRing (running (withD [0x8001] 0x1880))
     let a := fun (k : CoreSt) => k.dr d.toNat
     Meets s t c (srcLen x) 3 (fun _ => True) ∧ Meets s t c 1 3 (fun _ => True) ∧
     Meets s t c 1 3 (fun k => ¬(k.flag 7 = true ∧ a k = 0x8000))) := by
  unfold Meets State.Issues; decide +kernel

theorem wit_Shifts :
    (let t : Nat := 0
     let c : CoreId := 0
     let s : State := running (withD [0x8001, 16] 0)
     let x : Src := .reg 1
     Meets s t c (srcLen x) 3 (fun _ => True)) := by
  unfold Meets State.Issues; decide +kernel

theorem wit_Products :
    (let t : Nat := 0
     let c : CoreId := 0
     let d : Reg := 0
     let s : State := running (withD [0x100, 0x100] 0)
     let x : Src := .reg 1
     let a := fun (k : CoreSt) => k.dr d.toNat
     let b := fun (k : CoreSt) => k.src x
     let p := fun (k : CoreSt) => (a k).toInt * (b k).toInt
     Meets s t c (srcLen x) 3 (fun k => ¬(k.flag 7 = true ∧ (p k < -32768 ∨ 32767 < p k))) ∧
     Meets s t c (srcLen x) 3 (fun _ => True) ∧ Meets s t c 1 3 (fun _ => True)) := by
  unfold Meets State.Issues; decide +kernel

theorem wit_Divisions :
    (let t : Nat := 0
     let c : CoreId := 0
     let d : Reg := 0
     let x : Src := .reg 1
     let s : State := running (withD [0x8000, 0xFFFF] 0)
     let a := fun (k : CoreSt) => k.dr d.toNat
     let b := fun (k : CoreSt) => k.src x
     d.getLsbD 0 = false ∧
     Meets s t c (srcLen x) 3 (fun k => b k ≠ 0 ∧ ¬(k.flag 7 = true ∧ a k = 0x8000 ∧ b k = 0xFFFF)) ∧
     Meets s t c (srcLen x) 3 (fun k => b k ≠ 0)) ∧
    (let t : Nat := 0
     let c : CoreId := 0
     let d : Reg := 0
     let x : Src := .reg 1
     let s : State := running (withD [0x8000, 0] 0)
     let b := fun (k : CoreSt) => k.src x
     let zero := fun (k : CoreSt) => b k = 0 ∧ k.flag 6 = false
     d.getLsbD 0 = false ∧ Meets s t c (srcLen x) 3 zero) := by
  unfold Meets State.Issues; refine ⟨?_, ?_⟩ <;> decide +kernel

theorem wit_Moves :
    (let t : Nat := 0
     let c : CoreId := 0
     let s : State := running (withD [1, 2] 0)
     let w : BitVec 2 := 2
     let ea : Ea := .disp 0 0x7FF
     Meets s t c 1 3 (fun _ => True) ∧ Meets s t c 2 3 (fun _ => True) ∧ eaPlain ea = true ∧
     eaReserved ea = false ∧ w ≠ 3) := by
  unfold Meets State.Issues; decide +kernel

theorem wit_ArithTraps :
    (let d : Reg := 0
     d.getLsbD 0 = false) := by
  decide +kernel

theorem wit_Loads :
    (let t : Nat := 0
     let c : CoreId := 0
     let d : Reg := 0
     let s : State := running { withD [] 0 with a := [(0, 0x800)] }
     d.getLsbD 0 = false ∧ Meets s t c 3 3 (fun _ => True) ∧ Meets s t c 2 3 (fun _ => True)) ∧
    (let c : CoreId := 0
     let n := 1
     let ea : Ea := .disp 0 0xFFFF
     let t : Nat := 0
     let s : State := running { withD [] 0 with a := [(0, 0x800)] }
     let x := s.to t
     let u := x.issued c.toNat (eaLen n ea)
     let k := u.coreOf c.toNat
     x.Issues c.toNat (eaLen n ea) ∧ eaImm ea = false ∧ eaReserved ea = false ∧ k.eaLimit n ea = false ∧
     Rd.came (u.load c.toNat k.ring false (k.ea n ea).toNat n) = true) ∧
    (let c : CoreId := 0
     let n := 2
     let ea : Ea := .disp 0 0xFFFF
     let t : Nat := 0
     let s : State := running { withD [] 0 with a := [(0, 0x800)] }
     let x := s.to t
     let u := x.issued c.toNat (eaLen n ea)
     let k := u.coreOf c.toNat
     x.Issues c.toNat (eaLen n ea) ∧ k.eaLimit n ea = false ∧
     Rd.came (u.load c.toNat k.ring false (k.ea n ea).toNat n) = true) ∧
    (let c : CoreId := 0
     let n := 32
     let ea : Ea := .ind 0
     let t : Nat := 0
     let s : State := running { withD [] 0 with a := [(0, 0x800)] }
     let x := s.to t
     let u := x.issued c.toNat (eaLen n ea)
     let k := u.coreOf c.toNat
     x.Issues c.toNat (eaLen n ea) ∧ k.eaLimit n ea = false ∧
     Rd.came (u.load c.toNat k.ring true (k.ea n ea).toNat n) = true) ∧
    (let c : CoreId := 0
     let n := 1
     let ea : Ea := .preDec 7
     let t : Nat := 0
     let s : State := running { withD [] 0 with bank := [(0, { a := [(3, 0x40)] })], slim := [(0, 0x40)] }
     let x := s.to t
     let u := x.issued c.toNat (eaLen n ea)
     let k := u.coreOf c.toNat
     x.Issues c.toNat (eaLen n ea) ∧ eaImm ea = false ∧ eaReserved ea = false ∧ k.eaLimit n ea = true) := by
  unfold Meets State.Issues; refine ⟨?_, ?_, ?_, ?_, ?_⟩ <;> decide +kernel

theorem wit_Stores :
    (let t : Nat := 0
     let c : CoreId := 0
     let r : Reg := 0
     let s : State := running { withD [7, 8] 0 with a := [(0, 0x800)] }
     let ea : Ea := .disp 0 8
     let x := s.to t
     x.Issues c.toNat (eaLen 1 ea) ∧ eaImm ea = false ∧ eaReserved ea = false ∧ r.getLsbD 0 = false) ∧
    (let t : Nat := 0
     let c : CoreId := 0
     let s : State := running { withD [7, 8] 0 with a := [(0, 0x800)] }
     let ea : Ea := .disp 0 8
     let x := s.to t
     let u := x.issued c.toNat (eaLen 1 ea)
     let k := u.coreOf c.toNat
     k.eaLimit 1 ea = false ∧ Wr.came (u.storeAt c.toNat k.ring false (k.ea 1 ea).toNat [7]) = true ∧
     k.eaLimit 2 ea = false ∧ Wr.came (u.storeAt c.toNat k.ring false (k.ea 2 ea).toNat [7, 8]) = true) ∧
    (let t : Nat := 0
     let c : CoreId := 0
     let s : State := running { withD [7, 8] 0 with a := [(0, 0x800)] }
     let ea : Ea := .postInc 0
     let x := s.to t
     let u := x.issued c.toNat (eaLen 1 ea)
     let k := u.coreOf c.toNat
     k.eaLimit 32 ea = false ∧
     Wr.came (u.storeAt c.toNat k.ring true (k.ea 32 ea).toNat (List.replicate 32 0)) = true) ∧
    (let t : Nat := 0
     let c : CoreId := 0
     let s : State := running { withD [] 0 with bank := [(0, { a := [(3, 0x40)] })], slim := [(0, 0x40)] }
     let ea : Ea := .preDec 7
     let x := s.to t
     let u := x.issued c.toNat (eaLen 1 ea)
     let k := u.coreOf c.toNat
     x.Issues c.toNat (eaLen 1 ea) ∧ k.eaLimit 1 ea = true) := by
  unfold State.Issues; refine ⟨?_, ?_, ?_, ?_⟩ <;> decide +kernel

theorem wit_ScratchpadAccesses :
    (let c : Nat := 0
     let ring : Nat := 0
     let noCsr : Bool := false
     let s : State := running (withD [] 0)
     let a : Nat := spadLen - 4
     let n : Nat := 4
     let ws : List Word := [1, 2, 3, 4]
     (s.coreOf c).wb = [] ∧ a + n ≤ spadLen ∧
     s.accessExn c ring .read noCsr false (fun _ => 0) (pieces (wordsFrom a n)) = none ∧
     (∀ i < n, s.classAt ((spadBase c + (a + i)) / 8) = .none ∧ (s.leads c = true → s.classAt ((spadBase (c + 1) + (a + i)) / 8) = .none)) ∧
     a + ws.length ≤ spadLen ∧
     s.accessExn c ring .write noCsr false (fun x => (((wordsFrom a ws.length).zip ws).find? (fun w => w.1 == x)).elim 0 (fun w => w.2)) (pieces (wordsFrom a ws.length)) = none) := by
  decide +kernel

theorem wit_VectorAddressing :
    (let t : Nat := 0
     let c : CoreId := 0
     let s : State := running { withD [0, 16] 0 with a := [(0, 0x800)], p := [(1, 0x80000001)] }
     let x := s.to t
     x.Issues c.toNat 2) ∧
    (let t : Nat := 0
     let c : CoreId := 0
     let a : AReg := 0
     let s : State := running { withD [0, 16] 0 with a := [(0, 0x800)], p := [(1, 0x80000001)] }
     let dm : Reg := 1
     let x := s.to t
     let u := x.issued c.toNat 2
     let k := u.coreOf c.toNat
     Rd.came (u.loadPieces c.toNat k.ring true (pieces (ascending ((List.range 32).map (fun n => (k.ar a.toNat + BitVec.ofNat 48 n * (k.dr dm.toNat).signExtend 48).toNat)))) ((List.range 32).map (fun n => (k.ar a.toNat + BitVec.ofNat 48 n * (k.dr dm.toNat).signExtend 48).toNat))) = true) ∧
    (let t : Nat := 0
     let c : CoreId := 0
     let v : Reg := 0
     let vi : Reg := 0
     let a : AReg := 0
     let s : State := running { withD [0, 16] 0 with a := [(0, 0x800)], p := [(1, 0x80000001)] }
     let p : BitVec 2 := 1
     let x := s.to t
     let u := x.issued c.toNat 2
     let k := u.coreOf c.toNat
     let on := (List.range 32).filter (fun n => (k.pr p.toNat).getLsbD n)
     let at_ := on.map (fun n => (k.ar a.toNat + (lane (k.vr vi.toNat) n).setWidth 48).toNat)
     Rd.came (u.loadPieces c.toNat k.ring true (at_.map (fun y => [y])) at_) = true ∧
     Wr.came (u.storePieces c.toNat k.ring true (at_.map (fun y => [y])) (at_.zip (on.map (fun n => lane (k.vr v.toNat) n)))) = true) := by
  unfold State.Issues; refine ⟨?_, ?_, ?_⟩ <;> decide +kernel

theorem wit_LaneWise :
    (let o : VArg := ⟨1, 2, 1, 3, 0⟩
     o.x = 0) ∧
    (let t : Nat := 0
     let c : CoreId := 0
     let s : State := running { withD [] 0 with p := [(1, 0x80000001)] }
     Meets s t c 2 3 (fun _ => True)) := by
  unfold Meets State.Issues; refine ⟨?_, ?_⟩ <;> decide +kernel

theorem wit_VectorReductions :
    (let t : Nat := 0
     let c : CoreId := 0
     let o : VArg := ⟨1, 2, 1, 0, 0⟩
     let s : State := anyRing (running { withD [] 0x1800 with p := [(1, 0x80000001)] })
     o.vd.toNat < 4 ∧ o.x.toNat < 6 ∧ Meets s t c 2 3 (fun _ => True) ∧ o.x = 0 ∧ o.vb = 0 ∧ o.x.toNat < 16) := by
  unfold Meets State.Issues; decide +kernel

theorem wit_QueueInstructions :
    (let t : Nat := 0
     let c : CoreId := 0
     let p : BitVec 6 := 63
     let s : State := { liveIs (running (withD [1, 2, 3] 0)) 1 0x30 0x103F 0x6205 with queue := [(512 + 5, queue1 (.core 0) .lat 4 [])] }
     let n := c.toNat
     let x := s.to t
     let n := c.toNat
     let u := x.issued n 1
     let w := u.quePort n p.toNat
     Meets s t c 1 3 (fun _ => bit w 14 = true)) ∧
    (let t : Nat := 0
     let c : CoreId := 0
     let p : BitVec 6 := 63
     let s : State := { liveIs (running (withD [1, 2, 3] 0)) 1 0x30 0x103F 0x6205 with queue := [(512 + 5, queue1 (.core 0) .lat 4 [])] }
     let x := s.to t
     let n := c.toNat
     let u := x.issued n 1
     let w := u.quePort n p.toNat
     let die := bits w 11 9
     let q := bits w 8 0
     let x := s.to t
     let n := c.toNat
     let u := x.issued n 1
     let w := u.quePort n p.toNat
     let die := bits w 11 9
     let q := bits w 8 0
     x.Issues n 1 ∧ bit w 14 = true ∧ bit w 13 = true ∧ u.consFenced die q = false ∧
     1 ≤ u.credit die q (.core n)) ∧
    (let t : Nat := 0
     let c : CoreId := 0
     let p : BitVec 6 := 63
     let s : State := { liveIs (running (withD [1, 2, 3] 0)) 1 0x30 0x103F 0x6205 with queue := [(512 + 5, queue1 (.core 0) .lat 4 [])] }
     let nm1 : BitVec 2 := 3
     let x := s.to t
     let n := c.toNat
     let u := x.issued n 2
     let w := u.quePort n p.toNat
     let die := bits w 11 9
     let q := bits w 8 0
     let x := s.to t
     let n := c.toNat
     let u := x.issued n 1
     let w := u.quePort n p.toNat
     let die := bits w 11 9
     let q := bits w 8 0
     x.Issues n 2 ∧ bit w 14 = true ∧ u.consFenced die q = false ∧ nm1.toNat + 1 ≤ u.credit die q (.core n)) ∧
    (let t : Nat := 0
     let c : CoreId := 0
     let p : BitVec 6 := 63
     let s : State := { liveIs (running (withD [1, 2, 3] 0)) 1 0x30 0x103F 0x6205 with queue := [(512 + 5, queue1 (.core 0) .lat 0 [])] }
     let x := s.to t
     let n := c.toNat
     let u := x.issued n 1
     let w := u.quePort n p.toNat
     let die := bits w 11 9
     let q := bits w 8 0
     let x := s.to t
     let n := c.toNat
     let u := x.issued n 1
     let w := u.quePort n p.toNat
     let die := bits w 11 9
     let q := bits w 8 0
     u.consFenced die q = false ∧ u.credit die q (.core n) < 1 ∧ bit w 12 = false) ∧
    (let t : Nat := 0
     let c : CoreId := 0
     let p : BitVec 6 := 63
     let s : State := running (withD [] 0)
     let n := c.toNat
     let x := s.to t
     let n := c.toNat
     let u := x.issued n 1
     let w := u.quePort n p.toNat
     x.Issues n 1 ∧ bit w 14 = false) := by
  unfold Meets State.Issues; refine ⟨?_, ?_, ?_, ?_, ?_⟩ <;> decide +kernel

theorem wit_QueuePush :
    (let k : Nat := 0
     let d : Nat := 1
     let q : Nat := 5
     let e : Nat := 1
     let j : Nat := 6
     let s : State := { State.reset with queue := [(512 + 5, queue1 (.core 0) .lat 8 [])] }
     let a : Agent := .core 0
     let c : Agent := .lat
     let fs : List (List Word) := List.replicate 8 [1, 2, 3, 4, 5, 6, 7, 8]
     let x := (s.queueOf d q).settle s.now
     x.indexOf a = some k ∧ x.consumer = some c ∧ x.flits.length + fs.length ≤ x.depth ∧
     bit s.injt 15 = false ∧ 512 * e + j ≠ 512 * d + q) := by
  decide +kernel

theorem wit_Branches :
    (let t : Nat := 0
     let c : CoreId := 0
     let s : State := anyRing (running (withD [1] 0x1802))
     let cc : BitVec 4 := 15
     let ea : Ea := .index 0 1 0xFF 0
     Meets s t c 1 3 (fun _ => True) ∧ cc ≠ 8 ∧ Meets s t c 2 3 (fun _ => True) ∧ eaPlain ea = true ∧
     eaReserved ea = false ∧ Meets s t c (eaLen 1 ea) 3 (fun _ => True)) := by
  unfold Meets State.Issues; decide +kernel

theorem wit_CallsAndReturns :
    (let t : Nat := 0
     let c : CoreId := 0
     let s : State := running { withD [7] 0 with bank := [(0, { a := [(3, 0x40)] })], slim := [(0, 0x3C)] }
     let n := c.toNat
     let x := s.to t
     let n := c.toNat
     x.Issues n 2) ∧
    (let t : Nat := 0
     let c : CoreId := 0
     let s : State := running { withD [7] 0 with bank := [(0, { a := [(3, 0x40)] })], slim := [(0, 0x3C)] }
     let x := s.to t
     let n := c.toNat
     let u := x.issued n 4
     let k := u.coreOf n
     let x := s.to t
     let n := c.toNat
     let u := x.issued n 2
     let k := u.coreOf n
     x.Issues n 4 ∧ Wr.came (u.pushWords n k.bankNo k.ring 2 [0, 0, 0, 7]) = true) ∧
    (let t : Nat := 0
     let c : CoreId := 0
     let s : State := running { withD [7] 0 with bank := [(0, { a := [(3, 0x40)] })], slim := [(0, 0x3C)] }
     let x := s.to t
     let n := c.toNat
     let u := x.issued n 2
     let k := u.coreOf n
     let x := s.to t
     let n := c.toNat
     let u := x.issued n 2
     let k := u.coreOf n
     x.Issues n 2 ∧ Rd.came (u.load n k.ring false (k.ar 7).toNat 4) = true) := by
  unfold State.Issues; refine ⟨?_, ?_, ?_⟩ <;> decide +kernel

theorem wit_ExceptionEntry :
    (let c : Nat := 0
     let epc : Nat := 0
     let rsm : Bool := false
     let s : State := (running (withD [] 0x100)).wr (spadBase 0 + 0x20) 0x500
     let x : Exn := { vec := 8, detail := 2 }
     let k := s.coreOf c
     let s0 := s.modCore c (fun k => { k with runst := .run, warn := if x.vec = 13 then false else k.warn, sel := none })
     let v := s0.readVector c x.vec
     let e := v.2.toOption.getD ⟨0, 0, false, false⟩
     let h := min e.ring k.ring
     let b := { k.bankAt h with
      epc := BitVec.ofNat 48 epc, esw := k.saved rsm, eaddr := BitVec.ofNat 48 x.eaddr
      ecause := BitVec.ofNat 16 (x.vec + 64 * b2n x.part + 128 * b2n x.wr + 256 * x.detail) }
     let sw := fun (i : Nat) =>
      if i = 8 then (e.gms && decide (h ≤ 1)) || k.flag 8
      else if i = 9 then false
      else if i = 11 then h.testBit 0
      else if i = 12 then h.testBit 1
      else k.flag i
     let entered := { k.modBank h (fun _ => b) with
      pc := BitVec.ofNat 48 e.addr, runst := .run, warn := if x.vec = 13 then false else k.warn, sel := none
      sw := BitVec.ofNat 16 ((List.range 16).foldl (fun a i => a + (if sw i then 2 ^ i else 0)) 0) }
     let y := if (k.bankAt h).esw.getLsbD 13 then v.1.orReg (coreDie c) (coreBlk c) (coreOff c) 0x10 else v.1
     let z := y.modCore c (fun _ => entered)
     k.df = false ∧ x.vec ≠ 5 ∧ v.2.toOption.isSome = true ∧ e.push = false ∧
     (z.fetchHandler c e.addr).2 = none ∧ v.1.coreOf c = s0.coreOf c) := by
  decide +kernel

theorem wit_RefusedInstructions :
    (let t : Nat := 0
     let c : CoreId := 0
     let s : State := running (withD [] 0)
     let rsv : BitVec 4 := 15
     let w : Word := 0x0001
     let x := s.to t
     let n := c.toNat
     x.Issues n 1 ∧ rsv ≠ 0 ∧ undefinedWord w = true ∧ x.Issues n (insnLen w)) ∧
    (let t : Nat := 0
     let c : CoreId := 0
     let s : State := anyRing (running (withD [] 0x1000))
     let x := s.to t
     let n := c.toNat
     x.Issues n 1 ∧ 1 < (x.coreOf n).ring ∧ 0 < (x.coreOf n).ring) := by
  unfold State.Issues; refine ⟨?_, ?_⟩ <;> decide +kernel

theorem wit_Traps :
    (let t : Nat := 0
     let c : CoreId := 0
     let s : State := running { withD [] 0 with df := true }
     let x := s.to t
     let n := c.toNat
     let u := x.issued n 1
     let k := u.coreOf n
     x.Issues n 1 ∧ k.df = true) ∧
    (let t : Nat := 0
     let c : CoreId := 0
     let g : BitVec 8 := 3
     let s : State := running { withD [] 0 with gtn := 3 }
     let x := s.to t
     let n := c.toNat
     let u := x.issued n 1
     let k := u.coreOf n
     x.Issues n 1 ∧ k.df = false ∧ k.gtn.toNat ≤ g.toNat) ∧
    (let t : Nat := 0
     let c : CoreId := 0
     let g : BitVec 8 := 3
     let s : State := (anyRing (running { withD [] 0x1800 with gtn := 4, gtb := 0x600, bank := [(0, { a := [(3, 0x40)] })] })).wrs (spadBase 0 + 0x60C) [0x500, 0, 0, 0x1C]
     let x := s.to t
     let n := c.toNat
     let u := x.issued n 1
     let k := u.coreOf n
     let r := u.readTable n (k.gtb.toNat + 4 * g.toNat)
     let ws := r.2.toOption.getD []
     let w := ws.getD 3 0
     let ring := (w.extractLsb' 0 2).toNat
     let valid := w.getLsbD 4 = true ∧ w.toNat < 64
     let mayCall := k.ring ≤ (w.extractLsb' 2 2).toNat
     let k' := r.1.coreOf n
     x.Issues n 1 ∧ k.df = false ∧ g.toNat < k.gtn.toNat ∧ r.2.toOption.isSome = true ∧ valid ∧ mayCall ∧
     ring ≤ k.ring ∧
     Wr.came (r.1.pushWords n ring ring 3 ([k'.saved false] ++ [k'.pc.extractLsb' 0 16, k'.pc.extractLsb' 16 16, k'.pc.extractLsb' 32 16])) = true) ∧
    (let t : Nat := 0
     let c : CoreId := 0
     let g : BitVec 8 := 3
     let s : State := anyRing (running { withD [] 0x1800 with gtn := 4, gtb := 0x7F0000000000 })
     let x := s.to t
     let n := c.toNat
     let u := x.issued n 1
     let k := u.coreOf n
     let r := u.readTable n (k.gtb.toNat + 4 * g.toNat)
     x.Issues n 1 ∧ k.df = false ∧ g.toNat < k.gtn.toNat ∧ r.2.toOption.isSome = false) ∧
    (let t : Nat := 0
     let c : CoreId := 0
     let g : BitVec 8 := 3
     let s : State := (anyRing (running { withD [] 0x1800 with gtn := 4, gtb := 0x600 })).wrs (spadBase 0 + 0x60C) [0x500, 0, 0, 0x0C]
     let x := s.to t
     let n := c.toNat
     let u := x.issued n 1
     let k := u.coreOf n
     let r := u.readTable n (k.gtb.toNat + 4 * g.toNat)
     let ws := r.2.toOption.getD []
     let w := ws.getD 3 0
     let valid := w.getLsbD 4 = true ∧ w.toNat < 64
     x.Issues n 1 ∧ k.df = false ∧ g.toNat < k.gtn.toNat ∧ r.2.toOption.isSome = true ∧ ¬valid) ∧
    (let t : Nat := 0
     let c : CoreId := 0
     let g : BitVec 8 := 3
     let s : State := (anyRing (running { withD [] 0x1800 with gtn := 4, gtb := 0x600 })).wrs (spadBase 0 + 0x60C) [0x500, 0, 0, 0x18]
     let x := s.to t
     let n := c.toNat
     let u := x.issued n 1
     let k := u.coreOf n
     let r := u.readTable n (k.gtb.toNat + 4 * g.toNat)
     let ws := r.2.toOption.getD []
     let w := ws.getD 3 0
     let valid := w.getLsbD 4 = true ∧ w.toNat < 64
     let mayCall := k.ring ≤ (w.extractLsb' 2 2).toNat
     x.Issues n 1 ∧ k.df = false ∧ g.toNat < k.gtn.toNat ∧ r.2.toOption.isSome = true ∧ valid ∧ ¬mayCall) ∧
    (let t : Nat := 0
     let c : CoreId := 0
     let g : BitVec 8 := 3
     let s : State := (anyRing (running { withD [] 0 with gtn := 4, gtb := 0x600 })).wrs (spadBase 0 + 0x60C) [0x500, 0, 0, 0x1F]
     let x := s.to t
     let n := c.toNat
     let u := x.issued n 1
     let k := u.coreOf n
     let r := u.readTable n (k.gtb.toNat + 4 * g.toNat)
     let ws := r.2.toOption.getD []
     let w := ws.getD 3 0
     let ring := (w.extractLsb' 0 2).toNat
     let valid := w.getLsbD 4 = true ∧ w.toNat < 64
     let mayCall := k.ring ≤ (w.extractLsb' 2 2).toNat
     x.Issues n 1 ∧ k.df = false ∧ g.toNat < k.gtn.toNat ∧ r.2.toOption.isSome = true ∧ valid ∧ mayCall ∧
     k.ring < ring) := by
  unfold State.Issues; refine ⟨?_, ?_, ?_, ?_, ?_, ?_, ?_⟩ <;> decide +kernel

theorem wit_ExceptionReturns :
    (let t : Nat := 0
     let c : CoreId := 0
     let s : State := running (withD [] 0)
     let x := s.to t
     let n := c.toNat
     let u := x.issued n 1
     let k := u.coreOf n
     let bank := k.bankAt k.ring
     let esw := bank.esw
     x.Issues n 1 ∧ k.df = false ∧ esw.getLsbD 13 = false ∧ (x.coreOf n).ring = 0) ∧
    (let t : Nat := 0
     let c : CoreId := 0
     let s : State := running { withD [] 0 with df := true }
     let x := s.to t
     let n := c.toNat
     let u := x.issued n 1
     let k := u.coreOf n
     x.Issues n 1 ∧ k.df = true ∧ (x.coreOf n).ring = 0) ∧
    (let t : Nat := 0
     let c : CoreId := 0
     let s : State := running { withD [] 0 with bank := [(0, { esw := 0x3800, epc := 0x600 })] }
     let x := s.to t
     let n := c.toNat
     let u := x.issued n 1
     let k := u.coreOf n
     let bank := k.bankAt k.ring
     let esw := bank.esw
     Meets s t c 1 3 (fun k => k.df = false ∧ esw.getLsbD 13 = true ∧ (esw.extractLsb' 14 2).toNat ≤ (esw.extractLsb' 11 2).toNat ∧ (k.bankAt k.ring).enest = 0)) ∧
    (let t : Nat := 0
     let c : CoreId := 0
     let s : State := (running { withD [] 0 with bank := [(0, { a := [(3, 0x40)] })] }).wrs (spadBase 0 + 0x40) [0x2000, 0x600, 0, 0]
     let x := s.to t
     let n := c.toNat
     let u := x.issued n 1
     let k := u.coreOf n
     Rd.came (u.load n k.ring false (k.ar 7).toNat 4) = true) ∧
    (let t : Nat := 0
     let c : CoreId := 0
     let s : State := running { withD [] 0 with bank := [(0, { esw := 0x6000, epc := 0x600 })] }
     let x := s.to t
     let n := c.toNat
     let u := x.issued n 1
     let k := u.coreOf n
     let bank := k.bankAt k.ring
     let esw := bank.esw
     x.Issues n 1 ∧ k.df = false ∧ esw.getLsbD 13 = true ∧
     (esw.extractLsb' 11 2).toNat < (esw.extractLsb' 14 2).toNat) := by
  unfold Meets State.Issues; refine ⟨?_, ?_, ?_, ?_, ?_⟩ <;> decide +kernel

theorem wit_SystemRegisters :
    (let t : Nat := 0
     let c : CoreId := 0
     let o : SysArg := ⟨0, 0, 0, 0x15, 0, 0⟩
     let s : State := anyRing (running (withD [] 0x1800))
     let x := s.to t
     let n := c.toNat
     let u := x.issued n 2
     let k := u.coreOf n
     let num := o.num.toNat
     let reg := (sysReg num).getD ⟨1, none, none⟩
     sysReserved o = false ∧ x.Issues n 2 ∧ ringRefused k.ring reg.read = true ∧
     ringRefused k.ring reg.write = true) ∧
    (let t : Nat := 0
     let c : CoreId := 0
     let o : SysArg := ⟨0, 0, 0, 0, 0, 0⟩
     let s : State := running (withD [5] 0)
     let x := s.to t
     let n := c.toNat
     let u := x.issued n 2
     let k := u.coreOf n
     let num := o.num.toNat
     let reg := (sysReg num).getD ⟨1, none, none⟩
     sysReserved o = false ∧ Meets s t c 2 3 (fun k => ringRefused k.ring reg.read = false) ∧ x.Issues n 2 ∧
     ringRefused k.ring reg.write = false ∧ (o.a = 1 ∨ reg.words = 1)) := by
  unfold Meets State.Issues; refine ⟨?_, ?_⟩ <;> decide +kernel

theorem wit_SystemGroup :
    (let t : Nat := 0
     let c : CoreId := 0
     let s : State := running { withD [] 0 with df := true }
     let x := s.to t
     let n := c.toNat
     let u := x.issued n 1
     let k := u.coreOf n
     let e := coreEng n
     let empty := fun (k : CoreSt) => k.wb = []
     Meets s t c 1 3 (fun _ => True) ∧ Meets s t c 1 3 empty ∧ Meets s t c 1 2 (fun _ => True) ∧
     Meets s t c 1 1 (fun _ => True) ∧ Meets s t c 1 1 (fun k => k.df = true) ∧ Meets s t c 1 0 empty ∧
     x.Issues n 1 ∧ (x.coreOf n).ring ≤ 1 ∧ k.wb = [] ∧ u.isSplit e = false) ∧
    (let t : Nat := 0
     let c : CoreId := 0
     let s : State := running (withD [] 0)
     let x := s.to t
     let n := c.toNat
     let u := x.issued n 1
     let k := u.coreOf n
     Meets s t c 1 1 (fun k => k.df = false)) ∧
    (let t : Nat := 0
     let c : CoreId := 0
     let s : State := running { withD [] 0 with wb := [⟨[(0x1000000, 5)], false⟩] }
     let x := s.to t
     let n := c.toNat
     let u := x.issued n 1
     let k := u.coreOf n
     x.Issues n 1 ∧ (x.coreOf n).ring = 0 ∧ k.wb ≠ []) := by
  unfold Meets State.Issues; refine ⟨?_, ?_, ?_⟩ <;> decide +kernel

theorem wit_SplitAndJoin :
    (let t : Nat := 0
     let c : CoreId := 0
     let s : State := running (withD [] 0)
     let x := s.to t
     let n := c.toNat
     let u := x.issued n 1
     let e := coreEng n
     let k := u.coreOf n
     Meets s t c 1 0 (fun k => k.wb = [] ∧ (u.isSplit e = true ∨ u.canSwitch e = false ∨ k.df = true)) ∧
     Meets s t c 1 0 (fun k => k.wb = [] ∧ (u.isSplit e = false ∨ coreIdx n = 1 ∨ u.canSwitch e = false ∨ k.df = true ∨ (u.coreOf (2 * e + 1)).runst = .halted))) ∧
    (let t : Nat := 0
     let c : CoreId := 0
     let s : State := liveIs (running (withD [] 0)) 1 0x32 0x100 2
     let x := s.to t
     let n := c.toNat
     let u := x.issued n 1
     let e := coreEng n
     let k := u.coreOf n
     x.Issues n 1 ∧ (x.coreOf n).ring = 0 ∧ k.wb = [] ∧ u.isSplit e = false ∧ u.canSwitch e = true ∧
     k.df = false ∧ n = 2 * e) ∧
    (let t : Nat := 0
     let c : CoreId := 0
     let s : State := (liveIs (running (withD [] 0)) 1 0x32 0x100 2).modEng 0 (fun e => { e with state := .split })
     let x := s.to t
     let n := c.toNat
     let u := x.issued n 1
     let e := coreEng n
     let k := u.coreOf n
     x.Issues n 1 ∧ (x.coreOf n).ring = 0 ∧ k.wb = [] ∧ u.isSplit e = true ∧ u.canSwitch e = true ∧
     k.df = false ∧ n = 2 * e ∧ (u.coreOf (n + 1)).runst ≠ .halted) := by
  unfold Meets State.Issues; refine ⟨?_, ?_, ?_⟩ <;> decide +kernel

theorem wit_BlockInstructions :
    (let t : Nat := 0
     let c : CoreId := 0
     let o : BlockArg := ⟨1, 1, 0, 0, 0, 4, 0, 0⟩
     let s : State := running (withD [] 0)
     let x := s.to t
     let i := c.toNat
     let u := x.issued i 2
     let k := u.coreOf i
     let done := fun (k : CoreSt) => k.dr o.dc.toNat = 0
     let fits := o.rsvHi = 0 ∧ o.rsvLo = 0
     fits ∧ o.raw = 0 ∧ o.poly = 0 ∧ o.as_ = 0 ∧ Meets s t c 2 3 done) ∧
    (let t : Nat := 0
     let c : CoreId := 0
     let o : BlockArg := ⟨1, 1, 0, 0, 0, 0, 0, 0⟩
     let s : State := running { withD [0, 1] 0 with a := [(0, 0x700), (1, 0x807)] }
     let x := s.to t
     let i := c.toNat
     let u := x.issued i 2
     let k := u.coreOf i
     let done := fun (k : CoreSt) => k.dr o.dc.toNat = 0
     let m := min (k.dr o.dc.toNat).toNat (8 - (k.ar o.ad.toNat).toNat % 8)
     let fits := o.rsvHi = 0 ∧ o.rsvLo = 0
     fits ∧ o.raw = 0 ∧ o.poly = 0 ∧ o.dx = 0 ∧ Meets s t c 2 3 (fun k => ¬done k) ∧ o.as_ = 0 ∧ x.Issues i 2 ∧
     0 < (k.dr o.dc.toNat).toNat ∧ (k.dr o.dc.toNat).toNat = m ∧ o.dx ≠ o.dc ∧
     u.elementExn i k.ring [] (wordsFrom (k.ar o.ad.toNat).toNat m) = none) ∧
    (let t : Nat := 0
     let c : CoreId := 0
     let o : BlockArg := ⟨1, 0, 1, 1, 0, 0, 0, 0⟩
     let s : State := running (withD [] 0)
     let x := s.to t
     let i := c.toNat
     let u := x.issued i 2
     let k := u.coreOf i
     let done := fun (k : CoreSt) => k.dr o.dc.toNat = 0
     let fits := o.rsvHi = 0 ∧ o.rsvLo = 0
     fits ∧ o.poly ≠ 3 ∧ o.ad = 0 ∧ o.dx.getLsbD 0 = false ∧ o.raw = 1 ∧ Meets s t c 2 3 done) ∧
    (let t : Nat := 0
     let c : CoreId := 0
     let o : BlockArg := ⟨1, 0, 1, 0, 0, 4, 0, 0⟩
     let s : State := running (withD [] 0)
     let x := s.to t
     let i := c.toNat
     let u := x.issued i 2
     let k := u.coreOf i
     let done := fun (k : CoreSt) => k.dr o.dc.toNat = 0
     let fits := o.rsvHi = 0 ∧ o.rsvLo = 0
     fits ∧ o.poly ≠ 3 ∧ o.ad = 0 ∧ o.dx.getLsbD 0 = false ∧ o.raw = 0 ∧ o.poly = 0 ∧ o.dc ≠ o.dx ∧
     o.dc.toNat ≠ o.dx.toNat + 1 ∧ Meets s t c 2 3 (fun k => done k ∧ k.flag 9 = false)) ∧
    (let t : Nat := 0
     let c : CoreId := 0
     let o : BlockArg := ⟨1, 0, 0, 0, 0, 0, 0, 0⟩
     let s : State := running (withD [] 0)
     let x := s.to t
     let i := c.toNat
     let u := x.issued i 2
     let k := u.coreOf i
     let done := fun (k : CoreSt) => k.dr o.dc.toNat = 0
     let fits := o.rsvHi = 0 ∧ o.rsvLo = 0
     fits ∧ o.raw = 0 ∧ o.poly = 0 ∧ o.dx = 0 ∧ Meets s t c 2 3 done) := by
  unfold Meets State.Issues; refine ⟨?_, ?_, ?_, ?_, ?_⟩ <;> decide +kernel

theorem wit_AsynchronousCauses :
    (let t : Nat := 0
     let c : CoreId := 0
     let s : State := { running { withD [] 0 with snCount := 1 } with dies := { State.reset.dies with enumEnd := some 0 } }
     let x := s.to t
     let n := c.toNat
     let k := x.coreOf n
     (k.flag 8 = false ∨ k.runst ≠ .wait)) ∧
    (let t : Nat := 0
     let c : CoreId := 0
     let s : State := { running { withD [] 0 with snCount := 1 } with dies := { State.reset.dies with enumEnd := some 0 } }
     let v : Nat := ((s.to t).asyncVec 0).getD 0
     let x := s.to t
     let n := c.toNat
     let k := x.coreOf n
     let g := x.engOf (coreEng n)
     let stands := x.coreLive n = true ∧ g.modeCmd = none ∧ (k.runst = .run ∨ k.runst = .wait) ∧ k.resumeAt ≤ x.now
     stands ∧ g.preSplit = none ∧ k.flag 8 = false ∧ x.held n = none ∧ x.asyncVec n = some v) ∧
    (let t : Nat := 0
     let c : CoreId := 0
     let s : State := { running { withD [] 0x100 with snCount := 1 } with dies := { State.reset.dies with enumEnd := some 0 } }
     let x := s.to t
     let n := c.toNat
     let k := x.coreOf n
     let g := x.engOf (coreEng n)
     let stands := x.coreLive n = true ∧ g.modeCmd = none ∧ (k.runst = .run ∨ k.runst = .wait) ∧ k.resumeAt ≤ x.now
     stands ∧ g.preSplit = none ∧ k.flag 8 = true ∧ k.runst = .run) ∧
    (let t : Nat := 0
     let c : CoreId := 0
     let es : List WbEntry := []
     let a : Nat := 0x017FFFF8
     let s : State := { running { withD [] 0 with wb := [⟨(wordsFrom 0x017FFFF8 8).map (fun a => (BitVec.ofNat 48 a, 7)), true⟩] } with dies := { State.reset.dies with enumEnd := some 0 } }
     let ws : List Word := List.replicate 8 7
     let x := s.to t
     let n := c.toNat
     let k := x.coreOf n
     let e : WbEntry := ⟨(wordsFrom a ws.length).zip ws |>.map (fun w => (BitVec.ofNat 48 w.1, w.2)), true⟩
     x.entryVec n = none ∧ k.wb = e :: es ∧ 0x01000000 ≤ a ∧ a / 8 = (a + ws.length - 1) / 8 ∧ ws.length = 8 ∧
     a + 8 ≤ 0x01800000 ∧ x.enumerated = true ∧ (x.die 1).fenced = false) ∧
    (let t : Nat := 0
     let c : CoreId := 0
     let s : State := { running { withD [] 0 with sel := some (11, 0) } with dies := { State.reset.dies with enumEnd := some 0 } }
     let v : Nat := 11
     let x := s.to t
     let n := c.toNat
     let k := x.coreOf n
     let g := x.engOf (coreEng n)
     let stands := x.coreLive n = true ∧ g.modeCmd = none ∧ (k.runst = .run ∨ k.runst = .wait) ∧ k.resumeAt ≤ x.now
     stands ∧ g.preSplit = none ∧ k.flag 8 = false ∧ x.held n = some v ∧ x.asyncPending n v = false) ∧
    (let t : Nat := 0
     let c : CoreId := 0
     let s : State := { running { withD [] 0 with snCount := 1 } with eng := [(0, { state := .split, preSplit := some { withD [] 0 with snCount := 1 }, splitAt := 30 })] }
     let v : Nat := 11
     let k0 : CoreSt := { withD [] 0 with snCount := 1 }
     let x := s.to t
     let n := c.toNat
     let g := x.engOf (coreEng n)
     coreIdx n = 0 ∧ g.state = .split ∧ g.preSplit = some k0 ∧ x.now + 13 < g.splitAt ∧ k0.flag 8 = false ∧
     x.asyncVec n = some v) ∧
    (let t : Nat := 0
     let c : CoreId := 0
     let s : State := { State.reset with core := [(0, { withD [] 0x100 with runst := .wait, snCount := 1 })] }
     let v : Nat := 11
     let x := s.to t
     let n := c.toNat
     let k := x.coreOf n
     let g := x.engOf (coreEng n)
     let stands := x.coreLive n = true ∧ g.modeCmd = none ∧ (k.runst = .run ∨ k.runst = .wait) ∧ k.resumeAt ≤ x.now
     stands ∧ g.preSplit = none ∧ k.flag 8 = true ∧ k.runst = .wait ∧ x.asyncVec n = some v) ∧
    (let t : Nat := 0
     let c : CoreId := 0
     let j : Nat := 0
     let s : State := liveIs (running (withD [] 0)) (coreDie 0) (coreBlk 0) (coreOff 0 + 0x10) 2
     let x := s.to t
     let n := c.toNat
     bits (x.intSel n j) 1 0 = 2) := by
  refine ⟨?_, ?_, ?_, ?_, ?_, ?_, ?_, ?_⟩ <;> decide +kernel

theorem wit_FrameClock :
    (let t : Nat := 0
     let s : State := liveIs { State.reset with lat := { State.reset.lat with running := true, openAt := 1000 } } 0 7 0 100
     let x := s.to t
     x.now < x.boundaryAt ∧ x.now < x.cutoffAt) ∧
    (let t : Nat := 0
     let s : State := State.reset
     let x := s.to t
     x.lat.running = false) ∧
    (let s : State := liveIs { State.reset with lat := { State.reset.lat with running := true, openAt := 1000 } } 0 7 0 100
     let t : Nat := 60000000
     let x := s.to t
     x.lat.running = true ∧ x.boundaryAt ≤ x.now ∧ x.lat.cutoff = false ∧ x.cutoffAt ≤ x.now) := by
  refine ⟨?_, ?_, ?_⟩ <;> decide +kernel

theorem wit_SlotClears :
    (let t : Nat := 0
     let c : ClearSt := { slot := 0, base := hbmBase, startedAt := 0, nextLine := 131056, failed := [] }
     let s : State := { State.reset with lat := { State.reset.lat with clear := some c } }
     let x := s.to t
     x.lat.clear = some c ∧ hbmBase ≤ c.base ∧ c.base + 0x400000 ≤ hbmBase + 0x200000000 ∧ c.base % 32 = 0 ∧
     x.dead 0 = false ∧ c.nextLine + 16 ≤ 131072 ∧ x.now < c.startedAt + 262144 * ck8) ∧
    (let t : Nat := 0
     let s : State := State.reset
     let x := s.to t
     x.lat.clear = none) ∧
    (let c : ClearSt := { slot := 0, base := hbmBase, startedAt := 0, nextLine := 131056, failed := [] }
     let s : State := { State.reset with lat := { State.reset.lat with clear := some c } }
     let t : Nat := 262144 * 8
     let x := s.to t
     x.lat.clear = some c ∧ hbmBase ≤ c.base ∧ c.base + 0x400000 ≤ hbmBase + 0x200000000 ∧ c.base % 32 = 0 ∧
     x.dead 0 = false ∧ c.startedAt + 262144 * ck8 ≤ x.now ∧ c.nextLine ≤ 131072 ∧ c.failed = [] ∧
     x.lat.clearOne = false) := by
  refine ⟨?_, ?_, ?_⟩ <;> decide +kernel

theorem wit_MotionSamples :
    (let t : Nat := 0
     let k : Nat := 0
     let d : Int := -5
     let s : State := liveIs { State.reset with integ := { State.reset.integ with dpsi := some d } } 0 0xA 0 2
     let x := s.to t
     let due := x.lat.openAt + k * sampleStepCk1 + publishCk1
     x.lat.running = false ∧ x.flagL 0 0x0A 0 1 = true ∧ x.integ.dpsi = some d ∧ x.flagL 0 0x0A 0 2 = false ∧
     x.now < due ∧ x.staleDue = false) ∧
    (let t : Nat := 0
     let s : State := liveIs (liveIs { State.reset with pos := { State.reset.pos with msPair := true } } 0 0xA 0 4) 0 0xA 2 1
     let x := s.to t
     x.lat.running = false ∧ x.flagL 0 0x0A 0 1 = false ∧ x.flagL 0 0x0A 0 2 = true ∧ x.pos.msPair = true ∧
     (x.live 0 0x0A 2) ≠ 0) ∧
    (let v : MotionSample := ⟨1, 2, 3, 4⟩
     let s : State := liveIs { State.reset with lat := { State.reset.lat with running := true, openAt := 1000, motCur := { State.reset.lat.motCur with formed := [(40, some v)] } } } 0 7 0 100
     let t : Nat := 60000000
     let k : Nat := 0
     let x := s.to t
     let due := x.lat.openAt + k * sampleStepCk1 + publishCk1
     x.lat.running = true ∧ due ≤ x.now ∧ x.lat.motCur.formed.get (dflt none) (k + 40) = some v ∧
     x.staleDue = true ∧ x.lat.motCur.staleReported = false) ∧
    (let s : State := liveIs { State.reset with lat := { State.reset.lat with running := true, openAt := 1000, motCur := { State.reset.lat.motCur with staleReported := true } } } 0 7 0 100
     let t : Nat := 60000000
     let x := s.to t
     x.staleDue = true ∧ x.lat.motCur.staleReported = true) := by
  refine ⟨?_, ?_, ?_, ?_⟩ <;> decide +kernel

theorem wit_SifterBatches :
    (let t : Nat := 0
     let n : Bool := false
     let f : Flit := flit8 false false [1, 2, 3, 4, 5, 6, 7, 8]
     let m : Nat := 0
     let s : State := liveIs (liveIs (liveIs { State.reset with queue := [(1, queue1 .lat (.sifter 0) 0 [flit8 false false [1, 2, 3, 4, 5, 6, 7, 8]]), (2, queue1 .lat (.sifter 0) 0 [flit8 false false [1, 2, 3, 4, 5, 6, 7, 8]])] } 0 6 0 0x1F) 0 6 4 0x0201) 0 6 5 0x0102
     let x := s.to t
     let i := sftNo n
     let k := x.sft i
     k.batch = none ∧ x.sftOn i = true ∧ x.nextInput i = some m ∧ x.head 0 (x.hdrQ i m) = some f ∧
     f.last = false ∧ (x.queueOf 0 (x.hdrQ i m)).consumer.isSome = true) ∧
    (let t : Nat := 0
     let n : Bool := false
     let s : State := State.reset
     let x := s.to t
     let i := sftNo n
     let k := x.sft i
     (k.batch.isSome = true ∨ x.sftOn i = false ∨ x.nextInput i = none)) ∧
    (let t : Nat := 0
     let n : Bool := false
     let f : Flit := flit8 false false [1, 2, 3, 4, 5, 6, 7, 8]
     let b : BatchSt := ⟨1, 2, 0, 0, 0, false⟩
     let s : State := { State.reset with sifter := [(0, { State.reset.sft 0 with batch := some b })], queue := [(0, queue1 .lat (.sifter 0) 0 [f])] }
     let x := s.to t
     let i := sftNo n
     let k := x.sft i
     k.batch = some b ∧ b.discard = false ∧ b.off = 0 ∧ b.taken + 1 < b.count ∧
     x.head 0 (x.ptQ i b.input.toNat) = some f ∧ f.poison = false ∧ f.words.length = 8) ∧
    (let t : Nat := 0
     let n : Bool := false
     let f : Flit := flit8 false false [1, 2, 3, 4, 5, 6, 7, 8]
     let b : BatchSt := ⟨1, 2, 0, 0, 0, true⟩
     let s : State := { State.reset with sifter := [(0, { State.reset.sft 0 with batch := some b })], queue := [(0, queue1 .lat (.sifter 0) 0 [f])] }
     let x := s.to t
     let i := sftNo n
     let k := x.sft i
     k.batch = some b ∧ b.discard = true ∧ x.head 0 (x.ptQ i b.input.toNat) = some f ∧
     (x.queueOf 0 (x.ptQ i b.input.toNat)).consumer.isSome = true) := by
  refine ⟨?_, ?_, ?_, ?_⟩ <;> decide +kernel

theorem wit_ColumnMerge :
    (let c : Nat := 15
     let b : Nat := 7
     c < 16 ∧ b < 8) := by
  decide +kernel

theorem wit_VoteRules :
    (let vs : List Vote := [⟨.stop, 0⟩, ⟨.stop, 0⟩, ⟨.go, 0⟩]
     let count := fun v => (vs.filter (fun x => x.verdict == v)).length
     2 ≤ count .stop ∧ 1 ≤ count .stop) ∧
    (let vs : List Vote := [⟨.stop, 0⟩, ⟨.go, 0⟩, ⟨.go, 0⟩]
     let count := fun v => (vs.filter (fun x => x.verdict == v)).length
     count .stop < 2 ∧ 2 ≤ count .go) ∧
    (let vs : List Vote := [⟨.limit, 5⟩, ⟨.limit, 1⟩, ⟨.go, 0⟩]
     let n : Nat := 1
     let count := fun v => (vs.filter (fun x => x.verdict == v)).length
     count .stop < 2 ∧ count .go < 2 ∧ 2 ≤ count .limit ∧ count .stop = 0 ∧ 1 ≤ n ∧ n ≤ vs.length ∧
     1 ≤ count .limit ∧ (lowCap vs).toNat = 1) ∧
    (let vs : List Vote := [⟨.stop, 0⟩, ⟨.limit, 1⟩, ⟨.go, 0⟩]
     let count := fun v => (vs.filter (fun x => x.verdict == v)).length
     count .stop < 2 ∧ count .go < 2 ∧ count .limit < 2 ∧ 3 ≤ vs.length) ∧
    (let vs : List Vote := [⟨.stop, 0⟩, ⟨.go, 0⟩]
     let count := fun v => (vs.filter (fun x => x.verdict == v)).length
     count .stop < 2 ∧ count .go < 2 ∧ count .limit < 2 ∧ vs.length < 3) ∧
    (let vs : List Vote := [⟨.go, 0⟩]
     let n : Nat := 1
     let count := fun v => (vs.filter (fun x => x.verdict == v)).length
     count .stop = 0 ∧ 1 ≤ n ∧ n ≤ vs.length ∧ count .limit = 0) ∧
    (let vs : List Vote := [⟨.limit, 1⟩]
     (∀ x ∈ vs, x.verdict = .limit → 1 ≤ x.cap.toNat) ∧ (∀ x ∈ vs, x.verdict = .limit)) ∧
    (let vs : List Vote := []
     let n : Nat := 1
     let count := fun v => (vs.filter (fun x => x.verdict == v)).length
     count .stop = 0 ∧ vs.length < n) := by
  refine ⟨?_, ?_, ?_, ?_, ?_, ?_, ?_, ?_⟩ <;> decide +kernel

theorem wit_GateEdges :
    (let t : Nat := 0
     let s : State := State.reset
     let x := s.to t
     let pair := x.vdg.veto.settle x.now
     (x.vdg.pending = false ∨ x.cfg.state.supervising = false ∨ x.now < x.deadlineAt) ∧
     (∀ n < min x.nProd 3, x.head 0 (x.prodQueue n) = none) ∧ x.vdg.pending = false ∧
     (pair.toggling = false ∨ x.now < pair.changedAt + 7500 * ck4) ∧ x.now < pair.changedAt + 12 * ck4) ∧
    (let s : State := liveIs (liveIs { State.reset with cfg := { State.reset.cfg with state := .run }, vdg := { State.reset.vdg with pending := true } } 0 8 0 2) 0 8 2 60
     let t : Nat := 60000000
     let x := s.to t
     let pair := x.vdg.veto.settle x.now
     x.vdg.pending = true ∧ x.cfg.state.supervising = true ∧ x.deadlineAt ≤ x.now ∧
     (∀ n < min x.nProd 3, x.head 0 (x.prodQueue n) = none) ∧ evaluate x.majority x.nProd x.votes = none ∧
     pair.changedAt + 12 * ck4 ≤ x.now) ∧
    (let t : Nat := 0
     let v : Vote := ⟨.go, 0⟩
     let f : Flit := flit8 true false [0x5644, v.verdict.code, v.cap, ~~~ v.verdict.code, 0, 0, 9, 3]
     let s : State := liveIs (liveIs (liveIs { State.reset with cfg := { State.reset.cfg with state := .run }, vdg := { State.reset.vdg with pending := true, sealedOnce := true }, queue := [(3, queue1 (.core 18) .vdg 0 [f])] } 0 8 0 2) 0 8 2 60) 0 8 4 0x0309
     let x := s.to t
     let q := x.prodQueue 0
     x.vdg.pending = true ∧ x.vdg.sealedOnce = true ∧ x.cfg.state.supervising = true ∧ x.majority = false ∧
     x.nProd = 1 ∧ x.head 0 q = some f ∧ f.poison = false ∧ (x.queueOf 0 q).consumer.isSome = true ∧
     (x.engOf (x.prodEngine 0)).state ≠ .fenced ∧ flitVote (x.prodEngine 0) f.words = some v ∧
     f.words.getD 5 0 ++ f.words.getD 4 0 = x.vdg.fn ∧ x.now ≤ x.deadlineAt ∧ (x.prodOf 0).madeStop = false ∧
     (x.prodOf 0).first = none) ∧
    (let s : State := { State.reset with vdg := { State.reset.vdg with veto := { State.reset.vdg.veto with toggling := true, changedAt := 0 } } }
     let t : Nat := 7500 * ck4
     let x := s.to t
     let pair := x.vdg.veto.settle x.now
     pair.toggling = true ∧ pair.changedAt + 7500 * ck4 ≤ x.now) := by
  refine ⟨?_, ?_, ?_, ?_⟩ <;> decide +kernel

theorem wit_TimeBase :
    (let t : Nat := 0
     let s : State := { State.reset with time := { State.reset.time with tq := .locked } }
     let x := s.to t
     (x.time.tq ≠ .locked ∨ x.now < x.time.syncAt + 10 * secCk1) ∧ x.time.tq ≠ .holdover) ∧
    (let s : State := { State.reset with time := { State.reset.time with tq := .locked } }
     let t : Nat := 10 * secCk1
     let x := s.to t
     x.time.tq = .locked ∧ x.time.syncAt + 10 * secCk1 ≤ x.now) ∧
    (let t : Nat := 0
     let s : State := { State.reset with time := { State.reset.time with tq := .holdover, hoAcc := 10000000 * 2 ^ 32 } }
     let x := s.to t
     x.time.tq = .holdover ∧
     10000000 * 2 ^ 32 ≤ x.time.hoAcc + x.time.step * ((x.now - x.clk.marker) / ck8 - x.time.tick)) := by
  refine ⟨?_, ?_, ?_⟩ <;> decide +kernel

theorem wit_PositionAndPack :
    (let t : Nat := 0
     let s : State := State.reset
     let f : FixInput := ⟨0, 0, 0, 0, 0, 0, none, false⟩
     let x := s.to t
     x.flagL 0 0x0A 0 2 = false ∧ (f.sol = none ∨ x.flagL 0 0x0A 0 0 = false) ∧ x.lat.pack.state ≠ .running) ∧
    (let t : Nat := 0
     let s : State := liveIs State.reset 0 0xA 0 4
     let x := s.to t
     x.flagL 0 0x0A 0 2 = true) ∧
    (let t : Nat := 0
     let s : State := { State.reset with lat := { State.reset.lat with pack := { State.reset.lat.pack with state := .running } } }
     let x := s.to t
     x.lat.pack.state = .running ∧ x.pLen = 0) ∧
    (let t : Nat := 0
     let s : State := liveIs State.reset 0 0xA 0 1
     let g : GnssSol := ⟨true, 0, 0, 0, 0, 0, 0⟩
     let f : FixInput := ⟨0, 0, 0, 0, 0, 0, some g, false⟩
     let x := s.to t
     f.sol = some g ∧ x.flagL 0 0x0A 0 0 = true) := by
  refine ⟨?_, ?_, ?_, ?_⟩ <;> decide +kernel

theorem wit_LedgerUnit :
    (let t : Nat := 0
     let r : RecordIn := ⟨10, 0, [7]⟩
     let up := { State.reset with boot := { State.reset.boot with phase := .firmware } }
     let s : State := up
     let x := s.to t
     1 ≤ r.type.toNat ∧ r.type ≠ 8 ∧ r.type.toNat ≤ 0x0A ∧ r.type ≠ 5 ∧ x.ldg.frozen = false ∧
     x.ldg.closing = false ∧ x.ldg.pending.length < 256 ∧
     (x.ldg.pending = [] ∨ x.ldg.writing.isSome = true ∨ x.ldg.sign.isSome = true) ∧
     (x.now < x.ldg.chainedAt + 640 * ck4 ∨ x.ldg.writing = none) ∧
     (x.ldg.batch = [] ∨ x.now < x.ldg.signAt + 375000000 * ck8 ∨ x.ldg.sign.isSome = true) ∧
     x.ldg.sign = none ∧ x.ldg.toArchive = []) ∧
    (let r : RecordIn := ⟨8, 0, []⟩
     (r.type.toNat = 0 ∨ r.type = 8 ∨ 0x0A < r.type.toNat)) ∧
    (let t : Nat := 0
     let r : RecordIn := ⟨1, 0, []⟩
     let ldg := State.reset.ldg
     let up := { State.reset with boot := { State.reset.boot with phase := .firmware } }
     let s : State := { up with ldg := { ldg with frozen := true } }
     let x := s.to t
     1 ≤ r.type.toNat ∧ r.type ≠ 8 ∧ r.type.toNat ≤ 0x0A ∧ r.type ≠ 5 ∧ x.ldg.frozen = true) ∧
    (let t : Nat := 0
     let r : RecordIn := ⟨10, 0, [7]⟩
     let p : PendRec := ⟨1, 0, 0, 0, 0, [5], 0⟩
     let ldg := State.reset.ldg
     let up := { State.reset with boot := { State.reset.boot with phase := .firmware } }
     let s : State := { up with ldg := { ldg with pending := List.replicate 256 p } }
     let x := s.to t
     1 ≤ r.type.toNat ∧ r.type ≠ 8 ∧ r.type.toNat ≤ 0x0A ∧ r.type ≠ 5 ∧ x.ldg.frozen = false ∧
     x.ldg.closing = false ∧ 256 ≤ x.ldg.pending.length) ∧
    (let t : Nat := 0
     let ps : List PendRec := []
     let p : PendRec := ⟨1, 0, 0, 0, 0, [5], 0⟩
     let ldg := State.reset.ldg
     let up := { State.reset with boot := { State.reset.boot with phase := .firmware } }
     let s : State := { up with ldg := { ldg with pending := [p] } }
     let x := s.to t
     x.ldg.pending = p :: ps ∧ x.now < p.handedAt + 160 * ck4) ∧
    (let ps : List PendRec := []
     let p : PendRec := ⟨1, 0, 0, 0, 0, [5], 0⟩
     let ldg := State.reset.ldg
     let up := { State.reset with boot := { State.reset.boot with phase := .firmware } }
     let s : State := { up with ldg := { ldg with pending := [p] } }
     let t : Nat := 160 * ck4
     let x := s.to t
     x.ldg.pending = p :: ps ∧ x.ldg.writing = none ∧ x.ldg.sign = none ∧ x.ldg.closing = false ∧
     x.boot.phase = .firmware ∧ p.handedAt + 160 * ck4 ≤ x.now ∧ x.flagL 0 0x09 0 0 = false) ∧
    (let ldg := State.reset.ldg
     let up := { State.reset with boot := { State.reset.boot with phase := .firmware } }
     let s : State := { up with ldg := { ldg with writing := some [3, 4] } }
     let t : Nat := 640 * ck4
     let x := s.to t
     x.ldg.chainedAt + 640 * ck4 ≤ x.now ∧ x.ldg.writing.isSome = true ∧ x.nvGone = false) ∧
    (let ldg := State.reset.ldg
     let up := { State.reset with boot := { State.reset.boot with phase := .firmware } }
     let s : State := { up with ldg := { ldg with batch := [[1, 2, 3]] } }
     let t : Nat := 375000000 * ck8
     let x := s.to t
     x.ldg.batch ≠ [] ∧ x.ldg.signAt + 375000000 * ck8 ≤ x.now ∧ x.ldg.sign = none ∧ x.ldg.writing = none ∧
     x.ldg.closing = false) ∧
    (let t : Nat := 0
     let g : SignSt := ⟨List.replicate 32 0, 0, 0⟩
     let ldg := State.reset.ldg
     let up := { State.reset with boot := { State.reset.boot with phase := .firmware } }
     let s : State := { up with ldg := { ldg with sign := some g } }
     let x := s.to t
     x.ldg.sign = some g ∧ x.now < g.startedAt + 1200000 * ck4) ∧
    (let g : SignSt := ⟨List.replicate 32 0, 0, 0⟩
     let ldg := State.reset.ldg
     let up := { State.reset with boot := { State.reset.boot with phase := .firmware } }
     let s : State := { up with ldg := { ldg with sign := some g } }
     let t : Nat := 1200000 * ck4
     let x := s.to t
     x.ldg.sign = some g ∧ g.startedAt + 1200000 * ck4 ≤ x.now ∧ g.words.length = 32 ∧
     x.flagL 0 0x09 0 0 = false ∧ x.cus.keyOk = false) ∧
    (let t : Nat := 0
     let es : List ArchEntry := []
     let e : ArchEntry := ⟨[List.replicate 64 0x105], List.replicate 64 0x104, []⟩
     let ok : Bool := true
     let ldg := State.reset.ldg
     let up := { State.reset with boot := { State.reset.boot with phase := .firmware } }
     let s : State := liveIs { up with ldg := { ldg with toArchive := [e] } } 0 9 0xD 400
     let x := s.to t
     x.ldg.toArchive = e :: es ∧ ok = true ∧ x.nvGone = false ∧ e.words ≤ x.liveN 0 0x09 0xD 2) ∧
    (let t : Nat := 0
     let es : List ArchEntry := []
     let e : ArchEntry := ⟨[List.replicate 64 0x105], List.replicate 64 0x104, []⟩
     let ok : Bool := false
     let ldg := State.reset.ldg
     let up := { State.reset with boot := { State.reset.boot with phase := .firmware } }
     let s : State := { up with ldg := { ldg with toArchive := [e] } }
     let x := s.to t
     x.ldg.toArchive = e :: es ∧ ok = false) ∧
    (let ldg := State.reset.ldg
     let up := { State.reset with boot := { State.reset.boot with phase := .firmware } }
     let s : State := { up with ldg := { ldg with writing := some (List.replicate 64 0) } }
     let w : List Word := List.replicate 64 0
     let t : Nat := 640 * ck4
     let x := s.to t
     x.ldg.chainedAt + 640 * ck4 ≤ x.now ∧ x.ldg.writing = some w ∧ w.length = 64 ∧ x.nvGone = false) ∧
    (let ldg := State.reset.ldg
     let up := { State.reset with boot := { State.reset.boot with phase := .firmware } }
     let s : State := { up with ldg := { ldg with writing := some (List.replicate 64 0) }, dies := { State.reset.dies with enumEnd := some 0 } }
     let w : List Word := List.replicate 64 0
     let t : Nat := 640 * ck4
     let x := s.to t
     x.ldg.chainedAt + 640 * ck4 ≤ x.now ∧ x.ldg.writing = some w ∧ x.nvGone = true) ∧
    (let t : Nat := 0
     let es : List ArchEntry := []
     let e : ArchEntry := ⟨[List.replicate 64 0x105], List.replicate 64 0x104, []⟩
     let ok : Bool := true
     let ldg := State.reset.ldg
     let up := { State.reset with boot := { State.reset.boot with phase := .firmware } }
     let s : State := { up with ldg := { ldg with toArchive := [e] } }
     let x := s.to t
     x.ldg.toArchive = e :: es ∧ ok = true ∧ x.nvGone = false ∧ x.liveN 0 0x09 0xD 2 < e.words) := by
  refine ⟨?_, ?_, ?_, ?_, ?_, ?_, ?_, ?_, ?_, ?_, ?_, ?_, ?_, ?_, ?_⟩ <;> decide +kernel

theorem wit_HbmControllers :
    (let t : Nat := 0
     let n : BitVec 1 := 0
     let req : BitVec 9 := 0
     let celsius : Int := 0
     let pc : Nat := 0
     let r : HbmReq := ⟨0, 0x010000000020, false, [], .none, true, 0⟩
     let s : State := State.reset
     let x := s.to t
     let addr := r.addr.toNat
     hbmStackOf addr = some n.toNat ∧ r.write = false ∧
     (x.serveAt n.toNat (laneOf addr) r.req.toNat false).isSome = true ∧
     x.serveAt n.toNat (laneOf addr) r.req.toNat false = some pc ∧ x.mergeOf n.toNat req.toNat = none ∧
     x.dead n.toNat = false ∧ ((x.stackOf n.toNat).tempOut = true ∨ (-55 ≤ celsius ∧ celsius ≤ 125)) ∧
     (x.hbm.switchDue = false ∨ x.now < edgeUp x (512 * ck4) (x.boot.commitAt.getD 0)) ∧ x.boot.stage ≠ 2) ∧
    (let t : Nat := 0
     let r : HbmReq := ⟨0, 0x5, false, [], .none, true, 0⟩
     let s : State := State.reset
     let n : BitVec 1 := 1
     let celsius : Int := 126
     let x := s.to t
     let addr := r.addr.toNat
     hbmStackOf addr ≠ some n.toNat ∧ (x.stackOf n.toNat).tempOut = false ∧ (125 < celsius ∨ celsius < -55)) ∧
    (let n : BitVec 1 := 0
     let r : HbmReq := ⟨0, 0x010000000020, true, List.replicate 32 1, .none, true, 0⟩
     let s : State := State.reset
     let t : Nat := 400
     let x := s.to t
     let addr := r.addr.toNat
     hbmStackOf addr = some n.toNat ∧ r.write = true ∧ r.words.length = 32 ∧ addr % 32 = 0 ∧
     x.dead n.toNat = false ∧ (x.serveAt n.toNat (laneOf addr) r.req.toNat true).isSome = true) ∧
    (let n : BitVec 1 := 0
     let r : HbmReq := ⟨0, 0x01000000003E, true, [1, 2], .none, true, 0⟩
     let s : State := State.reset
     let t : Nat := 400
     let pc : Nat := (((s.to t)).serveAt n.toNat (laneOf r.addr.toNat) r.req.toNat false).getD 0
     let x := s.to t
     let addr := r.addr.toNat
     let base := addr / 32 * 32
     hbmStackOf addr = some n.toNat ∧ r.write = true ∧ r.words ≠ [] ∧ r.words.length < 32 ∧
     addr % 32 + r.words.length ≤ 32 ∧ x.serveAt n.toNat (laneOf addr) r.req.toNat false = some pc ∧
     x.dead n.toNat = false ∧ x.classAt (base / 8) = .none ∧ x.classAt (base / 8 + 1) = .none ∧
     x.classAt (base / 8 + 2) = .none ∧ x.classAt (base / 8 + 3) = .none ∧ r.cls = .none) ∧
    (let n : BitVec 1 := 0
     let req : BitVec 9 := 0
     let m : MergeSt := ⟨0, 0x010000000020, [1, 2], 0⟩
     let s : State := { State.reset with hbm := { State.reset.hbm with merge := [m], stack0 := { State.reset.hbm.stack0 with tempOut := true } } }
     let t : Nat := 400
     let pc : Nat := ((s.to t).firstSlot n.toNat (laneOf m.addr.toNat) req.toNat true (m.readPos + 83)).getD 0
     let x := s.to t
     x.mergeOf n.toNat req.toNat = some m ∧ x.dead n.toNat = false ∧
     x.firstSlot n.toNat (laneOf m.addr.toNat) req.toNat true (m.readPos + 83) = some pc ∧ pc ≤ x.posAt x.now) ∧
    (let t : Nat := 0
     let n : BitVec 1 := 0
     let s : State := { State.reset with hbm := { State.reset.hbm with switchDue := true, stack0 := { State.reset.hbm.stack0 with dead := true } }, boot := { State.reset.boot with stage := 2 } }
     let x := s.to t
     x.dead n.toNat = true ∧ x.hbm.switchDue = true ∧ edgeUp x (512 * ck4) (x.boot.commitAt.getD 0) ≤ x.now ∧
     x.boot.stage = 2) ∧
    (let t : Nat := 0
     let n : BitVec 1 := 0
     let r : HbmReq := ⟨0, 0x010000000020, false, [], .none, true, 0⟩
     let s : State := { State.reset with hbm := { State.reset.hbm with table := true } }
     let x := s.to t
     let addr := r.addr.toNat
     r.write = false ∧ x.serveAt n.toNat (laneOf addr) r.req.toNat false = none) ∧
    (let t : Nat := 0
     let n : BitVec 1 := 0
     let req : BitVec 9 := 0
     let m : MergeSt := ⟨0, 0x010000000020, [1, 2], 0⟩
     let s : State := { State.reset with hbm := { State.reset.hbm with merge := [m] } }
     let pc : Nat := ((s.to t).firstSlot n.toNat (laneOf m.addr.toNat) req.toNat true (m.readPos + 83)).getD 0
     let x := s.to t
     x.mergeOf n.toNat req.toNat = some m ∧
     x.firstSlot n.toNat (laneOf m.addr.toNat) req.toNat true (m.readPos + 83) = some pc ∧ x.posAt x.now < pc) := by
  refine ⟨?_, ?_, ?_, ?_, ?_, ?_, ?_, ?_⟩ <;> decide +kernel

theorem wit_Scrubbers :
    (let t : Nat := 0
     let n : BitVec 1 := 0
     let k : CoreId := 2
     let d : DieAddr := 4
     let s : State := State.reset
     let x := s.to t
     let st := x.stackOf n.toNat
     let lane := st.scrLine.toNat % 16
     (x.scrubOn n.toNat = false ∨ x.serveAt n.toNat lane 0x104 false = none) ∧ st.fix = [] ∧
     isCompute d.toNat = true ∧ x.pool.fix.get (dflt []) d.toNat = [] ∧
     (∀ w ∈ x.pool.spadFix, spadCore (8 * w) ≠ some k.toNat)) ∧
    (let d : DieAddr := 7
     isCompute d.toNat = false) ∧
    (let t : Nat := 0
     let cws : List Nat := []
     let n : BitVec 1 := 0
     let fs : List ScrubFix := []
     let f : ScrubFix := ⟨7, 0⟩
     let cw : Nat := spadBase 2 / 8
     let k : CoreId := 2
     let d : DieAddr := 4
     let s : State := { liveIs State.reset 0 5 0 3 with hbm := { State.reset.hbm with stack0 := { State.reset.hbm.stack0 with scrLine := 0x17, fix := [f] } }, pool := { State.reset.pool with fix := [(4, [cw])], spadFix := [cw] } }
     let x := s.to t
     let st := x.stackOf n.toNat
     let lane := st.scrLine.toNat % 16
     x.scrubOn n.toNat = true ∧ st.fix = f :: fs ∧ f.line % 16 = lane ∧
     x.firstSlot n.toNat (f.line % 16) 0x104 true (f.readAt + 83) = none ∧ isCompute d.toNat = true ∧
     x.pool.fix.get (dflt []) d.toNat = cw :: cws ∧ bit x.injt 15 = false ∧ x.pool.spadFix.head? = some cw ∧
     spadCore (8 * cw) = some k.toNat) ∧
    (let t : Nat := 0
     let n : BitVec 1 := 0
     let s : State := { liveIs State.reset 0 5 0 3 with hbm := { State.reset.hbm with table := true, slots := [(16 * 3 + 15, 0x504)], stack0 := { State.reset.hbm.stack0 with scrLine := 0xFFFFFFF } } }
     let x := s.to t
     let st := x.stackOf n.toNat
     let lane := st.scrLine.toNat % 16
     x.scrubOn n.toNat = true ∧ st.fix = [] ∧ (x.serveAt n.toNat lane 0x104 false).isSome = true) ∧
    (let t : Nat := 0
     let n : BitVec 1 := 0
     let fs : List ScrubFix := []
     let f : ScrubFix := ⟨7, 0⟩
     let s : State := { State.reset with hbm := { State.reset.hbm with table := true, slots := [(16 * 90 + 7, 0x704)], stack0 := { State.reset.hbm.stack0 with fix := [f] } } }
     let pc : Nat := 90
     let x := s.to t
     let st := x.stackOf n.toNat
     st.fix = f :: fs ∧ x.firstSlot n.toNat (f.line % 16) 0x104 true (f.readAt + 83) = some pc ∧
     x.posAt x.now < pc) ∧
    (let n : BitVec 1 := 0
     let fs : List ScrubFix := []
     let f : ScrubFix := ⟨7, 0⟩
     let s : State := { State.reset with hbm := { State.reset.hbm with table := true, slots := [(16 * 90 + 7, 0x704)], stack0 := { State.reset.hbm.stack0 with fix := [f] } } }
     let pc : Nat := 90
     let t : Nat := 90 * ck4
     let x := s.to t
     let st := x.stackOf n.toNat
     st.fix = f :: fs ∧ x.firstSlot n.toNat (f.line % 16) 0x104 true (f.readAt + 83) = some pc ∧
     pc ≤ x.posAt x.now ∧ x.dead n.toNat = false ∧ bit x.injt 15 = false ∧ f.line < 2 ^ 28) := by
  refine ⟨?_, ?_, ?_, ?_, ?_, ?_⟩ <;> decide +kernel

theorem wit_EngineLockstep :
    (let t : Nat := 0
     let e : EngId := 127
     let comp : BitVec 4 := 8
     let cause : Nat := 3
     let test := fun (g : EngSt) => (({ State.reset with core := [(254, { runst := .run, resumeAt := 0 })] }).modEng 127 (fun _ => g)).setReg (engDie 127) 0x32 0 1
     let s : State := test { state := .locked }
     let x := s.to t
     let n := e.toNat
     let g := x.engOf n
     let k := x.coreOf (2 * n)
     let tested := x.flag (engDie n) 0x32 0 0 = true ∨ (x.die (engDie n)).lksTest = none
     let fire := comp ||| x.injComp n
     x.compArmed n = true ∧ tested ∧ cause < 4 ∧ fire.getLsbD cause = true ∧
     (∀ i < cause, fire.getLsbD i = false) ∧
     (x.now < g.windowAt + 64 ∨ x.compArmed n = false ∨ k.runst = .halted) ∧
     (g.state ≠ .selftest ∨ x.now < g.mismAt + 24592) ∧ (g.state ≠ .handover ∨ g.joinAt = none) ∧
     g.modeCmd = none) ∧
    (let t : Nat := 0
     let e : EngId := 127
     let comp : BitVec 4 := 0
     let test := fun (g : EngSt) => (({ State.reset with core := [(254, { runst := .run, resumeAt := 0 })] }).modEng 127 (fun _ => g)).setReg (engDie 127) 0x32 0 1
     let s : State := test { state := .locked }
     let x := s.to t
     let n := e.toNat
     let tested := x.flag (engDie n) 0x32 0 0 = true ∨ (x.die (engDie n)).lksTest = none
     let fire := comp ||| x.injComp n
     x.compArmed n = true ∧ tested ∧ fire = 0) ∧
    (let e : EngId := 127
     let test := fun (g : EngSt) => (({ State.reset with core := [(254, { runst := .run, resumeAt := 0 })] }).modEng 127 (fun _ => g)).setReg (engDie 127) 0x32 0 1
     let s : State := liveIs (test { state := .locked }) (engDie 127) 0x32 0 1
     let t : Nat := 64
     let x := s.to t
     let n := e.toNat
     let g := x.engOf n
     let k := x.coreOf (2 * n)
     x.compArmed n = true ∧ k.runst ≠ .halted ∧ g.windowAt + 64 ≤ x.now ∧ x.lksArmed n 2 = false) ∧
    (let t : Nat := 0
     let e : EngId := 127
     let test := fun (g : EngSt) => (({ State.reset with core := [(254, { runst := .run, resumeAt := 0 })] }).modEng 127 (fun _ => g)).setReg (engDie 127) 0x32 0 1
     let s : State := test { state := .split }
     let x := s.to t
     let n := e.toNat
     let tested := x.flag (engDie n) 0x32 0 0 = true ∨ (x.die (engDie n)).lksTest = none
     x.compArmed n = false ∧ tested) ∧
    (let t : Nat := 0
     let e : EngId := 127
     let test := fun (g : EngSt) => (({ State.reset with core := [(254, { runst := .run, resumeAt := 0 })] }).modEng 127 (fun _ => g)).setReg (engDie 127) 0x32 0 1
     let s : State := (test { state := .locked }).modDie (engDie 127) (fun d => { d with lksTest := some 4 })
     let x := s.to t
     let n := e.toNat
     x.flag (engDie n) 0x32 0 0 = true) ∧
    (let t : Nat := 0
     let e : EngId := 127
     let comp : BitVec 4 := 8
     let s : State := (State.reset).modDie (engDie 127) (fun d => { d with lksTest := some 4 })
     let x := s.to t
     let n := e.toNat
     let tested := x.flag (engDie n) 0x32 0 0 = true ∨ (x.die (engDie n)).lksTest = none
     ¬ tested ∧ comp ≠ 0) ∧
    (let e : EngId := 127
     let ck : CoreSt := { pc := 0x400, runst := .run }
     let test := fun (g : EngSt) => (({ State.reset with core := [(254, { runst := .run, resumeAt := 0 })] }).modEng 127 (fun _ => g)).setReg (engDie 127) 0x32 0 1
     let s : State := test { state := .selftest, ckpt := some ck, ckValid := true }
     let t : Nat := selftestCk1
     let pm : Bool := true
     let pk : Bool := true
     let x := s.to t
     let n := e.toNat
     let g := x.engOf n
     let okM := pm && !x.scanBad (2 * n)
     let okK := pk && !x.scanBad (2 * n + 1)
     g.state = .selftest ∧ g.mismAt + 24592 ≤ x.now ∧ g.ckpt = some ck ∧ g.ckValid = true ∧ (okM && okK) = true) ∧
    (let e : EngId := 127
     let test := fun (g : EngSt) => (({ State.reset with core := [(254, { runst := .run, resumeAt := 0 })] }).modEng 127 (fun _ => g)).setReg (engDie 127) 0x32 0 1
     let s : State := test { state := .selftest, ckpt := none, ckValid := false }
     let t : Nat := selftestCk1
     let pm : Bool := true
     let pk : Bool := true
     let x := s.to t
     let n := e.toNat
     let g := x.engOf n
     let okM := pm && !x.scanBad (2 * n)
     let okK := pk && !x.scanBad (2 * n + 1)
     g.state = .selftest ∧ g.mismAt + 24592 ≤ x.now ∧ ((okM && okK) = false ∨ g.ckValid = false)) ∧
    (let e : EngId := 127
     let test := fun (g : EngSt) => (({ State.reset with core := [(254, { runst := .run, resumeAt := 0 })] }).modEng 127 (fun _ => g)).setReg (engDie 127) 0x32 0 1
     let s : State := test { state := .handover, joinAt := some 0 }
     let t0 : Nat := 0
     let t : Nat := 4096
     let x := s.to t
     let n := e.toNat
     let g := x.engOf n
     g.joinAt = some t0 ∧ x.now < t0 + 4097) ∧
    (let e : EngId := 127
     let test := fun (g : EngSt) => (({ State.reset with core := [(254, { runst := .run, resumeAt := 0 })] }).modEng 127 (fun _ => g)).setReg (engDie 127) 0x32 0 1
     let s : State := test { state := .handover, joinAt := some 0 }
     let t0 : Nat := 0
     let t : Nat := 4097
     let x := s.to t
     let n := e.toNat
     let g := x.engOf n
     g.state = .handover ∧ g.joinAt = some t0 ∧ t0 + 4097 ≤ x.now) ∧
    (let t : Nat := 0
     let e : EngId := 127
     let m : ModeCmd := ⟨true⟩
     let test := fun (g : EngSt) => (({ State.reset with core := [(254, { runst := .run, resumeAt := 0 })] }).modEng 127 (fun _ => g)).setReg (engDie 127) 0x32 0 1
     let s : State := (test { state := .locked, modeCmd := some m }).modCore 254 (fun k => { k with wb := [⟨[(0x1000000, 5)], false⟩] })
     let x := s.to t
     let n := e.toNat
     let g := x.engOf n
     let k := x.coreOf (2 * n)
     g.modeCmd = some m ∧ g.state ≠ .fenced ∧ (k.wb ≠ [] ∨ (x.coreOf (2 * n + 1)).wb ≠ [])) ∧
    (let t : Nat := 0
     let e : EngId := 127
     let m : ModeCmd := ⟨true⟩
     let test := fun (g : EngSt) => (({ State.reset with core := [(254, { runst := .run, resumeAt := 0 })] }).modEng 127 (fun _ => g)).setReg (engDie 127) 0x32 0 1
     let s : State := test { state := .locked, modeCmd := some m }
     let x := s.to t
     let n := e.toNat
     let g := x.engOf n
     let k := x.coreOf (2 * n)
     g.modeCmd = some m ∧ g.state ≠ .fenced ∧ k.wb = [] ∧ (x.coreOf (2 * n + 1)).wb = []) ∧
    (let e : EngId := 127
     let test := fun (g : EngSt) => (({ State.reset with core := [(254, { runst := .run, resumeAt := 0 })] }).modEng 127 (fun _ => g)).setReg (engDie 127) 0x32 0 1
     let s : State := liveIs (test { state := .locked }) (engDie 127) 0x32 0 1
     let t : Nat := 64
     let pm : Bool := true
     let x := s.to t
     let n := e.toNat
     let g := x.engOf n
     let k := x.coreOf (2 * n)
     x.compArmed n = true ∧ k.runst ≠ .halted ∧ g.windowAt + 64 ≤ x.now ∧ (pm = true ∨ x.lksArmed n 2 = true)) ∧
    (let t : Nat := 0
     let e : EngId := 127
     let m : ModeCmd := ⟨true⟩
     let test := fun (g : EngSt) => (({ State.reset with core := [(254, { runst := .run, resumeAt := 0 })] }).modEng 127 (fun _ => g)).setReg (engDie 127) 0x32 0 1
     let s : State := test { state := .fenced, modeCmd := some m }
     let x := s.to t
     let n := e.toNat
     let g := x.engOf n
     g.modeCmd = some m ∧ g.state = .fenced) ∧
    (let t : Nat := 0
     let e : EngId := 127
     let comp : BitVec 4 := 0
     let s : State := (State.reset).modDie (engDie 127) (fun d => { d with lksTest := some 4 })
     let x := s.to t
     let n := e.toNat
     let tested := x.flag (engDie n) 0x32 0 0 = true ∨ (x.die (engDie n)).lksTest = none
     ¬ tested ∧ comp = 0) := by
  refine ⟨?_, ?_, ?_, ?_, ?_, ?_, ?_, ?_, ?_, ?_, ?_, ?_, ?_, ?_, ?_⟩ <;> decide +kernel

theorem wit_TestsAndVotes :
    (let t : Nat := 0
     let d : DieAddr := 4
     let s : State := (State.reset).modDie 4 (fun e => { e with present := true })
     let copies : BitVec 3 := 4
     let c : BitVec 2 := 2
     let x := s.to t
     let v := x.trf
     let k := c.toNat
     let startable := isCompute d.toNat = true ∧ (x.die d.toNat).present = true ∧ (x.die d.toNat).fenced = false ∧
      (x.die d.toNat).lksTest = none ∧ x.flag d.toNat 0x32 0 0 = false ∧
      (List.range 32).all (fun i => (x.coreOf (2 * engAt d.toNat i)).runst == .reset) = true
     startable ∧ (x.die d.toNat).lksTest = none ∧ v.stopped = false ∧ v.inVote = 7 ∧ k < 3 ∧
     copies = BitVec.ofNat 3 (2 ^ k) ∧
     (v.stopped = true ∨ v.resync.getLsbD k = false ∨ x.now < v.outAt k + 1024 * ck4) ∧
     (v.stopped = true ∨ v.resync.getLsbD k = false ∨ v.passed.getLsbD k = false ∨ x.now < v.outAt k + 4096 * ck4)) ∧
    (let t : Nat := 0
     let d : DieAddr := 5
     let s : State := (State.reset).modDie 4 (fun e => { e with present := true })
     let x := s.to t
     let startable := isCompute d.toNat = true ∧ (x.die d.toNat).present = true ∧ (x.die d.toNat).fenced = false ∧
      (x.die d.toNat).lksTest = none ∧ x.flag d.toNat 0x32 0 0 = false ∧
      (List.range 32).all (fun i => (x.coreOf (2 * engAt d.toNat i)).runst == .reset) = true
     ¬ startable) ∧
    (let t : Nat := 0
     let d : DieAddr := 4
     let s : State := (State.reset).modDie 4 (fun e => { e with present := true, lksTest := some 0 })
     let t0 : Nat := 0
     let x := s.to t
     (x.die d.toNat).lksTest = some t0 ∧ (x.flag d.toNat 0x32 0 0 = true ∨ x.now < t0 + lksTestCk1)) ∧
    (let d : DieAddr := 4
     let s : State := (State.reset).modDie 4 (fun e => { e with present := true, lksTest := some 0 })
     let t0 : Nat := 0
     let t : Nat := lksTestCk1
     let x := s.to t
     (x.die d.toNat).lksTest = some t0 ∧ x.flag d.toNat 0x32 0 0 = false ∧ (x.die d.toNat).fenced = false ∧
     t0 + lksTestCk1 ≤ x.now ∧ isCompute d.toNat = true) ∧
    (let t : Nat := 0
     let s : State := (State.reset).modDie 4 (fun e => { e with present := true })
     let copies : BitVec 3 := 7
     let x := s.to t
     let v := x.trf
     v.stopped = false ∧ copies &&& v.inVote ≠ 0 ∧
     (v.inVote ≠ 7 ∨ copies = 3 ∨ copies = 5 ∨ copies = 6 ∨ copies = 7)) ∧
    (let t : Nat := 0
     let s : State := { State.reset with trf := { State.reset.trf with inVote := 3, resync := 4, passed := 4 } }
     let copies : BitVec 3 := 4
     let x := s.to t
     let v := x.trf
     (v.stopped = true ∨ copies &&& v.inVote = 0)) ∧
    (let s : State := { State.reset with trf := { State.reset.trf with inVote := 3, resync := 4, passed := 4 } }
     let c : BitVec 2 := 2
     let t : Nat := 4096 * ck4
     let x := s.to t
     let v := x.trf
     let k := c.toNat
     v.stopped = false ∧ v.resync.getLsbD k = true ∧ v.outAt k + 1024 * ck4 ≤ x.now ∧
     v.passed.getLsbD k = true ∧ v.outAt k + 4096 * ck4 ≤ x.now) := by
  refine ⟨?_, ?_, ?_, ?_, ?_, ?_, ?_⟩ <;> decide +kernel

theorem wit_DiesAndLinks :
    (let t : Nat := 0
     let lock : Bool := false
     let ref : BitVec 8 := 0
     let ck : BitVec 8 := 0
     let d : DieAddr := 7
     let l : BitVec 3 := 0
     let s : State := State.reset
     let x := s.to t
     let n := d.toNat
     let y0 := x.die n
     (x.dies.enumAt = none ∨ x.dies.enumEnd.isSome = true ∨ d = 0) ∧
     (x.dies.enumAt = none ∨ x.dies.enumEnd.isSome = true) ∧
     (y0.present = false ∨ x.dies.enumEnd = none ∨ d = 0) ∧
     (linkPeer n l.toNat = none ∨ x.dies.enumEnd = none ∨ (x.link n l.toNat).up = true) ∧ x.clk.markers = 0 ∧
     (ref.toNat < 112 ∨ 144 < ref.toNat ∨ ck.toNat < 105 ∨ 135 < ck.toNat ∨ lock = true) ∧
     (x.clk.monDead = true ∨ x.now < x.clk.lastWindow + 1024 * ck8) ∧ x.clk.oscPulse = none) ∧
    (let t : Nat := 0
     let d : DieAddr := 7
     let dies := State.reset.dies
     let up := { State.reset with dies := { dies with enumAt := some 0 } }
     let s : State := up
     let t0 : Nat := 0
     let x := s.to t
     x.dies.enumAt = some t0 ∧ x.dies.enumEnd = none ∧ x.now < t0 + 40 * usCk1 ∧ d ≠ 0) ∧
    (let dies := State.reset.dies
     let up := { State.reset with dies := { dies with enumAt := some 0 } }
     let s : State := up
     let t0 : Nat := 0
     let t : Nat := 40 * usCk1
     let x := s.to t
     x.dies.enumAt = some t0 ∧ x.dies.enumEnd = none ∧ t0 + 40 * usCk1 ≤ x.now ∧ x.clk.monDead = false ∧
     x.clk.lastWindow + 1024 * ck8 ≤ x.now) ∧
    (let d : DieAddr := 4
     let l : BitVec 3 := 0
     let s : State := { ((State.reset).modDie 4 (fun e => { e with present := true, hbJudged := 1 })) with dies := { ((State.reset).modDie 4 (fun e => { e with present := true, hbJudged := 1 })).dies with enumAt := some 0, enumEnd := some 0 } }
     let t0 : Nat := 0
     let t : Nat := 256 * ck8
     let ref : BitVec 8 := 112
     let ck : BitVec 8 := 135
     let x := s.to t
     let n := d.toNat
     let y0 := x.die n
     y0.present = true ∧ x.dies.enumEnd.isSome = true ∧ d ≠ 0 ∧ x.dies.enumEnd = some t0 ∧
     t0 + y0.hbJudged * (256 * ck8) ≤ x.now ∧ (linkPeer n l.toNat).isSome = true ∧
     (x.link n l.toNat).up = false ∧ 112 ≤ ref.toNat ∧ ref.toNat ≤ 144 ∧ 105 ≤ ck.toNat ∧ ck.toNat ≤ 135) ∧
    (let d : DieAddr := 0
     d = 0) ∧
    (let t : Nat := 0
     let d : DieAddr := 1
     let s : State := (State.reset).modLink 0 ((linkPeer 1 0).getD (0, 0)).2 (fun x => { x with up := true })
     let x := s.to t
     let n := d.toNat
     d ≠ 0 ∧ (linkPeer n 0).isSome = true ∧ (x.link 0 ((linkPeer n 0).getD (0, 0)).2).up = true) ∧
    (let t : Nat := 0
     let s : State := { State.reset with clk := { State.reset.clk with markers := 1 } }
     let x := s.to t
     x.clk.markers ≠ 0 ∧ x.now < x.clk.marker + x.clk.markers * (4096 * ck8)) ∧
    (let s : State := { State.reset with clk := { State.reset.clk with markers := 1 } }
     let t : Nat := 4096 * ck8
     let x := s.to t
     x.clk.markers ≠ 0 ∧ x.clk.marker + x.clk.markers * (4096 * ck8) ≤ x.now) ∧
    (let t : Nat := 0
     let s : State := { State.reset with clk := { State.reset.clk with oscPulse := some 0 } }
     let t0 : Nat := 0
     let x := s.to t
     x.clk.oscPulse = some t0 ∧ x.now < t0 + oscPulseCk1) ∧
    (let s : State := { State.reset with clk := { State.reset.clk with oscPulse := some 0 } }
     let t0 : Nat := 0
     let t : Nat := oscPulseCk1
     let x := s.to t
     x.clk.oscPulse = some t0 ∧ t0 + oscPulseCk1 ≤ x.now) := by
  refine ⟨?_, ?_, ?_, ?_, ?_, ?_, ?_, ?_, ?_, ?_⟩ <;> decide +kernel

theorem wit_LoadsAndChecks :
    (let t : Nat := 0
     let s : State := State.reset
     let x := s.to t
     x.cfg.job = none) ∧
    (let t : Nat := 0
     let j : CfgJob := ⟨true, false, true, 0, false⟩
     let s : State := { State.reset with cfg := { State.reset.cfg with job := some j } }
     let x := s.to t
     x.cfg.job = some j ∧ j.loading = true) ∧
    (let t : Nat := 0
     let j : CfgJob := ⟨false, false, true, 0, false⟩
     let s : State := { State.reset with cfg := { State.reset.cfg with job := some j } }
     let x := s.to t
     x.cfg.job = some j ∧ j.loading = false) := by
  refine ⟨?_, ?_, ?_⟩ <;> decide +kernel

theorem wit_PowerAndResets :
    (let t : Nat := 0
     let at_ := fun (p : Phase) (porst : Bool) => { State.reset with boot := { State.reset.boot with phase := p, porst := porst } }
     let s : State := at_ .off false
     let since : Nat := 5
     let x := s.to t
     let b := x.boot
     let plain := fun (p : Phase) => p = .rom ∨ p = .firmware ∨ p = .recovery ∨ p = .halted
     b.phase = .off ∧ b.porst = false ∧ b.podOk = false ∧
     (plain b.phase ∨ b.phase = .off ∨ b.phase = .held ∨ b.phase = .starting since) ∧ b.phase ≠ .held) ∧
    (let t : Nat := 0
     let at_ := fun (p : Phase) (porst : Bool) => { State.reset with boot := { State.reset.boot with phase := p, porst := porst } }
     let s : State := at_ .off true
     let x := s.to t
     let b := x.boot
     (b.phase ≠ .off ∨ b.porst = true)) ∧
    (let t : Nat := 0
     let s : State := { State.reset with boot := { State.reset.boot with podOk := true } }
     let x := s.to t
     let b := x.boot
     b.podOk = true) ∧
    (let t : Nat := 0
     let at_ := fun (p : Phase) (porst : Bool) => { State.reset with boot := { State.reset.boot with phase := p, porst := porst } }
     let s : State := at_ .held true
     let since : Nat := 5
     let x := s.to t
     let b := x.boot
     b.porst = true ∧ (b.phase = .held ∨ b.phase = .starting since) ∧ b.phase = .held) ∧
    (let t : Nat := 0
     let at_ := fun (p : Phase) (porst : Bool) => { State.reset with boot := { State.reset.boot with phase := p, porst := porst } }
     let s : State := at_ (.starting 5) true
     let since : Nat := 5
     let x := s.to t
     let b := x.boot
     b.phase = .starting since) ∧
    (let t : Nat := 0
     let at_ := fun (p : Phase) (porst : Bool) => { State.reset with boot := { State.reset.boot with phase := p, porst := porst } }
     let s : State := at_ .halted true
     let x := s.to t
     let b := x.boot
     let plain := fun (p : Phase) => p = .rom ∨ p = .firmware ∨ p = .recovery ∨ p = .halted
     b.porst = true ∧ plain b.phase) ∧
    (let t : Nat := 0
     let at_ := fun (p : Phase) (porst : Bool) => { State.reset with boot := { State.reset.boot with phase := p, porst := porst } }
     let s : State := at_ (.flush .l5 5) true
     let kind : ResetKind := .l5
     let since : Nat := 5
     let good : Bool := true
     let x := s.to t
     let b := x.boot
     b.porst = true ∧ b.phase = .flush kind since ∧ good = true ∧ kind ≠ .powerOn ∧
     (kind = .powerOn ∨ x.cus.seq = none)) ∧
    (let t : Nat := 0
     let at_ := fun (p : Phase) (porst : Bool) => { State.reset with boot := { State.reset.boot with phase := p, porst := porst } }
     let s : State := at_ (.flush .powerOn 5) true
     let since : Nat := 5
     let x := s.to t
     let b := x.boot
     b.phase = .flush .powerOn since ∧ x.now < since + 1200 * usCk1) ∧
    (let at_ := fun (p : Phase) (porst : Bool) => { State.reset with boot := { State.reset.boot with phase := p, porst := porst } }
     let s : State := at_ (.flush .powerOn 5) true
     let since : Nat := 5
     let t : Nat := 1200 * usCk1 + 5
     let x := s.to t
     let b := x.boot
     b.phase = .flush .powerOn since ∧ since + 1200 * usCk1 ≤ x.now) ∧
    (let t : Nat := 0
     let at_ := fun (p : Phase) (porst : Bool) => { State.reset with boot := { State.reset.boot with phase := p, porst := porst } }
     let s : State := { at_ (.flush .l5 5) true with cus := { State.reset.cus with seq := some ⟨5, none⟩ } }
     let kind : ResetKind := .l5
     let since : Nat := 5
     let x := s.to t
     let b := x.boot
     b.phase = .flush kind since ∧ kind ≠ .powerOn ∧ x.cus.seq.isSome = true) := by
  refine ⟨?_, ?_, ?_, ?_, ?_, ?_, ?_, ?_, ?_, ?_⟩ <;> decide +kernel

theorem wit_StartUp :
    (let t : Nat := 0
     let k : BitVec 2 := 0
     let since : Nat := 0
     let s : State := State.reset
     let x := s.to t
     let b := x.boot
     let placeable := b.phase = .firmware ∧ b.stage = 2 ∧ b.hbmDone = true ∧ x.stackFailed = false ∧ b.placed = false ∧
      x.trf.stopped = false
     b.phase ≠ .starting since ∧ (b.phase = .firmware ∨ b.phase = .off) ∧
     (b.phase.up = false ∨ x.now < b.trifleAt + msCk1) ∧
     (b.phase ≠ .rom ∨ x.dies.enumEnd = none ∨ x.trf.stopped = true) ∧ ¬ placeable ∧
     (b.commitAt = none ∨ x.cfg.state.operates = false ∨ b.phase ≠ .firmware ∨ k.toNat = 2) ∧
     (b.upd.state ≠ 1 ∨ b.upd.toErase = [])) ∧
    (let t : Nat := 0
     let since : Nat := 0
     let boot := { State.reset.boot with phase := .firmware, stage := 2, hbmDone := true }
     let s : State := { State.reset with boot := { boot with phase := .starting 0, trifleDue := 7 } }
     let x := s.to t
     let b := x.boot
     b.phase = .starting since ∧ x.now < b.trifleDue) ∧
    (let since : Nat := 0
     let boot := { State.reset.boot with phase := .firmware, stage := 2, hbmDone := true }
     let s : State := { State.reset with boot := { boot with phase := .starting 0, trifleDue := 7 } }
     let t : Nat := 7
     let x := s.to t
     let b := x.boot
     b.phase = .starting since ∧ b.trifleDue ≤ x.now) ∧
    (let boot := { State.reset.boot with phase := .firmware, stage := 2, hbmDone := true }
     let s : State := { State.reset with boot := { boot with phase := .rom, trifleAt := 0 } }
     let t : Nat := msCk1
     let x := s.to t
     let b := x.boot
     b.phase.up = true ∧ b.trifleAt + msCk1 ≤ x.now) ∧
    (let t : Nat := 0
     let boot := { State.reset.boot with phase := .firmware, stage := 2, hbmDone := true }
     let s : State := { State.reset with boot := { boot with phase := .rom, trifleAt := 0 }, dies := { State.reset.dies with enumEnd := some 0 } }
     let x := s.to t
     let b := x.boot
     b.phase = .rom ∧ x.dies.enumEnd.isSome = true ∧ x.trf.stopped = false) ∧
    (let t : Nat := 0
     let boot := { State.reset.boot with phase := .firmware, stage := 2, hbmDone := true }
     let s : State := ({ State.reset with boot := boot }).modDie 7 (fun d => { d with present := true })
     let x := s.to t
     let b := x.boot
     let slot := (x.bootKind 0).slot
     let placeable := b.phase = .firmware ∧ b.stage = 2 ∧ b.hbmDone = true ∧ x.stackFailed = false ∧ b.placed = false ∧
      x.trf.stopped = false
     placeable ∧ x.modulesOk slot = false ∧ x.nvGone = false) ∧
    (let t : Nat := 0
     let boot := { State.reset.boot with phase := .firmware, stage := 2, hbmDone := true }
     let s : State := (({ State.reset with boot := boot }).modDie 7 (fun d => { d with present := true })).wr (slotWord 0 false + 3) 1
     let x := s.to t
     let b := x.boot
     let slot := (x.bootKind 0).slot
     let placeable := b.phase = .firmware ∧ b.stage = 2 ∧ b.hbmDone = true ∧ x.stackFailed = false ∧ b.placed = false ∧
      x.trf.stopped = false
     placeable ∧ x.modulesOk slot = true) ∧
    (let t : Nat := 0
     let since : Nat := 0
     let boot := { State.reset.boot with phase := .firmware, stage := 2, hbmDone := true }
     let s : State := { State.reset with boot := { boot with commitAt := some 0 }, cfg := { State.reset.cfg with state := .run } }
     let x := s.to t
     let b := x.boot
     b.commitAt = some since ∧ x.now < since + 60 * secCk1) ∧
    (let k : BitVec 2 := 0
     let since : Nat := 0
     let boot := { State.reset.boot with phase := .firmware, stage := 2, hbmDone := true }
     let s : State := (({ State.reset with boot := { boot with commitAt := some 0, slotCommitted := true }, cfg := { State.reset.cfg with state := .run } }).setSlotRec 0 false { state := slotTrial }).modDie 7 (fun d => { d with present := true })
     let t : Nat := 60 * secCk1
     let x := s.to t
     let b := x.boot
     let slot := (x.bootKind 0).slot
     b.commitAt = some since ∧ b.phase = .firmware ∧ x.cfg.state.operates = true ∧
     since + 60 * secCk1 ≤ x.now ∧ x.nvGone = false ∧ k = 0 ∧ (x.slotRec 0 slot).state = slotTrial) ∧
    (let since : Nat := 0
     let boot := { State.reset.boot with phase := .firmware, stage := 2, hbmDone := true }
     let s : State := (({ State.reset with boot := { boot with commitAt := some 0, slotCommitted := true }, cfg := { State.reset.cfg with state := .degraded, stagedSlot := true } }).setSlotRec 1 true { state := slotTrial }).modDie 7 (fun d => { d with present := true })
     let t : Nat := 60 * secCk1
     let k : BitVec 2 := 1
     let x := s.to t
     let b := x.boot
     b.commitAt = some since ∧ b.phase = .firmware ∧ x.cfg.state.operates = true ∧
     since + 60 * secCk1 ≤ x.now ∧ x.nvGone = false ∧ k = 1 ∧ b.slotCommitted = true ∧
     (x.slotRec 1 x.cfg.stagedSlot).state = slotTrial) ∧
    (let t : Nat := 0
     let sec : Nat := flashBase / 65536
     let boot := { State.reset.boot with phase := .firmware, stage := 2, hbmDone := true }
     let s : State := { State.reset with boot := { boot with upd := { boot.upd with state := 1, toErase := [sec] } } }
     let rest : List Nat := []
     let x := s.to t
     let b := x.boot
     b.upd.state = 1 ∧ b.upd.toErase = sec :: rest) := by
  refine ⟨?_, ?_, ?_, ?_, ?_, ?_, ?_, ?_, ?_, ?_, ?_⟩ <;> decide +kernel

theorem wit_ManagementCommands :
    (let t : Nat := 0
     let up := { State.reset with boot := { State.reset.boot with phase := .firmware } }
     let s : State := up
     let q : MgmtReq := ⟨.mspi, 77, []⟩
     let port : MgmtPort := .mspi
     let cmd : Word := 0x99
     let x := s.to t
     let up := x.boot.phase = .firmware ∧ x.trf.stopped = false
     let idle := x.cfg.running = none ∧ x.cfg.job = none
     x.mgmtServed port = true ∧ x.cfg.cmdErr ≠ 0xFFFF ∧ up ∧ mgmtCommands.contains cmd = false ∧ idle ∧
     q.args = []) ∧
    (let t : Nat := 0
     let s : State := State.reset
     let q : MgmtReq := ⟨.mspi, 77, []⟩
     let port : MgmtPort := .mspi
     let x := s.to t
     x.mgmtServed q.port = false ∧ x.mgmtServed port = false) ∧
    (let t : Nat := 0
     let up := { State.reset with boot := { State.reset.boot with phase := .firmware } }
     let s : State := { up with cfg := { up.cfg with cmdErr := 0xFFFE } }
     let q : MgmtReq := ⟨.eth true 15, 77, [1]⟩
     let x := s.to t
     let up := x.boot.phase = .firmware ∧ x.trf.stopped = false
     up ∧ q.args ≠ []) ∧
    (let t : Nat := 0
     let up := { State.reset with boot := { State.reset.boot with phase := .firmware } }
     let s : State := { up with cfg := { up.cfg with running := some ⟨.mspi, 5, 6⟩ } }
     let q : MgmtReq := ⟨.mspi, 77, []⟩
     let x := s.to t
     let up := x.boot.phase = .firmware ∧ x.trf.stopped = false
     let idle := x.cfg.running = none ∧ x.cfg.job = none
     up ∧ q.args = [] ∧ ¬ idle) ∧
    (let t : Nat := 0
     let up := { State.reset with boot := { State.reset.boot with phase := .firmware } }
     let s : State := { up with cfg := { up.cfg with state := .loaded, staged := true } }
     let q : MgmtReq := ⟨.mspi, 77, 1 :: List.replicate 32 0⟩
     let x := s.to t
     let up := x.boot.phase = .firmware ∧ x.trf.stopped = false
     let idle := x.cfg.running = none ∧ x.cfg.job = none
     up ∧ idle ∧ q.args.length = 33 ∧ reqArg q 0 ≤ 1 ∧ x.cfg.state.open = true ∧ x.life ≠ 3) ∧
    (let t : Nat := 0
     let up := { State.reset with boot := { State.reset.boot with phase := .firmware } }
     let s : State := { up with cfg := { up.cfg with state := .safe } }
     let q : MgmtReq := ⟨.mspi, 77, 1 :: List.replicate 32 0⟩
     let x := s.to t
     let up := x.boot.phase = .firmware ∧ x.trf.stopped = false
     let idle := x.cfg.running = none ∧ x.cfg.job = none
     up ∧ idle ∧ q.args.length = 33 ∧ reqArg q 0 ≤ 1 ∧ x.cfg.state.open = false) ∧
    (let t : Nat := 0
     let up := { State.reset with boot := { State.reset.boot with phase := .firmware } }
     let s : State := { up with cfg := { up.cfg with state := .loaded, staged := true } }
     let q : MgmtReq := ⟨.mspi, 77, List.replicate 32 0⟩
     let x := s.to t
     let up := x.boot.phase = .firmware ∧ x.trf.stopped = false
     let idle := x.cfg.running = none ∧ x.cfg.job = none
     up ∧ idle ∧ q.args.length = 32 ∧ x.cfg.state = .loaded ∧ x.cfg.staged = true ∧ x.life ≠ 3 ∧
     x.stackFailed = false) ∧
    (let t : Nat := 0
     let up := { State.reset with boot := { State.reset.boot with phase := .firmware } }
     let s : State := { up with cfg := { up.cfg with state := .run }, pos := { up.pos with spValid := true, speed := 0 } }
     let q : MgmtReq := ⟨.mspi, 77, List.replicate 32 0⟩
     let x := s.to t
     let up := x.boot.phase = .firmware ∧ x.trf.stopped = false
     let idle := x.cfg.running = none ∧ x.cfg.job = none
     up ∧ idle ∧ q.args.length = 32 ∧ x.cfg.state = .run ∧ x.moving = false) ∧
    (let t : Nat := 0
     let up := { State.reset with boot := { State.reset.boot with phase := .firmware } }
     let on := { up with cfg := { up.cfg with state := .run }, core := [(2, { runst := .run }), (3, { runst := .run })] }
     let s : State := liveIs (liveIs on 1 1 1 0xFF) 1 0x32 0x110 2
     let q : MgmtReq := ⟨.mspi, 77, 1 :: List.replicate 32 0⟩
     let x := s.to t
     let up := x.boot.phase = .firmware ∧ x.trf.stopped = false
     let idle := x.cfg.running = none ∧ x.cfg.job = none
     up ∧ idle ∧ q.args.length = 33 ∧ reqArg q 0 < 128 ∧ x.gatedEng (reqArg q 0) = false ∧
     x.canSwitch (reqArg q 0) = true ∧ x.modeNotNow (reqArg q 0) true = false) ∧
    (let t : Nat := 0
     let up := { State.reset with boot := { State.reset.boot with phase := .firmware } }
     let on := { up with cfg := { up.cfg with state := .run }, core := [(2, { runst := .run }), (3, { runst := .run })] }
     let s : State := (liveIs (liveIs on 1 1 1 0xFF) 1 0x32 0x110 2).modEng 1 (fun e => { e with state := .split })
     let q : MgmtReq := ⟨.mspi, 77, 1 :: List.replicate 32 0⟩
     let x := s.to t
     let up := x.boot.phase = .firmware ∧ x.trf.stopped = false
     let idle := x.cfg.running = none ∧ x.cfg.job = none
     up ∧ idle ∧ q.args.length = 33 ∧ reqArg q 0 < 128 ∧ x.gatedEng (reqArg q 0) = false ∧
     x.canSwitch (reqArg q 0) = true ∧ x.modeNotNow (reqArg q 0) false = false) ∧
    (let t : Nat := 0
     let up := { State.reset with boot := { State.reset.boot with phase := .firmware } }
     let s : State := { (up.modDie 7 (fun d => { d with fenced := true })) with bbx := { up.bbx with ready := true } }
     let q : MgmtReq := ⟨.mspi, 77, [0, 0, 16]⟩
     let x := s.to t
     let up := x.boot.phase = .firmware ∧ x.trf.stopped = false
     let idle := x.cfg.running = none ∧ x.cfg.job = none
     let tin := x.tinFrom (reqArg32 q 0) (reqArg q 2)
     up ∧ idle ∧ q.args.length = 3 ∧ 1 ≤ reqArg q 2 ∧ reqArg q 2 ≤ 16 ∧ x.bbx.ready = true ∧ tin = []) ∧
    (let t : Nat := 0
     let up := { State.reset with boot := { State.reset.boot with phase := .firmware } }
     let s : State := { up with bbx := { up.bbx with ready := true } }
     let q : MgmtReq := ⟨.mspi, 77, [639, 1]⟩
     let x := s.to t
     let up := x.boot.phase = .firmware ∧ x.trf.stopped = false
     let idle := x.cfg.running = none ∧ x.cfg.job = none
     up ∧ idle ∧ q.args.length = 2 ∧ 1 ≤ reqArg q 1 ∧ reqArg q 0 + reqArg q 1 ≤ 640 ∧ x.bbx.ready = true) ∧
    (let t : Nat := 0
     let up := { State.reset with boot := { State.reset.boot with phase := .firmware } }
     let s : State := { up with cfg := { up.cfg with cmdErr := 0xFFFF } }
     let port : MgmtPort := .mspi
     let x := s.to t
     x.mgmtServed port = true ∧ x.cfg.cmdErr = 0xFFFF) := by
  refine ⟨?_, ?_, ?_, ?_, ?_, ?_, ?_, ?_, ?_, ?_, ?_, ?_, ?_⟩ <;> decide +kernel

theorem wit_CustodyCommands :
    (let t : Nat := 0
     let up := { State.reset with boot := { State.reset.boot with phase := .firmware }, cus := { State.reset.cus with keyOk := true, zeroed := true, owner := some (List.replicate 32 8) } }
     let s : State := up
     let q : MgmtReq := ⟨.mspi, 77, []⟩
     let x := s.to t
     let up := x.boot.phase = .firmware ∧ x.trf.stopped = false ∧ x.cfg.running = none ∧ x.cfg.job = none
     up ∧ q.args = [] ∧ q.args.length ≠ 1) ∧
    (let t : Nat := 0
     let up := { State.reset with boot := { State.reset.boot with phase := .firmware }, cus := { State.reset.cus with keyOk := true, zeroed := true, owner := some (List.replicate 32 8) } }
     let s : State := up
     let q : MgmtReq := ⟨.mspi, 77, [3]⟩
     let x := s.to t
     let up := x.boot.phase = .firmware ∧ x.trf.stopped = false ∧ x.cfg.running = none ∧ x.cfg.job = none
     up ∧ q.args.length = 1 ∧ reqArg q 0 ≤ 3) ∧
    (let t : Nat := 0
     let up := { State.reset with boot := { State.reset.boot with phase := .firmware }, cus := { State.reset.cus with keyOk := true, zeroed := true, owner := some (List.replicate 32 8) } }
     let s : State := up
     let q : MgmtReq := ⟨.mspi, 77, 0 :: 15 :: List.replicate 160 9⟩
     let x := s.to t
     let up := x.boot.phase = .firmware ∧ x.trf.stopped = false ∧ x.cfg.running = none ∧ x.cfg.job = none
     let sane := signerBad q = false
     up ∧ q.args.length = 162 ∧ sane ∧ reqArg q 1 < 16 ∧ x.life = 0 ∧ x.noRoot = true) ∧
    (let t : Nat := 0
     let up := { State.reset with boot := { State.reset.boot with phase := .firmware }, cus := { State.reset.cus with keyOk := true, zeroed := true, owner := some (List.replicate 32 8) } }
     let s : State := up
     let q : MgmtReq := ⟨.mspi, 77, List.replicate 76 6⟩
     let x := s.to t
     let up := x.boot.phase = .firmware ∧ x.trf.stopped = false ∧ x.cfg.running = none ∧ x.cfg.job = none
     up ∧ q.args.length = 76 ∧ x.emptyCert.isSome = true ∧ x.life ≠ 3 ∧ x.cus.keyOk = true) ∧
    (let t : Nat := 0
     let up := { State.reset with boot := { State.reset.boot with phase := .firmware }, cus := { State.reset.cus with keyOk := true, zeroed := true, owner := some (List.replicate 32 8) } }
     let s : State := up
     let q : MgmtReq := ⟨.mspi, 77, 0 :: List.replicate 64 8⟩
     let x := s.to t
     let up := x.boot.phase = .firmware ∧ x.trf.stopped = false ∧ x.cfg.running = none ∧ x.cfg.job = none
     let sane := signerBad q = false
     up ∧ q.args.length = 65 ∧ sane ∧ x.life ≠ 3) ∧
    (let t : Nat := 0
     let up := { State.reset with boot := { State.reset.boot with phase := .firmware }, cus := { State.reset.cus with keyOk := true, zeroed := true, owner := some (List.replicate 32 8) } }
     let s : State := (up.wrs (otpBase + 0x50) (List.replicate 33 7)).wrs (otpBase + 0x400) (List.replicate 76 5)
     let q : MgmtReq := ⟨.mspi, 77, 0 :: List.replicate 32 8⟩
     let x := s.to t
     let up := x.boot.phase = .firmware ∧ x.trf.stopped = false ∧ x.cfg.running = none ∧ x.cfg.job = none
     let sane := signerBad q = false
     up ∧ q.args.length = 33 ∧ sane ∧ x.life = 0 ∧ [0, 1, 2, 3].any x.rootValid = true ∧
     [0, 1, 2, 3].any x.certWritten = true ∧ x.cus.owner.isSome = true) ∧
    (let t : Nat := 0
     let up := { State.reset with boot := { State.reset.boot with phase := .firmware }, cus := { State.reset.cus with keyOk := true, zeroed := true, owner := some (List.replicate 32 8) } }
     let s : State := ({ up with cfg := { up.cfg with state := .loaded } }).wr (otpBase + 1) 1
     let q : MgmtReq := ⟨.mspi, 77, 1 :: List.replicate 32 8⟩
     let x := s.to t
     let up := x.boot.phase = .firmware ∧ x.trf.stopped = false ∧ x.cfg.running = none ∧ x.cfg.job = none
     let sane := signerBad q = false
     up ∧ q.args.length = 33 ∧ sane ∧ x.life = 1 ∧ x.cfg.state.open = true ∧ x.inService = true ∧
     x.cus.zeroed = true) ∧
    (let t : Nat := 0
     let up := { State.reset with boot := { State.reset.boot with phase := .firmware }, cus := { State.reset.cus with keyOk := true, zeroed := true, owner := some (List.replicate 32 8) } }
     let s : State := { up.wr (otpBase + 1) 1 with pos := { up.pos with spValid := true, speed := 0 } }
     let q : MgmtReq := ⟨.mspi, 77, [1, 0x8000, 0] ++ List.replicate 32 8⟩
     let x := s.to t
     let up := x.boot.phase = .firmware ∧ x.trf.stopped = false ∧ x.cfg.running = none ∧ x.cfg.job = none
     let sane := signerBad q = false
     up ∧ q.args.length = 35 ∧ sane ∧ x.sealEpoch < reqArg32 q 1 ∧ reqArg32 q 1 ≤ 32768 ∧ x.inService = true) ∧
    (let t : Nat := 0
     let up := { State.reset with boot := { State.reset.boot with phase := .firmware }, cus := { State.reset.cus with keyOk := true, zeroed := true, owner := some (List.replicate 32 8) } }
     let s : State := (up.wr (otpBase + 1) 1).wrs (otpBase + 0x50) (List.replicate 33 7)
     let q : MgmtReq := ⟨.mspi, 77, [1, 3] ++ List.replicate 32 8⟩
     let x := s.to t
     let up := x.boot.phase = .firmware ∧ x.trf.stopped = false ∧ x.cfg.running = none ∧ x.cfg.job = none
     let sane := signerBad q = false
     up ∧ q.args.length = 34 ∧ sane ∧ reqArg q 1 ≤ 3 ∧
     ([0, 1, 2, 3].filter (fun k => k != reqArg q 1)).any x.rootValid = true ∧
     ((signerKind q) == 2 && bits (reqArg q 0) 3 2 == reqArg q 1) = false ∧ x.inService = true) ∧
    (let t : Nat := 0
     let up := { State.reset with boot := { State.reset.boot with phase := .firmware }, cus := { State.reset.cus with keyOk := true, zeroed := true, owner := some (List.replicate 32 8) } }
     let s : State := { up with pos := { up.pos with spValid := true, speed := 0 } }
     let q : MgmtReq := ⟨.mspi, 77, 0 :: List.replicate 32 8⟩
     let x := s.to t
     let up := x.boot.phase = .firmware ∧ x.trf.stopped = false ∧ x.cfg.running = none ∧ x.cfg.job = none
     let sane := signerBad q = false
     up ∧ q.args.length = 33 ∧ sane ∧ x.life ≠ 3 ∧ x.moving = false) := by
  refine ⟨?_, ?_, ?_, ?_, ?_, ?_, ?_, ?_, ?_, ?_⟩ <;> decide +kernel

theorem wit_ReadOutAndUpdate :
    (let t : Nat := 0
     let up := ({ State.reset with boot := { State.reset.boot with phase := .firmware } }).modDie 7 (fun d => { d with present := true })
     let s : State := up
     let q : MgmtReq := ⟨.mspi, 3, []⟩
     let x := s.to t
     let up := x.boot.phase = .firmware ∧ x.trf.stopped = false ∧ x.cfg.running = none ∧ x.cfg.job = none
     let u := x.boot.upd
     up ∧ q.args = [] ∧ x.ldg.session = none ∧ u.state = 0) ∧
    (let t : Nat := 0
     let up := ({ State.reset with boot := { State.reset.boot with phase := .firmware } }).modDie 7 (fun d => { d with present := true })
     let s : State := up
     let q : MgmtReq := ⟨.mspi, 3, List.replicate 108 0⟩
     let x := s.to t
     let up := x.boot.phase = .firmware ∧ x.trf.stopped = false ∧ x.cfg.running = none ∧ x.cfg.job = none
     up ∧ q.args.length = 108 ∧ x.ldg.session = none) ∧
    (let t : Nat := 0
     let up := ({ State.reset with boot := { State.reset.boot with phase := .firmware } }).modDie 7 (fun d => { d with present := true })
     let s : State := up
     let q : MgmtReq := ⟨.mspi, 3, [0, 0, 0, 0, 8]⟩
     let x := s.to t
     let up := x.boot.phase = .firmware ∧ x.trf.stopped = false ∧ x.cfg.running = none ∧ x.cfg.job = none
     up ∧ q.args.length = 5 ∧ 1 ≤ reqArg q 4 ∧ reqArg q 4 ≤ 8) ∧
    (let t : Nat := 0
     let up := ({ State.reset with boot := { State.reset.boot with phase := .firmware } }).modDie 7 (fun d => { d with present := true })
     let s : State := up
     let q : MgmtReq := ⟨.mspi, 3, [0, 0, 0, 8]⟩
     let x := s.to t
     let up := x.boot.phase = .firmware ∧ x.trf.stopped = false ∧ x.cfg.running = none ∧ x.cfg.job = none
     up ∧ q.args.length = 4 ∧ 1 ≤ reqArg q 3 ∧ reqArg q 3 ≤ 8) ∧
    (let t : Nat := 0
     let up := ({ State.reset with boot := { State.reset.boot with phase := .firmware } }).modDie 7 (fun d => { d with present := true })
     let g : GnomiSession := ⟨List.replicate 76 0, 3, 0⟩
     let s : State := { up with ldg := { up.ldg with session := some g } }
     let q : MgmtReq := ⟨.mspi, 3, []⟩
     let x := s.to t
     let up := x.boot.phase = .firmware ∧ x.trf.stopped = false ∧ x.cfg.running = none ∧ x.cfg.job = none
     up ∧ q.args = [] ∧ x.ldg.session.isSome = true ∧ x.ldg.session = some g) ∧
    (let t : Nat := 0
     let up := ({ State.reset with boot := { State.reset.boot with phase := .firmware } }).modDie 7 (fun d => { d with present := true })
     let s : State := up
     let q : MgmtReq := ⟨.mspi, 3, [1, 1, 1, 0] ++ List.replicate 48 0⟩
     let x := s.to t
     let up := x.boot.phase = .firmware ∧ x.trf.stopped = false ∧ x.cfg.running = none ∧ x.cfg.job = none
     let u := x.boot.upd
     up ∧ u.state = 0 ∧ q.args.length = 52 ∧ reqArg q 0 ≤ 2 ∧ reqArg q 1 ≤ 1 ∧ 1 ≤ reqArg32 q 2 ∧
     reqArg32 q 2 ≤ slotSize (reqArg q 0) - 1 ∧ x.slotActive (reqArg q 0) (reqArg q 1 == 1) = false ∧
     x.life ≠ 3) ∧
    (let t : Nat := 0
     let up := ({ State.reset with boot := { State.reset.boot with phase := .firmware } }).modDie 7 (fun d => { d with present := true })
     let s : State := { up with boot := { up.boot with upd := { up.boot.upd with state := 2, kind := 1, slot := true, len := 960 } } }
     let q : MgmtReq := ⟨.mspi, 3, 0 :: 0 :: List.replicate 960 7⟩
     let x := s.to t
     let up := x.boot.phase = .firmware ∧ x.trf.stopped = false ∧ x.cfg.running = none ∧ x.cfg.job = none
     let u := x.boot.upd
     let at_ := slotWord u.kind.toNat u.slot + reqArg32 q 0
     up ∧ u.state = 2 ∧ 3 ≤ q.args.length ∧ q.args.length ≤ 962 ∧ reqArg32 q 0 + (q.args.length - 2) ≤ u.len ∧
     x.unerased at_ (q.args.length - 2) = false ∧ x.life ≠ 3 ∧ x.updActive = false ∧ x.nvGone = false) ∧
    (let t : Nat := 0
     let up := ({ State.reset with boot := { State.reset.boot with phase := .firmware } }).modDie 7 (fun d => { d with present := true })
     let s : State := { up with boot := { up.boot with upd := { up.boot.upd with state := 2, kind := 1, slot := true, len := 960 } } }
     let q : MgmtReq := ⟨.mspi, 3, []⟩
     let x := s.to t
     let up := x.boot.phase = .firmware ∧ x.trf.stopped = false ∧ x.cfg.running = none ∧ x.cfg.job = none
     let u := x.boot.upd
     up ∧ u.state = 2 ∧ q.args = [] ∧ x.life ≠ 3 ∧ x.updActive = false ∧ x.nvGone = false) := by
  refine ⟨?_, ?_, ?_, ?_, ?_, ?_, ?_, ?_⟩ <;> decide +kernel

theorem wit_TapAndTokens :
    (let t : Nat := 0
     let s : State := State.reset
     let code : BitVec 8 := 0x10
     let x := s.to t
     let retired := x.life = 3
     tapCodes.contains code = true ∧ x.boundaryOk = false ∧ ¬ retired) ∧
    (let code : BitVec 8 := 0
     tapCodes.contains code = false) ∧
    (let t : Nat := 0
     let s : State := (State.reset).wr (otpBase + 3) 1
     let x := s.to t
     let retired := x.life = 3
     retired) ∧
    (let t : Nat := 0
     let s : State := { State.reset with dbg := { State.reset.dbg with session := some ⟨0x08, 0, 0, false⟩ } }
     let x := s.to t
     x.boundaryOk = true) := by
  refine ⟨?_, ?_, ?_, ?_⟩ <;> decide +kernel

theorem wit_DebugAccesses :
    (let t : Nat := 0
     let slot : BitVec 5 := 0
     let core : BitVec 1 := 0
     let d : DbgSession := ⟨0x1F, BitVec.allOnes 128, 0, false⟩
     let up := { State.reset with csr := { State.reset.csr with live := [] }, dies := { State.reset.dies with enumEnd := some 0 } }
     let ses := { up with dbg := { up.dbg with session := some d }, core := [(0, { runst := .run })] }
     let s : State := ses
     let die : DieAddr := 1
     let x := s.to t
     let c := 2 * engAt die.toNat slot.toNat + core.toNat
     x.life = 0 ∧ x.life ≠ 3 ∧ isCompute die.toNat = true ∧ x.dbg.session = some d ∧
     d.rights.getLsbD 0 = true ∧ d.has c = true ∧ x.noCore c = false) ∧
    (let t : Nat := 0
     let wr : Bool := false
     let up := { State.reset with csr := { State.reset.csr with live := [] }, dies := { State.reset.dies with enumEnd := some 0 } }
     let s : State := up
     let die : DieAddr := 1
     let x := s.to t
     let plain := x.life ≠ 3 ∧ x.flag 0 0x0D 0x14 0 = false
     let free := (x.die die.toNat).fenced = false ∧ (x.decodeRefuses false wr (csrBase + die.toNat * 0x1000000 + 0x0D0012)) = none
     x.dbg.session = none ∧ plain ∧ isCompute die.toNat = true ∧ free) ∧
    (let t : Nat := 0
     let v : Word := 0
     let up := { State.reset with csr := { State.reset.csr with live := [] }, dies := { State.reset.dies with enumEnd := some 0 } }
     let s : State := up
     let dr : BitVec 40 := 0x800010000
     let x := s.to t
     dr = 0x800010000 ||| (v &&& 2).setWidth 40 ∧ x.life ≠ 3 ∧ x.dbg.session = none) ∧
    (let dr : BitVec 40 := 0xF000000000
     4 ≤ dr.toNat / 2 ^ 34 ∧ bits dr.toNat 39 36 ≠ 0) ∧
    (let t : Nat := 0
     let d : DbgSession := ⟨0x1F, BitVec.allOnes 128, 0, false⟩
     let up := { State.reset with csr := { State.reset.csr with live := [] }, dies := { State.reset.dies with enumEnd := some 0 } }
     let ses := { up with dbg := { up.dbg with session := some d }, core := [(0, { runst := .run })] }
     let s : State := ses
     let die : DieAddr := 0
     let x := s.to t
     die = 0 ∧ x.dbg.session = some d ∧ d.rights.getLsbD 4 = true) ∧
    (let t : Nat := 0
     let d : DbgSession := ⟨0x1F, BitVec.allOnes 128, 0, false⟩
     let up := { State.reset with csr := { State.reset.csr with live := [] }, dies := { State.reset.dies with enumEnd := some 0 } }
     let ses := { up with dbg := { up.dbg with session := some d }, core := [(0, { runst := .run })] }
     let s : State := ses.wr (otpBase + 3) 1
     let x := s.to t
     x.life = 3) ∧
    (let t : Nat := 0
     let d : DbgSession := ⟨0x1F, BitVec.allOnes 128, 0, false⟩
     let up := { State.reset with csr := { State.reset.csr with live := [] }, dies := { State.reset.dies with enumEnd := some 0 } }
     let ses := { up with dbg := { up.dbg with session := some d }, core := [(0, { runst := .run })] }
     let s : State := ses.wr (otpBase + 1) 1
     let x := s.to t
     (x.life = 1 ∨ x.life = 2)) ∧
    (let t : Nat := 0
     let slot : BitVec 5 := 0
     let core : BitVec 1 := 0
     let wr : Bool := false
     let d : DbgSession := ⟨0x1F, BitVec.allOnes 128, 0, false⟩
     let up := { State.reset with csr := { State.reset.csr with live := [] }, dies := { State.reset.dies with enumEnd := some 0 } }
     let ses := { up with dbg := { up.dbg with session := some d }, core := [(0, { runst := .run })] }
     let s : State := (((ses.modCore 0 (fun k => { k with runst := .halted })).modDie 1 (fun e => { e with present := true })).setReg 1 0x0D 0x10 0).setReg 1 0x0D 0x11 0x100
     let r : BitVec 4 := 0
     let die : DieAddr := 1
     let x := s.to t
     let c := 2 * engAt die.toNat slot.toNat + core.toNat
     let k := x.coreOf c
     let plain := x.life ≠ 3 ∧ x.flag 0 0x0D 0x14 0 = false
     let free := (x.die die.toNat).fenced = false ∧ (x.decodeRefuses false wr (csrBase + die.toNat * 0x1000000 + 0x0D0012)) = none
     plain ∧ isCompute die.toNat = true ∧ free ∧ x.dbg.session = some d ∧ d.rights.getLsbD 0 = true ∧
     d.has c = true ∧ x.noCore c = false ∧
     x.reg die.toNat 0x0D 0x10 = slot.setWidth 16 ||| core.setWidth 16 <<< 5 ∧
     x.fld die.toNat 0x0D 0x11 9 0 = 0x100 + r.toNat ∧ k.runst = .halted) ∧
    (let t : Nat := 0
     let wr : Bool := false
     let d : DbgSession := ⟨0x1F, BitVec.allOnes 128, 0, false⟩
     let up := { State.reset with csr := { State.reset.csr with live := [] }, dies := { State.reset.dies with enumEnd := some 0 } }
     let ses := { up with dbg := { up.dbg with session := some d }, core := [(0, { runst := .run })] }
     let s : State := (ses.modDie 1 (fun e => { e with present := true })).setRegs 0 0x0D 0x10 [0, 0x100, 0]
     let x := s.to t
     let ma := x.regN 0 0x0D 0x10 3
     let plain := x.life ≠ 3 ∧ x.flag 0 0x0D 0x14 0 = false
     plain ∧ x.dbg.session = some d ∧ d.rights.getLsbD 1 = true ∧ x.dbgLocked wr ma = false ∧ spadLen ≤ ma ∧
     isCsr ma = false ∧ (x.decodeRefuses true wr ma) = none ∧ hbmStackOf ma = none ∧
     inRange ma flashBase flashLen = false ∧ inRange ma mramBase mramLen = false ∧
     inRange ma otpBase otpLen = false ∧ x.classAt (ma / 8) = .none ∧ (x.die 0).fenced = false ∧
     (poolOf ma).isSome = true) := by
  refine ⟨?_, ?_, ?_, ?_, ?_, ?_, ?_, ?_, ?_⟩ <;> decide +kernel

theorem wit_BiscuitTin :
    (let t : Nat := 0
     let high : Bool := false
     let s : State := (State.reset).modDie 7 (fun d => { d with present := true })
     let kind : Byte := 0x0F
     let rail : BitVec 4 := 12
     let x := s.to t
     let b := x.bbx
     let listed := (1 ≤ kind.toNat ∧ kind.toNat ≤ 0x0F) ∨ kind = 0x80
     let room := (x.flushing = false ∨ kind = 0x0C) ∧ b.full = false ∧ b.fifo.length < 16
     let core := !high && (rail == 1 || rail == 2 || rail == 5)
     let dying := match x.boot.phase with
      | .flush .powerOn _ => true
      | _ => false
     let resets := x.boot.phase ≠ .off ∧ high = false ∧ (core = true ∨ (dying = true ∧ (rail = 9 ∨ rail = 10)))
     listed ∧ x.nvGone = false ∧ room ∧
     (b.writing = none ∨ b.fifo = [] ∨ b.flush.isSome = true ∨ x.nvGone = true) ∧
     (b.ready = true ∨ x.dies.enumAt = none) ∧ b.fldDue = false ∧
     (x.boot.phase = .off ∨ x.now < b.fldAt + (b.fldSecs + 1) * secCk1) ∧ rail.toNat ≤ 12 ∧ ¬ resets) ∧
    (let t : Nat := 0
     let s : State := (State.reset).modDie 7 (fun d => { d with present := true })
     let kind : Byte := 0x10
     let rail : BitVec 4 := 13
     let x := s.to t
     let listed := (1 ≤ kind.toNat ∧ kind.toNat ≤ 0x0F) ∨ kind = 0x80
     (¬ listed ∨ x.nvGone = true) ∧ 12 < rail.toNat) ∧
    (let t : Nat := 0
     let r : BbxReq := ⟨1, false, 0, 0, 0, 0, [], 0⟩
     let s : State := { (State.reset).modDie 7 (fun d => { d with present := true }) with bbx := { State.reset.bbx with fifo := List.replicate 16 r, writing := some 0 } }
     let kind : Byte := 0x80
     let w : Nat := 0
     let x := s.to t
     let b := x.bbx
     let listed := (1 ≤ kind.toNat ∧ kind.toNat ≤ 0x0F) ∨ kind = 0x80
     let room := (x.flushing = false ∨ kind = 0x0C) ∧ b.full = false ∧ b.fifo.length < 16
     listed ∧ x.nvGone = false ∧ ¬ room ∧ b.writing = some w ∧ x.now < w + 512 * ck4) ∧
    (let rs : List BbxReq := []
     let r : BbxReq := ⟨1, false, 0, 0, 0, 0, [], 0⟩
     let s : State := { (State.reset).modDie 7 (fun d => { d with present := true }) with bbx := { State.reset.bbx with fifo := [r], writing := some 0, ready := true, next := 0xFFFFFFFF, fldDue := true } }
     let w : Nat := 0
     let t : Nat := 512 * ck4
     let x := s.to t
     let b := x.bbx
     b.writing = some w ∧ b.fifo = r :: rs ∧ w + 512 * ck4 ≤ x.now ∧ b.flush = none ∧ x.nvGone = false ∧
     b.full = false ∧ b.fldDue = true) ∧
    (let t : Nat := 0
     let s : State := { State.reset with dies := { State.reset.dies with enumAt := some 0 } }
     let x := s.to t
     let b := x.bbx
     b.ready = false ∧ x.dies.enumAt.isSome = true) ∧
    (let s : State := { (State.reset).modDie 7 (fun d => { d with present := true }) with boot := { State.reset.boot with phase := .firmware }, bbx := { State.reset.bbx with fld := [(14, 359)] } }
     let n : Nat := 7
     let c : Int := 200
     let cs : List Int := [20, 20, 20, 20, 20, 20, 20, 200]
     let t : Nat := secCk1
     let x := s.to t
     let b := x.bbx
     x.boot.phase = .firmware ∧ b.fldAt + (b.fldSecs + 1) * secCk1 ≤ x.now ∧ n < 8 ∧ cs[n]? = some c ∧
     (n = 0 ∨ (x.die n).present = true) ∧ (b.fld.get (dflt 0) 14).toNat < 360) ∧
    (let t : Nat := 0
     let high : Bool := false
     let s : State := { State.reset with boot := { State.reset.boot with phase := .firmware, podOk := true, porst := true } }
     let rail : BitVec 4 := 1
     let x := s.to t
     let core := !high && (rail == 1 || rail == 2 || rail == 5)
     let dying := match x.boot.phase with
      | .flush .powerOn _ => true
      | _ => false
     let resets := x.boot.phase ≠ .off ∧ high = false ∧ (core = true ∨ (dying = true ∧ (rail = 9 ∨ rail = 10)))
     rail.toNat ≤ 12 ∧ resets) := by
  refine ⟨?_, ?_, ?_, ?_, ?_, ?_, ?_⟩ <;> decide +kernel

theorem wit_WatchdogEvents :
    (let t : Nat := 0
     let w : WdtId := .core 255
     let s : State := State.reset
     let x := s.to t
     let k := wdtNo w
     let u := x.wdtOf k
     let due := x.wdtRuns k = true ∧ x.wdtLimit k ≤ x.wdtPos k
     (¬ due ∨ x.wdtMode k ≠ 1) ∧ (¬ due ∨ x.wdtMode k ≠ 2) ∧
     (u.warned = true ∨ x.wdtRuns k = false ∨ x.wdtWord k 4 = 0 ∨ x.wdtPos k < x.wdtLimit k - x.wdtCk8 k 4) ∧
     x.wdt.eraseBusy = none) ∧
    (let w : WdtId := .core 255
     let regs := fun (mode bound : Word) (u : WdtUnit) => (liveIs (liveIs (liveIs (liveIs (liveIs (liveIs { State.reset with wdt := { State.reset.wdt with unit := [(511, u)] } } (wdtDie 511) 4 (wdtOff 511) mode) (wdtDie 511) 4 (wdtOff 511 + 1) 500) (wdtDie 511) 4 (wdtOff 511 + 2) 10) (wdtDie 511) 4 (wdtOff 511 + 3) 400) (wdtDie 511) 4 (wdtOff 511 + 4) 50) (wdtDie 511) 4 (wdtOff 511 + 5) bound)
     let s : State := regs 5 0 { running := true, start := 0 }
     let t : Nat := 2000000000
     let x := s.to t
     let k := wdtNo w
     let u := x.wdtOf k
     let due := x.wdtRuns k = true ∧ x.wdtLimit k ≤ x.wdtPos k
     due ∧ x.wdtMode k = 1 ∧ x.wdtActs k = true ∧ u.warned = false ∧ x.wdtRuns k = true ∧ x.wdtWord k 4 ≠ 0 ∧
     x.wdtLimit k - x.wdtCk8 k 4 ≤ x.wdtPos k ∧ u.start ≤ x.clkTick) ∧
    (let w : WdtId := .core 255
     let regs := fun (mode bound : Word) (u : WdtUnit) => (liveIs (liveIs (liveIs (liveIs (liveIs (liveIs { State.reset with wdt := { State.reset.wdt with unit := [(511, u)] } } (wdtDie 511) 4 (wdtOff 511) mode) (wdtDie 511) 4 (wdtOff 511 + 1) 500) (wdtDie 511) 4 (wdtOff 511 + 2) 10) (wdtDie 511) 4 (wdtOff 511 + 3) 400) (wdtDie 511) 4 (wdtOff 511 + 4) 50) (wdtDie 511) 4 (wdtOff 511 + 5) bound)
     let s : State := regs 1 0 { running := true, start := 0 }
     let t : Nat := 2000000000
     let x := s.to t
     let k := wdtNo w
     let due := x.wdtRuns k = true ∧ x.wdtLimit k ≤ x.wdtPos k
     due ∧ x.wdtMode k = 1 ∧ x.wdtActs k = false) ∧
    (let w : WdtId := .core 255
     let regs := fun (mode bound : Word) (u : WdtUnit) => (liveIs (liveIs (liveIs (liveIs (liveIs (liveIs { State.reset with wdt := { State.reset.wdt with unit := [(511, u)] } } (wdtDie 511) 4 (wdtOff 511) mode) (wdtDie 511) 4 (wdtOff 511 + 1) 500) (wdtDie 511) 4 (wdtOff 511 + 2) 10) (wdtDie 511) 4 (wdtOff 511 + 3) 400) (wdtDie 511) 4 (wdtOff 511 + 4) 50) (wdtDie 511) 4 (wdtOff 511 + 5) bound)
     let s : State := regs 2 0x8000 { running := true, start := 0, done := 0x8000 }
     let t : Nat := 2000000000
     let x := s.to t
     let k := wdtNo w
     let u := x.wdtOf k
     let due := x.wdtRuns k = true ∧ x.wdtLimit k ≤ x.wdtPos k
     let missing := BitVec.ofNat 16 (x.wdtWord k 5) &&& ~~~u.done
     due ∧ x.wdtMode k = 2 ∧ missing = 0) ∧
    (let w : WdtId := .core 255
     let regs := fun (mode bound : Word) (u : WdtUnit) => (liveIs (liveIs (liveIs (liveIs (liveIs (liveIs { State.reset with wdt := { State.reset.wdt with unit := [(511, u)] } } (wdtDie 511) 4 (wdtOff 511) mode) (wdtDie 511) 4 (wdtOff 511 + 1) 500) (wdtDie 511) 4 (wdtOff 511 + 2) 10) (wdtDie 511) 4 (wdtOff 511 + 3) 400) (wdtDie 511) 4 (wdtOff 511 + 4) 50) (wdtDie 511) 4 (wdtOff 511 + 5) bound)
     let s : State := regs 2 0x8000 { running := true, start := 0, done := 0 }
     let t : Nat := 2000000000
     let x := s.to t
     let k := wdtNo w
     let u := x.wdtOf k
     let due := x.wdtRuns k = true ∧ x.wdtLimit k ≤ x.wdtPos k
     let missing := BitVec.ofNat 16 (x.wdtWord k 5) &&& ~~~u.done
     due ∧ x.wdtMode k = 2 ∧ missing ≠ 0 ∧ x.wdtActs k = false) ∧
    (let t : Nat := 0
     let s : State := { State.reset with wdt := { State.reset.wdt with eraseBusy := some 0 } }
     let t0 : Nat := 0
     let x := s.to t
     x.wdt.eraseBusy.isSome = true ∧ x.dbg.trifleHalted = false ∧ x.wdt.eraseBusy = some t0 ∧
     x.now < t0 + 93750000 * ck8) ∧
    (let s : State := { State.reset with wdt := { State.reset.wdt with eraseBusy := some 0 } }
     let t0 : Nat := 0
     let t : Nat := 93750000 * ck8
     let x := s.to t
     x.wdt.eraseBusy = some t0 ∧ t0 + 93750000 * ck8 ≤ x.now) := by
  refine ⟨?_, ?_, ?_, ?_, ?_, ?_, ?_⟩ <;> decide +kernel

theorem wit_TamperAndZeroisation :
    (let t : Nat := 0
     let at_ := fun (seq : Option TamperSeq) (p : Phase) => { (State.reset).wr (otpBase + 1) 1 with boot := { State.reset.boot with phase := p }, cus := { State.reset.cus with tcfg := 0x55, helper := true, seq := seq } }
     let s : State := at_ none .off
     let m : BitVec 8 := 0
     let x := s.to t
     let u := x.tripMask m
     u = 0 ∧ x.cus.seq = none) ∧
    (let t : Nat := 0
     let at_ := fun (seq : Option TamperSeq) (p : Phase) => { (State.reset).wr (otpBase + 1) 1 with boot := { State.reset.boot with phase := p }, cus := { State.reset.cus with tcfg := 0x55, helper := true, seq := seq } }
     let s : State := at_ none .off
     let m : BitVec 8 := 0x55
     let x := s.to t
     let u := x.tripMask m
     u ≠ 0 ∧ x.boot.phase = .off) ∧
    (let t : Nat := 0
     let at_ := fun (seq : Option TamperSeq) (p : Phase) => { (State.reset).wr (otpBase + 1) 1 with boot := { State.reset.boot with phase := p }, cus := { State.reset.cus with tcfg := 0x55, helper := true, seq := seq } }
     let s : State := at_ (some ⟨0, none⟩) .firmware
     let m : BitVec 8 := 0x55
     let t0 : Nat := 0
     let x := s.to t
     let u := x.tripMask m
     u ≠ 0 ∧ x.boot.phase ≠ .off ∧ x.cus.seq.isSome = true ∧ x.cus.seq = some ⟨t0, none⟩ ∧
     (x.tamperSigned = false ∨ x.now < t0 + oscMin 4) ∧ x.now < t0 + oscMin 400000) ∧
    (let t : Nat := 0
     let at_ := fun (seq : Option TamperSeq) (p : Phase) => { (State.reset).wr (otpBase + 1) 1 with boot := { State.reset.boot with phase := p }, cus := { State.reset.cus with tcfg := 0x55, helper := true, seq := seq } }
     let s : State := at_ none .firmware
     let m : BitVec 8 := 0x55
     let x := s.to t
     let u := x.tripMask m
     u ≠ 0 ∧ x.boot.phase ≠ .off ∧ x.cus.seq = none) ∧
    (let at_ := fun (seq : Option TamperSeq) (p : Phase) => { (State.reset).wr (otpBase + 1) 1 with boot := { State.reset.boot with phase := p }, cus := { State.reset.cus with tcfg := 0x55, helper := true, seq := seq } }
     let s : State := at_ (some ⟨0, none⟩) .firmware
     let t0 : Nat := 0
     let t : Nat := oscMin 400000
     let x := s.to t
     x.cus.seq = some ⟨t0, none⟩ ∧ x.bbx.flush = none ∧
     ((x.tamperSigned = true ∧ t0 + oscMin 4 ≤ x.now) ∨ t0 + oscMin 400000 ≤ x.now)) ∧
    (let t : Nat := 0
     let at_ := fun (seq : Option TamperSeq) (p : Phase) => { (State.reset).wr (otpBase + 1) 1 with boot := { State.reset.boot with phase := p }, cus := { State.reset.cus with tcfg := 0x55, helper := true, seq := seq } }
     let s : State := at_ (some ⟨0, some 0⟩) .firmware
     let t0 : Nat := 0
     let z : Nat := 0
     let x := s.to t
     x.cus.seq = some ⟨t0, some z⟩ ∧ x.now < z + oscMin 20000) ∧
    (let at_ := fun (seq : Option TamperSeq) (p : Phase) => { (State.reset).wr (otpBase + 1) 1 with boot := { State.reset.boot with phase := p }, cus := { State.reset.cus with tcfg := 0x55, helper := true, seq := seq } }
     let s : State := at_ (some ⟨0, some 0⟩) .firmware
     let t0 : Nat := 0
     let z : Nat := 0
     let t : Nat := oscMin 20000
     let x := s.to t
     x.cus.seq = some ⟨t0, some z⟩ ∧ z + oscMin 20000 ≤ x.now ∧ x.boot.phase = .firmware ∧ x.boot.upd.state = 0) ∧
    (let t : Nat := 0
     let at_ := fun (seq : Option TamperSeq) (p : Phase) => { (State.reset).wr (otpBase + 1) 1 with boot := { State.reset.boot with phase := p }, cus := { State.reset.cus with tcfg := 0x55, helper := true, seq := seq } }
     let s : State := { at_ none .firmware with bbx := { State.reset.bbx with flush := some 0 } }
     let x := s.to t
     x.bbx.flush.isSome = true) := by
  refine ⟨?_, ?_, ?_, ?_, ?_, ?_, ?_, ?_⟩ <;> decide +kernel

theorem wit_FaultTray :
    (let t : Nat := 0
     let die : DieAddr := 0
     let blk : Byte := 0
     let src : BitVec 7 := 0
     let s : State := State.reset
     let x := s.to t
     let c := x.crb
     let rsvd := blk = 3 ∧ src = 1
     let fid := if rsvd then 0x0181 else faultId die.toNat blk.toNat src.toNat
     let tray := die = 0 ∧ blk = 3 ∧ src.toNat < 0x71 ∧ ¬ rsvd
     let pair := c.eout.settle x.now
     x.nextLatch = none ∧ (c.broken.contains (lineKey die.toNat fid) = true ∨ tray ∨ raised fid = false) ∧
     x.firstGrace = none ∧ (pair.toggling = false ∨ x.now < pair.changedAt + 3750 * ck4) ∧ c.pulseEnd = none ∧
     x.now < pair.changedAt + 12 * ck4) ∧
    (let t : Nat := 0
     let n : Nat := 8
     let r : Report := ⟨0x20A3, 8, false, 1, 0x41, false⟩
     let crb := State.reset.crb
     let s : State := { State.reset with crb := { crb with inflight := [r] } }
     let x := s.to t
     x.nextLatch = some n ∧ x.now < n) ∧
    (let r : Report := ⟨0x20A3, 8, false, 1, 0x41, false⟩
     let crb := State.reset.crb
     let s : State := { State.reset with crb := { crb with inflight := [r] } }
     let t : Nat := 8
     let x := s.to t
     let c := x.crb
     let alone := c.inflight = [r] ∧ c.injAt = none ∧ r.latchAt ≤ x.now
     let plain := x.lineBroken r = false ∧ x.testMode r.fid = false ∧ c.mapLive = false ∧ x.latched r.fid = false ∧
      r.lost = false ∧ alwaysL0 r.fid = false ∧ floorOf r.fid 1 = 1 ∧ c.log.length < 64 ∧ x.ldg.frozen = false ∧
      x.ldg.closing = false ∧ x.ldg.pending.length < 256
     alone ∧ plain) ∧
    (let r : Report := ⟨0x20A3, 8, false, 1, 0x41, false⟩
     let crb := State.reset.crb
     let s : State := { State.reset with crb := { crb with inflight := [r], broken := [lineKey 1 0x20A3] } }
     let t : Nat := 8
     let x := s.to t
     let c := x.crb
     let alone := c.inflight = [r] ∧ c.injAt = none ∧ r.latchAt ≤ x.now
     alone ∧ x.lineBroken r = true) ∧
    (let t : Nat := 0
     let n : Nat := 31
     let g : Grace := ⟨0x20A3, 8, false, 5000, 0, false, 0⟩
     let crb := State.reset.crb
     let s : State := { State.reset with crb := { crb with grace := [(31, some g)] } }
     let x := s.to t
     x.firstGrace = some (n, g) ∧ x.now < g.due) ∧
    (let n : Nat := 31
     let g : Grace := ⟨0x20A3, 8, false, 5000, 0, false, 0⟩
     let crb := State.reset.crb
     let s : State := { State.reset with crb := { crb with grace := [(31, some g)] } }
     let t : Nat := 5000
     let x := s.to t
     let c := x.crb
     let pair := c.eout.settle x.now
     x.firstGrace = some (n, g) ∧ g.due ≤ x.now ∧ (g.esc = 0 ∨ g.esc = 1) ∧ c.log.length < 64 ∧
     pair.changedAt + 12 * ck4 ≤ x.now) ∧
    (let n : Nat := 31
     let g : Grace := ⟨0x20A3, 8, false, 5000, 4, false, 0⟩
     let crb := State.reset.crb
     let s : State := { State.reset with crb := { crb with grace := [(31, some g)] }, cfg := { State.reset.cfg with state := .degraded } }
     let t : Nat := 5000
     let x := s.to t
     x.firstGrace = some (n, g) ∧ g.due ≤ x.now ∧ g.esc = 4 ∧ (x.cfg.state = .run ∨ x.cfg.state = .degraded)) ∧
    (let n : Nat := 0
     let crb := State.reset.crb
     let s : State := { State.reset with crb := { crb with eout := { crb.eout with toggling := true, changedAt := 0 }, pulseEnd := some 0 } }
     let t : Nat := 3750 * ck4
     let x := s.to t
     let c := x.crb
     let pair := c.eout.settle x.now
     pair.toggling = true ∧ pair.changedAt + 3750 * ck4 ≤ x.now ∧ c.pulseEnd = some n) ∧
    (let t : Nat := 0
     let s : State := State.reset
     let die : DieAddr := 4
     let blk : Byte := 0x2F
     let src : BitVec 7 := 3
     let x := s.to t
     let c := x.crb
     let rsvd := blk = 3 ∧ src = 1
     let fid := if rsvd then 0x0181 else faultId die.toNat blk.toNat src.toNat
     let tray := die = 0 ∧ blk = 3 ∧ src.toNat < 0x71 ∧ ¬ rsvd
     c.broken.contains (lineKey die.toNat fid) = false ∧ ¬ tray ∧ raised fid = true ∧ c.mapLive = false ∧
     c.inflight = [] ∧ x.testMode fid = false) := by
  refine ⟨?_, ?_, ?_, ?_, ?_, ?_, ?_, ?_, ?_⟩ <;> decide +kernel

theorem wit_LineInterfaces :
    (let t : Nat := 0
     let p1 : Bool := false
     let s : State := State.reset
     let x := s.to t
     let p := portNo p1
     x.pdOn 0 = false ∧ x.pdOn p = false ∧
     (x.pdOn 1 = false ∨ x.committed = false ∨ x.flagL 6 0x45 0x180 0 = false ∨ (x.spiOf 1).autoAt.isSome = true) ∧
     (x.spiOf 1).autoAt = none ∧ (x.time.tq = .unset ∨ x.onSecond = false)) ∧
    (let t : Nat := 0
     let on := ((State.reset).modDie 5 (fun e => { e with present := true })).modDie 6 (fun e => { e with present := true })
     let s : State := on
     let p1 : Bool := true
     let u : BitVec 1 := 1
     let x := s.to t
     let p := portNo p1
     let c := x.cardOf p
     let unit := spiNo p (if p1 then u.toNat else 0)
     let sp := x.spiOf unit
     x.pdOn 0 = true ∧ x.pdOn p = true ∧ c.present = false ∧ sp.autoAt = none ∧ sp.tx = []) ∧
    (let t : Nat := 0
     let on := ((State.reset).modDie 5 (fun e => { e with present := true })).modDie 6 (fun e => { e with present := true })
     let s : State := { on with port := { on.port with card := [(1, { present := true })], spi := [(2, { tx := [5] })] } }
     let p1 : Bool := true
     let u : BitVec 1 := 1
     let x := s.to t
     let p := portNo p1
     let c := x.cardOf p
     let unit := spiNo p (if p1 then u.toNat else 0)
     let sp := x.spiOf unit
     x.pdOn p = true ∧ c.present = true ∧ sp.autoAt = none ∧ sp.tx ≠ [] ∧ sp.rx.length < spiDepth) ∧
    (let t : Nat := 0
     let on := ((State.reset).modDie 5 (fun e => { e with present := true })).modDie 6 (fun e => { e with present := true })
     let s : State := liveIs { on with boot := { on.boot with commitAt := some 0 } } 6 0x45 0x180 1
     let x := s.to t
     x.pdOn 1 = true ∧ x.committed = true ∧ x.flagL 6 0x45 0x180 0 = true ∧ (x.spiOf 1).autoAt = none) ∧
    (let t : Nat := 0
     let u : BitVec 1 := 0
     let on := ((State.reset).modDie 5 (fun e => { e with present := true })).modDie 6 (fun e => { e with present := true })
     let s : State := { on with port := { on.port with spi := [(1, { autoAt := some 0 })] } }
     let p1 : Bool := true
     let a : Nat := 0
     let x := s.to t
     let p := portNo p1
     let unit := spiNo p (if p1 then u.toNat else 0)
     let sp := x.spiOf unit
     x.pdOn p = true ∧ sp.autoAt.isSome = true ∧ (x.spiOf 1).autoAt = some a ∧ x.now < a + 20000 * ck8) ∧
    (let on := ((State.reset).modDie 5 (fun e => { e with present := true })).modDie 6 (fun e => { e with present := true })
     let s : State := { on with port := { on.port with spi := [(1, { autoAt := some 0 })] } }
     let a : Nat := 0
     let t : Nat := 20000 * ck8
     let x := s.to t
     (x.spiOf 1).autoAt = some a ∧ a + 20000 * ck8 ≤ x.now) ∧
    (let t : Nat := 0
     let s : State := { State.reset with time := { State.reset.time with tq := .locked, base := 1000000000 * 2 ^ 32, step := 1, tick := 0 } }
     let x := s.to t
     x.time.tq ≠ .unset ∧ x.onSecond = true) := by
  refine ⟨?_, ?_, ?_, ?_, ?_, ?_, ?_⟩ <;> decide +kernel

theorem wit_EthernetPorts :
    (let t : Nat := 0
     let p1 : Bool := true
     let pos : BitVec 3 := 4
     let a : BitVec 4 := 15
     let s : State := State.reset
     let x := s.to t
     let p := portNo p1
     let n := pos.toNat
     let e := x.ethOf p n
     let z := x.handed p
     let ez := z.ethOf p n
     let runs := x.ethRuns p n = true ∧ e.link = true
     let as := x.txAssign p a.toNat
     let pop := edgeUp x ck4 x.now
     ¬ runs ∧ (x.pdie p).waiting = [] ∧
     (x.committed = false ∨ as.en = false ∨ x.pdOn p = false ∨ z.head (pd p) as.q = none ∨ pop < (z.txOf p a.toNat).popFrom) ∧
     (z.pdie p).send = none ∧ (ez.txq = [] ∨ n = 5 ∨ x.now < ez.freeAt ∨ x.ethRuns p n = false) ∧
     ez.link = false ∧ x.t1sRuns p = false) ∧
    (let t : Nat := 0
     let f : EthRx := ⟨List.replicate 9600 0, true, 0, none, false⟩
     let p1 : Bool := true
     let pos : BitVec 3 := 4
     let on := { ((State.reset).modDie 5 (fun e => { e with present := true })).modDie 6 (fun e => { e with present := true }) with boot := { State.reset.boot with commitAt := some 0 } }
     let eth := fun (e : EthPort) => (liveIs (liveIs on 6 0x40 (ethOff 4) 5) 6 0x40 (ethOff 4 + 4) 0).modEth 1 4 (fun _ => e)
     let s : State := eth { link := true }
     let x := s.to t
     let p := portNo p1
     let n := pos.toNat
     let e := x.ethOf p n
     let z := x.handed p
     let ez := z.ethOf p n
     let runs := x.ethRuns p n = true ∧ e.link = true
     let room := (x.pdie p).room + rxRoom f ≤ rxBuffer
     let len := f.bytes.length + 4
     runs ∧ room ∧ f.sec = none ∧ ethMax n < len ∧ ez.link = true) ∧
    (let t : Nat := 0
     let f : EthRx := ⟨List.replicate 60 0xFF, true, 0, none, false⟩
     let p1 : Bool := true
     let pos : BitVec 3 := 4
     let on := { ((State.reset).modDie 5 (fun e => { e with present := true })).modDie 6 (fun e => { e with present := true }) with boot := { State.reset.boot with commitAt := some 0 } }
     let eth := fun (e : EthPort) => (liveIs (liveIs on 6 0x40 (ethOff 4) 5) 6 0x40 (ethOff 4 + 4) 0).modEth 1 4 (fun _ => e)
     let s : State := eth { link := true }
     let x := s.to t
     let p := portNo p1
     let n := pos.toNat
     let e := x.ethOf p n
     let q := ethParts f.bytes
     let runs := x.ethRuns p n = true ∧ e.link = true
     let room := (x.pdie p).room + rxRoom f ≤ rxBuffer
     let len := f.bytes.length + 4
     runs ∧ room ∧ f.sec = none ∧ len ≤ ethMax n ∧ f.fcsOk = true ∧ 64 ≤ len ∧
     (x.ethTakes p n q.dst && x.ethTag p n q.tagged q.vid) = true) ∧
    (let t : Nat := 0
     let f : EthRx := ⟨List.replicate 60 0xFE, true, 0, none, false⟩
     let p1 : Bool := true
     let pos : BitVec 3 := 4
     let on := { ((State.reset).modDie 5 (fun e => { e with present := true })).modDie 6 (fun e => { e with present := true }) with boot := { State.reset.boot with commitAt := some 0 } }
     let eth := fun (e : EthPort) => (liveIs (liveIs on 6 0x40 (ethOff 4) 5) 6 0x40 (ethOff 4 + 4) 0).modEth 1 4 (fun _ => e)
     let s : State := eth { link := true }
     let x := s.to t
     let p := portNo p1
     let n := pos.toNat
     let e := x.ethOf p n
     let q := ethParts f.bytes
     let runs := x.ethRuns p n = true ∧ e.link = true
     let room := (x.pdie p).room + rxRoom f ≤ rxBuffer
     let len := f.bytes.length + 4
     runs ∧ room ∧ f.sec = none ∧ len ≤ ethMax n ∧ f.fcsOk = true ∧ 64 ≤ len ∧
     (x.ethTakes p n q.dst && x.ethTag p n q.tagged q.vid) = false) ∧
    (let t : Nat := 0
     let f : EthRx := ⟨List.replicate 59 0xFF, true, 0, none, false⟩
     let p1 : Bool := true
     let pos : BitVec 3 := 4
     let on := { ((State.reset).modDie 5 (fun e => { e with present := true })).modDie 6 (fun e => { e with present := true }) with boot := { State.reset.boot with commitAt := some 0 } }
     let eth := fun (e : EthPort) => (liveIs (liveIs on 6 0x40 (ethOff 4) 5) 6 0x40 (ethOff 4 + 4) 0).modEth 1 4 (fun _ => e)
     let s : State := eth { link := true }
     let x := s.to t
     let p := portNo p1
     let n := pos.toNat
     let e := x.ethOf p n
     let runs := x.ethRuns p n = true ∧ e.link = true
     let room := (x.pdie p).room + rxRoom f ≤ rxBuffer
     let len := f.bytes.length + 4
     runs ∧ room ∧ f.sec = none ∧ len ≤ ethMax n ∧ (f.fcsOk = false ∨ len < 64)) ∧
    (let t : Nat := 0
     let m : RouteMsg := ⟨15, [[1, 2, 3, 4, 5, 6, 7, 8]], false, 8, 5⟩
     let p1 : Bool := true
     let a : BitVec 4 := 15
     let on := { ((State.reset).modDie 5 (fun e => { e with present := true })).modDie 6 (fun e => { e with present := true }) with boot := { State.reset.boot with commitAt := some 0 } }
     let s : State := on.modPdie 1 (fun d => { d with waiting := [m] })
     let x := s.to t
     let p := portNo p1
     let pop := edgeUp x ck4 x.now
     (x.pdie p).waiting = [m] ∧ m.a = a.toNat ∧ pop < m.readyAt) ∧
    (let m : RouteMsg := ⟨15, [[1, 2, 3, 4, 5, 6, 7, 8]], false, 8, 5⟩
     let p1 : Bool := true
     let a : BitVec 4 := 15
     let on := { ((State.reset).modDie 5 (fun e => { e with present := true })).modDie 6 (fun e => { e with present := true }) with boot := { State.reset.boot with commitAt := some 0 } }
     let s : State := on.modPdie 1 (fun d => { d with waiting := [m] })
     let t : Nat := 5
     let x := s.to t
     let p := portNo p1
     let pop := edgeUp x ck4 x.now
     (x.pdie p).waiting = [m] ∧ m.a = a.toNat ∧ m.first = false ∧ m.readyAt ≤ pop ∧ x.pdOn p = true ∧
     (∀ d ∈ x.routePlan p m, x.consFenced d.die d.q = false ∧ 1 ≤ x.credit d.die d.q (.port (pd p) a.toNat))) ∧
    (let t : Nat := 0
     let fl : Flit := { flit8 false false [1, 2, 3, 4, 5, 6, 7, 8] with k := 1 }
     let p1 : Bool := true
     let a : BitVec 4 := 15
     let on := { ((State.reset).modDie 5 (fun e => { e with present := true })).modDie 6 (fun e => { e with present := true }) with boot := { State.reset.boot with commitAt := some 0 } }
     let s : State := { liveIs (liveIs (liveIs on 6 0x40 0x33C 1) 6 0x40 0x33D 0x1003) 6 0x46 0x378 0xC1 with queue := [(512 * 6 + 3, queue1 .lat (.port 6 40) 0 [fl])] }
     let x := s.to t
     let p := portNo p1
     let z := x.handed p
     let as := x.txAssign p a.toNat
     let pop := edgeUp x ck4 x.now
     x.committed = true ∧ as.en = true ∧ x.pdOn p = true ∧ z.mbxHolds p a.toNat = false ∧
     z.head (pd p) as.q = some fl ∧ fl.last = false ∧ fl.poison = false ∧ (z.txOf p a.toNat).bad = false ∧
     (z.txOf p a.toNat).flits.length < 575 ∧ (z.txOf p a.toNat).popFrom ≤ pop ∧
     (z.queueOf (pd p) as.q).consumer.isSome = true) ∧
    (let t : Nat := 0
     let b : MbxSend := ⟨0, [[1, 2, 3, 4, 5, 6, 7, 8]], some 6, none⟩
     let t0 : Nat := 6
     let p1 : Bool := true
     let on := { ((State.reset).modDie 5 (fun e => { e with present := true })).modDie 6 (fun e => { e with present := true }) with boot := { State.reset.boot with commitAt := some 0 } }
     let s : State := on.modPdie 1 (fun d => { d with send := some b })
     let x := s.to t
     let p := portNo p1
     let z := x.handed p
     (z.pdie p).send = some b ∧ b.startAt = some t0 ∧ b.doneAt = none ∧ x.now < t0) ∧
    (let b : MbxSend := ⟨0, [[1, 2, 3, 4, 5, 6, 7, 8]], some 6, none⟩
     let t0 : Nat := 6
     let p1 : Bool := true
     let on := { ((State.reset).modDie 5 (fun e => { e with present := true })).modDie 6 (fun e => { e with present := true }) with boot := { State.reset.boot with commitAt := some 0 } }
     let s : State := on.modPdie 1 (fun d => { d with send := some b })
     let t : Nat := 6
     let x := s.to t
     let p := portNo p1
     let z := x.handed p
     (z.pdie p).send = some b ∧ b.startAt = some t0 ∧ b.doneAt = none ∧ t0 ≤ x.now ∧ x.pdOn p = true ∧
     (z.pdie p).hands = []) ∧
    (let w : TxFrame := ⟨[1, 2, 3], 64, 0, false, 0, false⟩
     let ws : List TxFrame := []
     let p1 : Bool := true
     let pos : BitVec 3 := 4
     let on := { ((State.reset).modDie 5 (fun e => { e with present := true })).modDie 6 (fun e => { e with present := true }) with boot := { State.reset.boot with commitAt := some 0 } }
     let eth := fun (e : EthPort) => (liveIs (liveIs on 6 0x40 (ethOff 4) 5) 6 0x40 (ethOff 4 + 4) 0).modEth 1 4 (fun _ => e)
     let s : State := eth { link := true, txq := [w] }
     let t : Nat := 6 * ck4
     let x := s.to t
     let p := portNo p1
     let n := pos.toNat
     let z := x.handed p
     let ez := z.ethOf p n
     ez.txq = w :: ws ∧ n ≠ 5 ∧ w.handedAt + 6 * ck4 ≤ x.now ∧ ez.freeAt ≤ x.now ∧ x.ethRuns p n = true ∧
     w.secured = false) ∧
    (let t : Nat := 0
     let p1 : Bool := true
     let on := { ((State.reset).modDie 5 (fun e => { e with present := true })).modDie 6 (fun e => { e with present := true }) with boot := { State.reset.boot with commitAt := some 0 } }
     let t1 := fun (e : EthPort) (r : T1sSt) => ((liveIs (liveIs on 6 0x40 (ethOff 5) 5) 6 0x40 (ethOff 5 + 4) 0).modEth 1 5 (fun _ => e)).modPdie 1 (fun d => { d with t1s := r })
     let s : State := t1 { link := true } {}
     let x := s.to t
     let p := portNo p1
     let z := x.handed p
     let t1 := (x.pdie p).t1s
     x.t1sRuns p = true ∧ (z.ethOf p 5).txq = [] ∧
     (x.t1sCoord p = true ∨ t1.noBeacon = true ∨ x.now < t1.beaconAt + msCk1)) ∧
    (let w : TxFrame := ⟨[1, 2, 3], 64, 0, false, 0, false⟩
     let p1 : Bool := true
     let on := { ((State.reset).modDie 5 (fun e => { e with present := true })).modDie 6 (fun e => { e with present := true }) with boot := { State.reset.boot with commitAt := some 0 } }
     let t1 := fun (e : EthPort) (r : T1sSt) => ((liveIs (liveIs on 6 0x40 (ethOff 5) 5) 6 0x40 (ethOff 5 + 4) 0).modEth 1 5 (fun _ => e)).modPdie 1 (fun d => { d with t1s := r })
     let s : State := t1 { link := true, txq := [w] } { run := 14 }
     let t : Nat := 6 * ck4
     let x := s.to t
     let p := portNo p1
     let z := x.handed p
     let t1 := (x.pdie p).t1s
     x.t1sRuns p = true ∧ (z.ethOf p 5).txq = [w] ∧ w.secured = false ∧ w.handedAt + 6 * ck4 ≤ x.now ∧
     (z.ethOf p 5).link = true ∧ t1.noBeacon = false ∧ (x.t1sCoord p = true ∨ x.now < t1.beaconAt + msCk1) ∧
     (z.ethOf p 5).txq ≠ [] ∧ t1.run < 15) ∧
    (let p1 : Bool := true
     let on := { ((State.reset).modDie 5 (fun e => { e with present := true })).modDie 6 (fun e => { e with present := true }) with boot := { State.reset.boot with commitAt := some 0 } }
     let t1 := fun (e : EthPort) (r : T1sSt) => ((liveIs (liveIs on 6 0x40 (ethOff 5) 5) 6 0x40 (ethOff 5 + 4) 0).modEth 1 5 (fun _ => e)).modPdie 1 (fun d => { d with t1s := r })
     let w : TxFrame := ⟨[1, 2, 3], 64, 0, false, 0, false⟩
     let s : State := t1 { link := true, txq := [w] } { run := 15 }
     let t : Nat := msCk1
     let x := s.to t
     let p := portNo p1
     let z := x.handed p
     let t1 := (x.pdie p).t1s
     x.t1sRuns p = true ∧ (t1.noBeacon = true ∨ (x.t1sCoord p = false ∧ t1.beaconAt + msCk1 ≤ x.now)) ∧
     x.t1sCoord p = false ∧ t1.noBeacon = false ∧ t1.beaconAt + msCk1 ≤ x.now ∧ (z.ethOf p 5).txq ≠ [] ∧
     15 ≤ t1.run) ∧
    (let t : Nat := 0
     let p1 : Bool := true
     let on := { ((State.reset).modDie 5 (fun e => { e with present := true })).modDie 6 (fun e => { e with present := true }) with boot := { State.reset.boot with commitAt := some 0 } }
     let eth := fun (e : EthPort) => (liveIs (liveIs on 6 0x40 (ethOff 4) 5) 6 0x40 (ethOff 4 + 4) 0).modEth 1 4 (fun _ => e)
     let s : State := (eth { link := true }).modPdie 1 (fun d => { d with hands := [⟨15, [1, 2, 3], 0, 4, 56⟩] })
     let h : TxHand := ⟨15, [1, 2, 3], 0, 4, 56⟩
     let x := s.to t
     let p := portNo p1
     (x.pdie p).hands = [h] ∧ x.now < h.at_) ∧
    (let p1 : Bool := true
     let pos : BitVec 3 := 4
     let on := { ((State.reset).modDie 5 (fun e => { e with present := true })).modDie 6 (fun e => { e with present := true }) with boot := { State.reset.boot with commitAt := some 0 } }
     let eth := fun (e : EthPort) => (liveIs (liveIs on 6 0x40 (ethOff 4) 5) 6 0x40 (ethOff 4 + 4) 0).modEth 1 4 (fun _ => e)
     let s : State := (eth { link := true }).modPdie 1 (fun d => { d with hands := [⟨15, [1, 2, 3], 0, 4, 56⟩] })
     let h : TxHand := ⟨15, [1, 2, 3], 0, 4, 56⟩
     let t : Nat := 56
     let x := s.to t
     let p := portNo p1
     let n := pos.toNat
     let e := x.ethOf p n
     let runs := x.ethRuns p n = true ∧ e.link = true
     (x.pdie p).hands = [h] ∧ h.at_ ≤ x.now ∧ x.pdOn p = true ∧ h.pos = n ∧ runs ∧
     2 * h.words.length + 22 ≤ ethMax n ∧ x.macsec p n = false) ∧
    (let t : Nat := 0
     let fl : Flit := { flit8 true false [1, 2, 3, 4, 5, 6, 7, 8] with k := 1 }
     let p1 : Bool := true
     let a : BitVec 4 := 15
     let on := { ((State.reset).modDie 5 (fun e => { e with present := true })).modDie 6 (fun e => { e with present := true }) with boot := { State.reset.boot with commitAt := some 0 } }
     let s : State := { liveIs (liveIs (liveIs on 6 0x40 0x33C 1) 6 0x40 0x33D 0x1003) 6 0x46 0x378 0xC1 with queue := [(512 * 6 + 3, queue1 .lat (.port 6 40) 0 [{ flit8 true false [1, 2, 3, 4, 5, 6, 7, 8] with k := 1 }])] }
     let x := s.to t
     let p := portNo p1
     let z := x.handed p
     let as := x.txAssign p a.toNat
     let pop := edgeUp x ck4 x.now
     x.committed = true ∧ as.en = true ∧ x.pdOn p = true ∧ z.mbxHolds p a.toNat = false ∧
     z.head (pd p) as.q = some fl ∧ fl.last = true ∧ fl.poison = false ∧ (z.txOf p a.toNat).bad = false ∧
     (z.txOf p a.toNat).popFrom ≤ pop ∧ (z.pdie p).hands = []) ∧
    (let w : TxFrame := ⟨[1, 2, 3], 64, 0, false, 0, false⟩
     let ws : List TxFrame := []
     let p1 : Bool := true
     let pos : BitVec 3 := 4
     let on := { ((State.reset).modDie 5 (fun e => { e with present := true })).modDie 6 (fun e => { e with present := true }) with boot := { State.reset.boot with commitAt := some 0 } }
     let eth := fun (e : EthPort) => (liveIs (liveIs on 6 0x40 (ethOff 4) 5) 6 0x40 (ethOff 4 + 4) 0).modEth 1 4 (fun _ => e)
     let s : State := eth { link := true, txq := [w] }
     let t : Nat := 5
     let x := s.to t
     let p := portNo p1
     let n := pos.toNat
     let z := x.handed p
     let ez := z.ethOf p n
     ez.txq = w :: ws ∧ x.now < w.handedAt + 6 * ck4) := by
  refine ⟨?_, ?_, ?_, ?_, ?_, ?_, ?_, ?_, ?_, ?_, ?_, ?_, ?_, ?_, ?_, ?_, ?_, ?_⟩ <;> decide +kernel

theorem wit_CanCvuDma :
    (let t : Nat := 0
     let p1 : Bool := true
     let k : BitVec 1 := 1
     let as : BitVec 4 := 15
     let s : State := State.reset
     let x := s.to t
     let p := portNo p1
     let n := k.toNat
     let c := x.canOf p n
     let r := x.rxOf p as.toNat
     (x.canRuns p n = false ∨ c.state = 2) ∧ c.fifo = [] ∧ (x.canRuns p n = false ∨ x.canQuiet p n = true) ∧
     (x.canRuns p n = false ∨ c.state ≠ 2) ∧ r.dueAt = none) ∧
    (let t : Nat := 0
     let p1 : Bool := true
     let k : BitVec 1 := 1
     let f : CanFrame := ⟨0, false, false, false, false, 3, 0, 0, [], ⟨0, 0, 0⟩⟩
     let b : Burst := ⟨4, 3, BitVec.ofNat 48 (poolBase 4), BitVec.ofNat 48 (poolBase 4 + 8), 8⟩
     let on := { ([1, 2, 3, 4, 5, 6].foldl (fun (y : State) i => y.modDie i (fun e => { e with present := true })) State.reset) with boot := { State.reset.boot with commitAt := some 0 }, dies := { ([1, 2, 3, 4, 5, 6].foldl (fun (y : State) i => y.modDie i (fun e => { e with present := true })) State.reset).dies with enumEnd := some 0 } }
     let can := fun (c : CanSt) => (liveIs (liveIs (liveIs on 6 0x42 0x200 1) 6 0x42 0x504 1) 6 0x42 0x502 3).modCan 1 1 (fun _ => c)
     let s : State := can {}
     let x := s.to t
     let p := portNo p1
     let n := k.toNat
     let c := x.canOf p n
     let found := (List.range 16).find? (x.canMatch p n f)
     let src := pieces (wordsFrom b.src.toNat b.n)
     let dst := pieces (wordsFrom b.dst.toNat b.n)
     let unit := x.dieUnit b.die.toNat b.ch.toNat
     x.canRuns p n = true ∧ c.state ≠ 2 ∧ found = none ∧ isCompute b.die.toNat = true ∧
     (x.die b.die.toNat).fenced = false ∧ (x.die 0).fenced = false ∧ x.mpuCheck unit .read false src = none ∧
     x.mpuCheck unit .write (!src.isEmpty) dst = none ∧
     x.flag b.die.toNat 0x31 (0x104 + 0x100 * b.ch.toNat) 15 = false ∧
     refusedPiece (x.dmaRefuses b .read) false src = none ∧
     refusedPiece (x.dmaRefuses b .write) false dst = none ∧
     inRange b.src.toNat (poolBase b.die.toNat) poolLen = true ∧ b.n ≤ 8 ∧ b.src.toNat % 8 + b.n ≤ 8 ∧
     b.dst.toNat = b.src.toNat + 8 ∧ b.src.toNat + 16 ≤ poolBase b.die.toNat + poolLen ∧
     x.classAt (b.src.toNat / 8) = .none ∧ x.classAt (b.src.toNat / 8 + 1) = .none) ∧
    (let t : Nat := 0
     let p1 : Bool := true
     let k : BitVec 1 := 1
     let f : CanFrame := ⟨0, false, false, false, false, 4, 0, 0, [], ⟨0, 0, 0⟩⟩
     let on := { ([1, 2, 3, 4, 5, 6].foldl (fun (y : State) i => y.modDie i (fun e => { e with present := true })) State.reset) with boot := { State.reset.boot with commitAt := some 0 }, dies := { ([1, 2, 3, 4, 5, 6].foldl (fun (y : State) i => y.modDie i (fun e => { e with present := true })) State.reset).dies with enumEnd := some 0 } }
     let can := fun (c : CanSt) => (liveIs (liveIs (liveIs on 6 0x42 0x200 1) 6 0x42 0x504 1) 6 0x42 0x502 3).modCan 1 1 (fun _ => c)
     let s : State := can {}
     let x := s.to t
     let p := portNo p1
     let n := k.toNat
     let c := x.canOf p n
     let found := (List.range 16).find? (x.canMatch p n f)
     x.canRuns p n = true ∧ c.state ≠ 2 ∧ found.isSome = true ∧ c.fifo.length < 64) ∧
    (let t : Nat := 0
     let p1 : Bool := true
     let k : BitVec 1 := 1
     let f : CanFrame := ⟨0, false, false, false, false, 4, 0, 0, [], ⟨0, 0, 0⟩⟩
     let ws : List Word := [1]
     let m : CanRx := ⟨5, 3, [[1, 2, 3, 4, 5, 6, 7, 8]], 5⟩
     let on := { ([1, 2, 3, 4, 5, 6].foldl (fun (y : State) i => y.modDie i (fun e => { e with present := true })) State.reset) with boot := { State.reset.boot with commitAt := some 0 }, dies := { ([1, 2, 3, 4, 5, 6].foldl (fun (y : State) i => y.modDie i (fun e => { e with present := true })) State.reset).dies with enumEnd := some 0 } }
     let can := fun (c : CanSt) => (liveIs (liveIs (liveIs on 6 0x42 0x200 1) 6 0x42 0x504 1) 6 0x42 0x502 3).modCan 1 1 (fun _ => c)
     let s : State := can { fifo := List.replicate 64 m, sending := some ws }
     let x := s.to t
     let p := portNo p1
     let n := k.toNat
     let c := x.canOf p n
     let found := (List.range 16).find? (x.canMatch p n f)
     x.canRuns p n = true ∧ c.state ≠ 2 ∧ found.isSome = true ∧ 64 ≤ c.fifo.length ∧ x.canQuiet p n = false ∧
     c.sending = some ws) ∧
    (let t : Nat := 0
     let p1 : Bool := true
     let k : BitVec 1 := 1
     let on := { ([1, 2, 3, 4, 5, 6].foldl (fun (y : State) i => y.modDie i (fun e => { e with present := true })) State.reset) with boot := { State.reset.boot with commitAt := some 0 }, dies := { ([1, 2, 3, 4, 5, 6].foldl (fun (y : State) i => y.modDie i (fun e => { e with present := true })) State.reset).dies with enumEnd := some 0 } }
     let can := fun (c : CanSt) => (liveIs (liveIs (liveIs on 6 0x42 0x200 1) 6 0x42 0x504 1) 6 0x42 0x502 3).modCan 1 1 (fun _ => c)
     let s : State := can { state := 2 }
     let x := s.to t
     let p := portNo p1
     let n := k.toNat
     let c := x.canOf p n
     x.canRuns p n = true ∧ c.state = 2) ∧
    (let t : Nat := 0
     let p1 : Bool := true
     let k : BitVec 1 := 1
     let m : CanRx := ⟨5, 3, [[1, 2, 3, 4, 5, 6, 7, 8]], 5⟩
     let on := { ([1, 2, 3, 4, 5, 6].foldl (fun (y : State) i => y.modDie i (fun e => { e with present := true })) State.reset) with boot := { State.reset.boot with commitAt := some 0 }, dies := { ([1, 2, 3, 4, 5, 6].foldl (fun (y : State) i => y.modDie i (fun e => { e with present := true })) State.reset).dies with enumEnd := some 0 } }
     let can := fun (c : CanSt) => (liveIs (liveIs (liveIs on 6 0x42 0x200 1) 6 0x42 0x504 1) 6 0x42 0x502 3).modCan 1 1 (fun _ => c)
     let s : State := can { fifo := [m] }
     let x := s.to t
     let p := portNo p1
     let n := k.toNat
     let c := x.canOf p n
     c.fifo = [m] ∧ (x.now < m.readyAt ∨ x.pdOn p = false)) ∧
    (let p1 : Bool := true
     let k : BitVec 1 := 1
     let m : CanRx := ⟨5, 3, [[1, 2, 3, 4, 5, 6, 7, 8]], 5⟩
     let on := { ([1, 2, 3, 4, 5, 6].foldl (fun (y : State) i => y.modDie i (fun e => { e with present := true })) State.reset) with boot := { State.reset.boot with commitAt := some 0 }, dies := { ([1, 2, 3, 4, 5, 6].foldl (fun (y : State) i => y.modDie i (fun e => { e with present := true })) State.reset).dies with enumEnd := some 0 } }
     let can := fun (c : CanSt) => (liveIs (liveIs (liveIs on 6 0x42 0x200 1) 6 0x42 0x504 1) 6 0x42 0x502 3).modCan 1 1 (fun _ => c)
     let s : State := { can { fifo := [m] } with queue := [(512 * 5 + 3, queue1 (.port 6 17) (.core 0) 1 [])] }
     let t : Nat := 5
     let x := s.to t
     let p := portNo p1
     let n := k.toNat
     let c := x.canOf p n
     c.fifo = [m] ∧ m.readyAt ≤ x.now ∧ x.pdOn p = true ∧ x.consFenced m.die m.q = false ∧
     1 ≤ x.credit m.die m.q (.port (pd p) (16 + n))) ∧
    (let t : Nat := 0
     let p1 : Bool := true
     let t0 : Nat := 5
     let as : BitVec 4 := 15
     let on := { ([1, 2, 3, 4, 5, 6].foldl (fun (y : State) i => y.modDie i (fun e => { e with present := true })) State.reset) with boot := { State.reset.boot with commitAt := some 0 }, dies := { ([1, 2, 3, 4, 5, 6].foldl (fun (y : State) i => y.modDie i (fun e => { e with present := true })) State.reset).dies with enumEnd := some 0 } }
     let s : State := on.modRx 1 15 (fun r => { r with dueAt := some 5 })
     let x := s.to t
     let p := portNo p1
     let r := x.rxOf p as.toNat
     r.dueAt = some t0 ∧ (x.now < t0 ∨ (x.die (pd p)).fenced = true)) ∧
    (let p1 : Bool := true
     let b : Burst := ⟨7, 0, 0, 0, 1⟩
     let t0 : Nat := 5
     let as : BitVec 4 := 15
     let on := { ([1, 2, 3, 4, 5, 6].foldl (fun (y : State) i => y.modDie i (fun e => { e with present := true })) State.reset) with boot := { State.reset.boot with commitAt := some 0 }, dies := { ([1, 2, 3, 4, 5, 6].foldl (fun (y : State) i => y.modDie i (fun e => { e with present := true })) State.reset).dies with enumEnd := some 0 } }
     let s : State := on.modRx 1 15 (fun r => { r with dueAt := some 5 })
     let t : Nat := 5
     let x := s.to t
     let p := portNo p1
     let r := x.rxOf p as.toNat
     r.dueAt = some t0 ∧ t0 ≤ x.now ∧ (x.die (pd p)).fenced = false ∧
     (dmaExists b.die.toNat b.ch.toNat = false ∨ (x.die b.die.toNat).fenced = true)) := by
  refine ⟨?_, ?_, ?_, ?_, ?_, ?_, ?_, ?_, ?_⟩ <;> decide +kernel

theorem wit_RegisterWrites :
    (let t : Nat := 0
     let w32 : BitVec 32 := 0
     let w80 : BitVec 80 := 0
     let f : Flit := flit8 true true [1, 2, 3, 4, 5, 6, 7, 8]
     let a : Addr := 5
     let c : CoreId := 255
     let die : DieAddr := 4
     let up := { State.reset with dies := { State.reset.dies with enumEnd := some 0 } }
     let s : State := up
     let v : Word := 7
     let x := s.to t
     let fn := v.toNat % 8
     let q := v.toNat % 512
     let inj := v ||| 0x8000
     isCsr a.toNat = false ∧ x.csrRefuses .trifle true (csrAddr 0 0x00 0x22) v = none ∧ (fn = 0 ∨ fn = 7) ∧
     x.csrRefuses .trifle true (csrAddr 0 0x02 0) inj = none ∧ x.cfg.job = none ∧ x.cfg.state.open = true ∧
     x.life ≠ 3 ∧ x.csrRefuses .trifle true (csrAddr 0 0x07 0x18) (v ||| 1) = none ∧ x.pLen = 0 ∧
     (∀ i < 0x14, 8 ≤ i → (regAt 0 0x47 i).isSome = true → x.csrRefuses .trifle true (csrAddr 0 0x47 i) 0 = none) ∧
     (w32.toNat ≤ 500000 ∨ 2 ^ 32 - 500000 ≤ w32.toNat) ∧ w80.toNat % 2 ^ 32 ≤ 999999999 ∧
     x.csrRefuses .trifle true (csrAddr (coreDie c.toNat) (coreBlk c.toNat) (coreOff c.toNat + 6)) 0 = none ∧
     x.csrRefuses .trifle true (csrAddr (coreDie c.toNat) (coreBlk c.toNat) (coreOff c.toNat + 7)) 0 = none ∧
     x.csrRefuses .trifle true (csrAddr die.toNat 0x30 5) v = none ∧ q < queueCount die.toNat ∧
     (x.head die.toNat q = none ∨ (x.head die.toNat q = some f ∧ f.poison = false)) ∧
     x.csrRefuses .trifle true (csrAddr 0 0x05 0x20) inj = none ∧
     x.csrRefuses .trifle true (csrAddr die.toNat 0x32 3) inj = none) ∧
    (let t : Nat := 0
     let a : Addr := BitVec.ofNat 48 (csrAddr 7 0 0)
     let r : Row := (regAt (csrDie a.toNat) (csrBlk a.toNat) (csrOff a.toNat)).getD (Row.ro 0)
     let up := { State.reset with dies := { State.reset.dies with enumEnd := some 0 } }
     let s : State := up
     let v : Word := 6
     let x := s.to t
     let d := csrDie a.toNat
     let b := csrBlk a.toNat
     let o := csrOff a.toNat
     let fn := v.toNat % 8
     isCsr a.toNat = true ∧ x.csrRefuses .trifle true a.toNat v = none ∧ regAt d b o = some r ∧
     r.writable = 0 ∧ x.csrRefuses .trifle true (csrAddr 0 0x00 0x22) v = none ∧ 1 ≤ fn ∧ fn ≤ 6 ∧
     (x.die fn).fenced = false) ∧
    (let t : Nat := 0
     let up := { State.reset with dies := { State.reset.dies with enumEnd := some 0 } }
     let s : State := up
     let w32 : BitVec 32 := 0x80000000
     let w80 : BitVec 80 := 0xFFFFFFFF
     let x := s.to t
     (∀ i < 0x14, 8 ≤ i → (regAt 0 0x47 i).isSome = true → x.csrRefuses .trifle true (csrAddr 0 0x47 i) 0 = none) ∧
     500000 < w32.toNat ∧ w32.toNat < 2 ^ 32 - 500000 ∧ 999999999 < w80.toNat % 2 ^ 32) ∧
    (let t : Nat := 0
     let a : Addr := BitVec.ofNat 48 (csrAddr 0 8 4)
     let r : Row := (regAt (csrDie a.toNat) (csrBlk a.toNat) (csrOff a.toNat)).getD (Row.ro 0)
     let up := { State.reset with dies := { State.reset.dies with enumEnd := some 0 } }
     let s : State := up
     let v : Word := 7
     let x := s.to t
     let d := csrDie a.toNat
     let b := csrBlk a.toNat
     let o := csrOff a.toNat
     isCsr a.toNat = true ∧ x.csrRefuses .trifle true a.toNat v = none ∧ regAt d b o = some r ∧ r.words = 1 ∧
     r.onlyRwl = true ∧ x.cfg.state.open = true ∧ reservedEnc d b o v.toNat = false ∧ b ≠ 0x07) ∧
    (let t : Nat := 0
     let a : Addr := BitVec.ofNat 48 (csrAddr 0 8 4)
     let r : Row := (regAt (csrDie a.toNat) (csrBlk a.toNat) (csrOff a.toNat)).getD (Row.ro 0)
     let up := { State.reset with dies := { State.reset.dies with enumEnd := some 0 } }
     let cfg := up.cfg
     let s : State := { up with cfg := { cfg with state := .run } }
     let v : Word := 0
     let x := s.to t
     let d := csrDie a.toNat
     let b := csrBlk a.toNat
     let o := csrOff a.toNat
     let inj := v ||| 0x8000
     isCsr a.toNat = true ∧ x.csrRefuses .trifle true a.toNat v = none ∧ regAt d b o = some r ∧ r.words = 1 ∧
     r.onlyRwl = true ∧ x.cfg.state.open = false ∧ x.csrRefuses .trifle true (csrAddr 0 0x02 0) inj = none ∧
     x.cfg.job = none ∧ v.getLsbD 1 = false) ∧
    (let t : Nat := 0
     let up := { State.reset with dies := { State.reset.dies with enumEnd := some 0 } }
     let cfg := up.cfg
     let s : State := { up with cfg := { cfg with state := .loaded } }
     let v : Word := 0
     let x := s.to t
     let inj := v ||| 0x8000
     x.csrRefuses .trifle true (csrAddr 0 0x02 0) inj = none ∧ x.cfg.job = none ∧ x.cfg.state.open = true ∧
     x.life ≠ 3 ∧ v.getLsbD 1 = false ∧ x.cfg.staged = false) ∧
    (let t : Nat := 0
     let a : Addr := BitVec.ofNat 48 (csrAddr 0 8 4)
     let r : Row := (regAt (csrDie a.toNat) (csrBlk a.toNat) (csrOff a.toNat)).getD (Row.ro 0)
     let up := { State.reset with dies := { State.reset.dies with enumEnd := some 0 } }
     let cfg := up.cfg
     let s : State := { up with cfg := { cfg with state := .loaded, staged := true } }
     let v : Word := 0xFFFF
     let x := s.to t
     let d := csrDie a.toNat
     let b := csrBlk a.toNat
     let o := csrOff a.toNat
     isCsr a.toNat = true ∧ x.csrRefuses .trifle true a.toNat v = none ∧ regAt d b o = some r ∧ r.words = 1 ∧
     r.onlyRwl = true ∧ x.cfg.state.open = true ∧ reservedEnc d b o v.toNat = true ∧ b < 0x10) ∧
    (let t : Nat := 0
     let up := { State.reset with dies := { State.reset.dies with enumEnd := some 0 } }
     let cfg := up.cfg
     let s : State := { up with cfg := { cfg with state := .loaded, staged := true } }
     let v : Word := 0xFFFD
     let x := s.to t
     let inj := v ||| 0x8000
     x.csrRefuses .trifle true (csrAddr 0 0x02 0) inj = none ∧ x.cfg.job = none ∧ x.cfg.state.open = true ∧
     x.life ≠ 3 ∧ v.getLsbD 1 = false ∧ x.cfg.staged = true) ∧
    (let t : Nat := 0
     let up := { State.reset with dies := { State.reset.dies with enumEnd := some 0 } }
     let cfg := up.cfg
     let s : State := { up with cfg := { cfg with job := some ⟨true, false, false, 0, false⟩ } }
     let v : Word := 7
     let x := s.to t
     let inj := v ||| 0x8000
     x.csrRefuses .trifle true (csrAddr 0 0x02 0) inj = none ∧ x.cfg.job.isSome = true) ∧
    (let t : Nat := 0
     let f : Flit := flit8 true true [1, 2, 3, 4, 5, 6, 7, 8]
     let die : DieAddr := 4
     let up := { State.reset with dies := { State.reset.dies with enumEnd := some 0 } }
     let s : State := { up with queue := [(512 * 4 + 7, queue1 .lat (.core 0) 0 [f])] }
     let v : Word := 7
     let x := s.to t
     let q := v.toNat % 512
     x.csrRefuses .trifle true (csrAddr die.toNat 0x30 5) v = none ∧ q < queueCount die.toNat ∧
     x.head die.toNat q = some f ∧ f.poison = true ∧ (x.queueOf die.toNat q).consumer.isSome = true) ∧
    (let t : Nat := 0
     let a : Addr := BitVec.ofNat 48 (csrAddr 0 0x31 0x104)
     let r : Row := (regAt (csrDie a.toNat) (csrBlk a.toNat) (csrOff a.toNat)).getD (Row.ro 0)
     let up := { State.reset with dies := { State.reset.dies with enumEnd := some 0 } }
     let s : State := up
     let v : Word := 0
     let x := s.to t
     let d := csrDie a.toNat
     let b := csrBlk a.toNat
     let o := csrOff a.toNat
     let inj := v ||| 0x8000
     isCsr a.toNat = true ∧ x.csrRefuses .trifle true a.toNat inj = none ∧ regAt d b o = some r ∧ r.words = 1 ∧
     r.rwl = 0 ∧ r.rw = 0 ∧ r.wo = 0 ∧ r.w1c = 0x8000 ∧ (b = 0x31 ∨ (0x10 ≤ b ∧ b < 0x30))) ∧
    (let t : Nat := 0
     let a : Addr := BitVec.ofNat 48 (csrAddr 4 0x31 0x504)
     let up := { State.reset with dies := { State.reset.dies with enumEnd := some 0 } }
     let s : State := up
     let v : Word := 7
     let x := s.to t
     isCsr a.toNat = true ∧ x.csrRefuses .trifle true a.toNat v ≠ none) := by
  refine ⟨?_, ?_, ?_, ?_, ?_, ?_, ?_, ?_, ?_, ?_, ?_, ?_⟩ <;> decide +kernel

theorem wit_EventRegisterWrites :
    (let t : Nat := 0
     let v : Word := 0
     let up := { State.reset with dies := { State.reset.dies with enumEnd := some 0 } }
     let s : State := up
     let n : Nat := 31
     let i : Nat := 0xFFF
     let w : WdtId := .twd 1
     let x := s.to t
     let may : Nat → Nat → Nat → Word → Prop := fun die blk off v => x.csrRefuses .trifle true (csrAddr die blk off) v = none
     let k := wdtNo w
     let u := x.wdtOf k
     let svc := may (wdtDie k) 0x04 (wdtOff k + 6) v
     x.csrRefuses .trifle true (csrAddr 0 0x03 8) v = none ∧ n < 32 ∧
     x.csrRefuses .trifle true (csrAddr 0 0x03 (0x1000 + i % 0x1000)) v = none ∧
     x.csrRefuses .trifle true (csrAddr 0 0x03 0x25) v = none ∧
     x.csrRefuses .trifle true (csrAddr 0 0x03 0xA) 0 = none ∧ v.toNat % 4 ≠ 3 ∧ svc ∧ k < 256 ∧
     u.running = false ∧ x.csrRefuses .trifle true (csrAddr 0 0x0C 0x1F) v = none ∧ x.flagL 0 0x0C 1 0 = false) ∧
    (let up := { State.reset with dies := { State.reset.dies with enumEnd := some 0 } }
     let regs := fun (mode bound : Word) => liveIs (liveIs (liveIs (liveIs { up with wdt := { up.wdt with unit := [(1, { running := true, chal := 5 })] } } 0 4 (wdtOff 1) mode) 0 4 (wdtOff 1 + 1) 0xFFFF) 0 4 (wdtOff 1 + 3) 0xFFFF) 0 4 (wdtOff 1 + 5) bound
     let s : State := regs 1 77
     let w : WdtId := .twd 1
     let v : Word := wdtToken 5 77
     let t : Nat := 3000
     let x := s.to t
     let may : Nat → Nat → Nat → Word → Prop := fun die blk off v => x.csrRefuses .trifle true (csrAddr die blk off) v = none
     let k := wdtNo w
     let u := x.wdtOf k
     let svc := may (wdtDie k) 0x04 (wdtOff k + 6) v
     let p := ck8Up x x.now - u.start
     svc ∧ k < 256 ∧ u.running = true ∧ u.frozenAt = none ∧ x.wdtMode k = 1 ∧ p < x.wdtLimit k ∧
     x.wdtOpen k p = true ∧ v = wdtToken u.chal (BitVec.ofNat 16 (x.wdtWord k 5))) ∧
    (let up := { State.reset with dies := { State.reset.dies with enumEnd := some 0 } }
     let regs := fun (mode bound : Word) => liveIs (liveIs (liveIs (liveIs { up with wdt := { up.wdt with unit := [(1, { running := true, chal := 5 })] } } 0 4 (wdtOff 1) mode) 0 4 (wdtOff 1 + 1) 0xFFFF) 0 4 (wdtOff 1 + 3) 0xFFFF) 0 4 (wdtOff 1 + 5) bound
     let s : State := regs 2 0x8000
     let w : WdtId := .twd 1
     let v : Word := 15
     let t : Nat := 3000
     let x := s.to t
     let may : Nat → Nat → Nat → Word → Prop := fun die blk off v => x.csrRefuses .trifle true (csrAddr die blk off) v = none
     let k := wdtNo w
     let u := x.wdtOf k
     let svc := may (wdtDie k) 0x04 (wdtOff k + 6) v
     let p := ck8Up x x.now - u.start
     svc ∧ k < 256 ∧ u.running = true ∧ u.frozenAt = none ∧ x.wdtMode k = 2 ∧ v.toNat < 16 ∧ p < x.wdtLimit k ∧
     x.wdtOpen k p = true ∧ bit (x.wdtWord k 5) v.toNat = true ∧ u.done.getLsbD v.toNat = false) ∧
    (let t : Nat := 0
     let up := { State.reset with dies := { State.reset.dies with enumEnd := some 0 } }
     let regs := fun (mode bound : Word) => liveIs (liveIs (liveIs (liveIs { up with wdt := { up.wdt with unit := [(1, { running := true, chal := 5 })] } } 0 4 (wdtOff 1) mode) 0 4 (wdtOff 1 + 1) 0xFFFF) 0 4 (wdtOff 1 + 3) 0xFFFF) 0 4 (wdtOff 1 + 5) bound
     let s : State := regs 2 0x8000
     let w : WdtId := .twd 1
     let v : Word := 16
     let x := s.to t
     let may : Nat → Nat → Nat → Word → Prop := fun die blk off v => x.csrRefuses .trifle true (csrAddr die blk off) v = none
     let k := wdtNo w
     let u := x.wdtOf k
     let svc := may (wdtDie k) 0x04 (wdtOff k + 6) v
     svc ∧ k < 256 ∧ u.running = true ∧ u.frozenAt = none ∧ x.wdtMode k = 2 ∧ 16 ≤ v.toNat) ∧
    (let t : Nat := 0
     let v : Word := 0
     let up := { State.reset with dies := { State.reset.dies with enumEnd := some 0 } }
     let s : State := liveIs (up.modDie 7 (fun d => { d with present := true })) 0 0xC 1 7
     let x := s.to t
     x.csrRefuses .trifle true (csrAddr 0 0x0C 0x1F) v = none ∧ x.flagL 0 0x0C 1 0 = true ∧
     x.bbx.fwHour = x.bbx.fldSecs / 3600 ∧ x.bbx.fwTaken < x.fldL 0 0x0C 1 5 1 ∧ x.nvGone = false ∧
     x.flushing = false ∧ x.bbx.full = false ∧ x.bbx.fifo.length < 16) ∧
    (let t : Nat := 0
     let v : Word := 0
     let up := { State.reset with dies := { State.reset.dies with enumEnd := some 0 } }
     let s : State := liveIs (up.modDie 7 (fun d => { d with present := true })) 0 0xC 1 1
     let x := s.to t
     x.csrRefuses .trifle true (csrAddr 0 0x0C 0x1F) v = none ∧ x.flagL 0 0x0C 1 0 = true ∧
     x.bbx.fwHour = x.bbx.fldSecs / 3600 ∧ x.fldL 0 0x0C 1 5 1 ≤ x.bbx.fwTaken) := by
  refine ⟨?_, ?_, ?_, ?_, ?_, ?_⟩ <;> decide +kernel

theorem wit_PortRegisterWrites :
    (let t : Nat := 0
     let v : Word := 0
     let p1 : Bool := true
     let n : BitVec 2 := 3
     let u1 : BitVec 1 := 1
     let up := { State.reset with dies := { State.reset.dies with enumEnd := some 0 } }
     let s : State := up
     let x := s.to t
     let p := portNo p1
     let d := pd p
     let co := calcOff n.toNat
     let un := 0x40 * u1.toNat
     x.csrRefuses .trifle true (csrAddr d 0x46 co) (v ||| 4) = none ∧ x.cfg.state.open = true ∧
     v.toNat % 4 ≠ 3 ∧ v.toNat / 8 % 2 = 0 ∧ x.csrRefuses .trifle true (csrAddr d 0x46 (co + 1)) v = none ∧
     x.csrRefuses .trifle true (csrAddr d 0x46 8) (v ||| 0x8000) = none ∧
     x.csrRefuses .trifle true (csrAddr d 0x40 4) v = none ∧ (v.getLsbD 0 = false ∨ x.mbxBusy p = true) ∧
     x.csrRefuses .trifle true (csrAddr d 0x40 7) v = none ∧
     x.csrRefuses .trifle true (csrAddr d 0x40 0x210) (v ||| 8) = none ∧
     x.csrRefuses .trifle true (csrAddr 5 0x43 3) v = none ∧
     x.csrRefuses .trifle true (csrAddr 5 0x43 4) v = none ∧
     x.csrRefuses .trifle true (csrAddr d 0x44 2) v = none ∧
     x.csrRefuses .trifle true (csrAddr d 0x44 2) (v ||| 1) = none ∧
     x.csrRefuses .trifle true (csrAddr d 0x44 2) (v ||| 2) = none ∧
     x.csrRefuses .trifle true (csrAddr d 0x44 6) v = none ∧
     x.csrRefuses .trifle true (csrAddr d 0x44 7) v = none ∧
     x.csrRefuses .trifle true (csrAddr d 0x45 (0x102 + un)) v = none ∧
     x.csrRefuses .trifle true (csrAddr d 0x45 (0x103 + un)) v = none ∧
     x.csrRefuses .trifle true (csrAddr d 0x45 (0x105 + un)) v = none ∧
     x.csrRefuses .trifle true (csrAddr d 0x45 0x302) v = none ∧
     x.csrRefuses .trifle true (csrAddr d 0x45 0x303) v = none) ∧
    (let t : Nat := 0
     let p1 : Bool := true
     let up := { State.reset with dies := { State.reset.dies with enumEnd := some 0 } }
     let s : State := up
     let v : Word := 1
     let x := s.to t
     let p := portNo p1
     let d := pd p
     let z := x.handed p
     let pdie := z.pdie p
     let e := pdie.mbxTx
     x.csrRefuses .trifle true (csrAddr d 0x40 4) v = none ∧ v.getLsbD 0 = true ∧ x.mbxBusy p = false ∧
     wordAt e 0 ≠ 1 ∧ wordAt e 0 ≠ 2) ∧
    (let t : Nat := 0
     let p1 : Bool := true
     let up := { State.reset with dies := { State.reset.dies with enumEnd := some 0 } }
     let s : State := liveIs ({ up with boot := { up.boot with commitAt := some 0 } }.modPdie 1 (fun d => { d with mbxTx := [1, 0x0F00, 3] })) 6 0x46 0x378 1
     let v : Word := 1
     let x := s.to t
     let p := portNo p1
     let d := pd p
     let z := x.handed p
     let pdie := z.pdie p
     let e := pdie.mbxTx
     x.csrRefuses .trifle true (csrAddr d 0x40 4) v = none ∧ v.getLsbD 0 = true ∧ x.mbxBusy p = false ∧
     wordAt e 0 = 1 ∧ (z.txAssign p (bits (wordAt e 1).toNat 11 8)).en = true) := by
  refine ⟨?_, ?_, ?_⟩ <;> decide +kernel

theorem wit_FailedLoads :
    (let t : Nat := 0
     let j : CfgJob := ⟨true, false, false, 0, false⟩
     let s : State := { State.reset with cfg := { State.reset.cfg with job := some j } }
     let code : Nat := match ((s.to t).loadReads j.slot).loadCheck j.slot with | some x => x.1 | none => 0
     let item : BitVec 32 := match ((s.to t).loadReads j.slot).loadCheck j.slot with | some x => x.2 | none => 0
     let x := s.to t
     x.cfg.job = some j ∧ j.loading = true ∧ (x.loadReads j.slot).loadCheck j.slot = some (code, item)) := by
  decide +kernel

theorem wit_RefusedChecks :
    (let t : Nat := 0
     let j : CfgJob := ⟨false, false, false, 0, false⟩
     let s : State := { State.reset with cfg := { State.reset.cfg with job := some j, state := .loaded } }
     let code : Nat := match (s.to t).checkResult j with | some x => x.1 | none => 0
     let item : BitVec 32 := match (s.to t).checkResult j with | some x => x.2 | none => 0
     let x := s.to t
     x.cfg.job = some j ∧ j.loading = false ∧ x.checkResult j = some (code, item) ∧ x.cfg.state = .loaded) := by
  decide +kernel

theorem wit_ReservedWrites :
    (let t : Nat := 0
     let s : State := { State.reset with dies := { State.reset.dies with enumEnd := some 0 } }
     let a : Addr := BitVec.ofNat 48 (csrAddr 0 5 0x20)
     let v : Word := 0xFFFF
     let r : Row := (regAt (csrDie a.toNat) (csrBlk a.toNat) (csrOff a.toNat)).getD (Row.ro 0)
     let x := s.to t
     let d := csrDie a.toNat
     let b := csrBlk a.toNat
     let off := csrOff a.toNat
     let base := r.base off
     let n := ofWordsLow (x.heldWords d b base (r.word off) ++ [v])
     regAt d b off = some r ∧ r.word off + 1 = r.words ∧ r.writable ≠ 0 ∧
     (r.rwl = 0 ∨ x.cfg.state.open = true ∨ (r.onlyRwl = false ∧ (x.regN d b base r.words ^^^ n) &&& r.rwl = 0)) ∧
     (reservedEnc d b base n = true ∨ x.reservedNow d b base n = true) ∧ isCsr a.toNat = true ∧
     x.csrRefuses .trifle true a.toNat v = none) := by
  decide +kernel

theorem wit_StormCount :
    (let T : Nat := 7
     let t : Nat := 7
     let s : State := { State.reset with crb := { State.reset.crb with inflight := [⟨0x20A3, 7, false, 1, 0x41, false⟩] } }
     let x := s.to t
     x.nextLatch = some T ∧ T ≤ x.now) := by
  decide +kernel

/-- The words of a value below 2⁶⁴ give it back. -/
theorem words64_value (u : BitVec 64) (ws : List Word) :
    ofWordsLow ((fitW 52 (words64 u ++ ws)).take 4) = u.toNat := by
  have h : u.toNat < 2 ^ 64 := u.isLt
  have : ((fitW 52 (words64 u ++ ws)).take 4) = words64 u := by
    simp [fitW, words64, wordsLow, List.take_take, List.range_succ]
  rw [this]
  simp only [words64, wordsLow, List.range_succ, List.range_zero, List.map_nil, List.map_cons, List.nil_append, List.cons_append, ofWordsLow, BitVec.toNat_ofNat]
  omega

theorem wit_TapAndTokens_words : State.reset.dbg.nonce = none ∧
    ofWordsLow ((fitW 52 (words64 (Config.dieUid 0) ++ List.replicate 48 0)).take 4) = (Config.dieUid 0).toNat ∧
    State.reset.tokenCode (fitW 52 []) ≠ 0 := by
  refine ⟨by decide +kernel, words64_value _ _, ?_⟩
  unfold State.tokenCode
  dsimp only
  split
  · decide
  · decide +kernel

theorem wit_CustodyCommands_cert : 
    let up := { State.reset with boot := { State.reset.boot with phase := .firmware } }
    up.boot.phase = .firmware ∧ up.trf.stopped = false ∧ up.cfg.running = none ∧ up.cfg.job = none ∧
      up.certWrong (List.replicate 76 6) = true := by
  refine ⟨rfl, rfl, rfl, rfl, ?_⟩
  unfold State.certWrong
  rw [Bool.or_eq_true]
  right
  decide +kernel

set_option maxRecDepth 20000 in
/-- GET_BBX of a tin that holds one entry. -/
theorem wit_ManagementCommands_tin :
    let up := { State.reset with boot := { State.reset.boot with phase := .firmware } }
    let s := ({ up with bbx := { up.bbx with ready := true } }).bbxWrite ⟨1, false, 0, 0, 0, 0, [], 0⟩
    s.boot.phase = .firmware ∧ s.cfg.running = none ∧ s.cfg.job = none ∧ s.bbx.ready = true ∧ s.tinFrom 0 1 ≠ [] := by
  dsimp only
  refine ⟨rfl, rfl, rfl, rfl, ?_⟩
  decide +kernel

/-- The state after reset meets the hypothesis of CommandsKeepSound. -/
theorem wit_CommandsKeepSound : State.reset.Sound := ⟨by decide +kernel, by decide +kernel, by decide +kernel⟩

theorem wit_StepsKeepSound :
    let s : State := { State.reset with pending := [.eraseCap 0] }
    s.Sound ∧ step s = .next State.reset :=
  ⟨⟨by decide +kernel, by decide +kernel, by decide +kernel⟩, rfl⟩

theorem wit_StepRunsFront :
    ({ State.reset with pending := [.eraseCap 0] } : State).pending = [.eraseCap 0] ∧ State.reset.pending = [] :=
  ⟨rfl, rfl⟩

end Sys2Proof.Machine.Test
end

section
/-!
Reserved encodings (R8). The rules of the register file and of the report lines that a dropped write rests on, the write of a
word as far as its encoding check, and O55.
-/

namespace Sys2Proof.Machine

/-! ### Words of the register file (R43) -/

/-- Within a block the offset alone tells the words apart. -/
theorem csrKey_inj_off {die blk o o' : Nat} : csrKey die blk o = csrKey die blk o' ↔ o = o' := by
  unfold csrKey; omega

theorem State.reg_setReg_same (s : State) (die blk off : Nat) (v : Word) :
    (s.setReg die blk off v).reg die blk off = v := SMap.get_set_same ..

theorem State.reg_setReg_otherOff (s : State) (die blk off o : Nat) (v : Word) (h : o ≠ off) :
    (s.setReg die blk off v).reg die blk o = s.reg die blk o :=
  SMap.get_set_other _ _ _ _ _ (mt csrKey_inj_off.mp h)

/-! ### Reports (R402) -/

/-- The line of a source still holds the report of it that was launched last: a report now falls in the 7 CK4 after that
one. -/
def State.lineHolds (s : State) (die : Nat) (fid : Word) : Bool :=
  (s.crb.launched.get (dflt none) (lineKey die fid)).any (fun l => decide (edgeUp s ck4 s.now < l + 8 * ck4))

/-- A launch changes nothing where the line holds its last report; on a free line it puts one report in flight and notes its
time. -/
theorem State.launch_eq (s : State) (die : Nat) (fid : Word) (rdie rblk : Nat) :
    s.launch die fid rdie rblk = if s.lineHolds die fid then s else { s with crb := { s.crb with
      inflight := s.crb.inflight ++
        [⟨fid, edgeUp s ck4 s.now + crossing die, false, BitVec.ofNat 3 rdie, BitVec.ofNat 8 rblk, s.lostFenced fid⟩]
      launched := s.crb.launched.set (dflt none) (lineKey die fid) (some (edgeUp s ck4 s.now)) } } := by
  unfold State.launch State.lineHolds
  dsimp only
  cases s.crb.launched.get (dflt none) (lineKey die fid) with
  | none => rfl
  | some l => rfl

/-- What a launch puts in flight. -/
theorem State.launch_inflight (s : State) (die : Nat) (fid : Word) (rdie rblk : Nat) :
    (s.launch die fid rdie rblk).crb.inflight = s.crb.inflight ++ (if s.lineHolds die fid then [] else
      [⟨fid, edgeUp s ck4 s.now + crossing die, false, BitVec.ofNat 3 rdie, BitVec.ofNat 8 rblk, s.lostFenced fid⟩]) := by
  rw [s.launch_eq]
  cases s.lineHolds die fid with
  | true => simp
  | false => rfl

@[simp] theorem State.launch_csr (s : State) (die : Nat) (fid : Word) (rdie rblk : Nat) :
    (s.launch die fid rdie rblk).csr = s.csr := by
  rw [s.launch_eq]; split <;> rfl

@[simp] theorem State.launch_cfg (s : State) (die : Nat) (fid : Word) (rdie rblk : Nat) :
    (s.launch die fid rdie rblk).cfg = s.cfg := by
  rw [s.launch_eq]; split <;> rfl

@[simp] theorem State.launch_mem (s : State) (die : Nat) (fid : Word) (rdie rblk : Nat) :
    (s.launch die fid rdie rblk).mem = s.mem := by
  rw [s.launch_eq]; split <;> rfl

/-- RSVD_WRITE names no die that could be lost (R40, R428). -/
theorem State.lostFenced_rsvdWrite (s : State) : s.lostFenced 0x0181 = false := by
  have hnone : lostDie 0x0181 = none := by decide
  rw [State.lostFenced, hnone]

/-! ### The drop of a write (R8, R346) -/

/-- The word that holds the sticky RSVD for the registers at a base offset: the block's own, or that of the second core
of a split engine. -/
def rsvdHome (die blk base : Nat) : Nat :=
  if 0x10 ≤ blk ∧ blk ≤ 0x2F ∧ 0x140 ≤ base then 0x100 else rsvdOffset die blk

theorem State.dropReserved_eq (s : State) (die blk base : Nat) :
    s.dropReserved die blk base =
      (s.setReg die blk (rsvdHome die blk base) (s.reg die blk (rsvdHome die blk base) ||| 0x8000)).launch
        die 0x0181 die blk := by
  simp [State.dropReserved, State.orReg, State.raiseRsvd, rsvdHome, and_assoc]

/-- A dropped write sets RSVD beside what its word held. -/
theorem State.reg_dropReserved_home (s : State) (die blk base : Nat) :
    (s.dropReserved die blk base).reg die blk (rsvdHome die blk base) =
      s.reg die blk (rsvdHome die blk base) ||| 0x8000 := by
  rw [s.dropReserved_eq]
  simpa only [State.reg, State.launch_csr] using s.reg_setReg_same die blk (rsvdHome die blk base) _

/-- A dropped write leaves every other register of the block. -/
theorem State.reg_dropReserved_other (s : State) (die blk base o : Nat) (h : o ≠ rsvdHome die blk base) :
    (s.dropReserved die blk base).reg die blk o = s.reg die blk o := by
  rw [s.dropReserved_eq]
  simpa only [State.reg, State.launch_csr] using s.reg_setReg_otherOff die blk (rsvdHome die blk base) o _ h

/-- After a dropped write the sticky RSVD is set. -/
theorem State.flag_dropReserved (s : State) (die blk base : Nat) :
    (s.dropReserved die blk base).flag die blk (rsvdHome die blk base) 15 = true := by
  simp [State.flag, s.reg_dropReserved_home]

/-- A dropped write posts RSVD_WRITE on the die's line. -/
theorem State.inflight_dropReserved (s : State) (die blk base : Nat) :
    (s.dropReserved die blk base).crb.inflight = s.crb.inflight ++
      (if s.lineHolds die 0x0181 then [] else
        [⟨0x0181, edgeUp s ck4 s.now + crossing die, false, BitVec.ofNat 3 die, BitVec.ofNat 8 blk, false⟩]) := by
  rw [s.dropReserved_eq, State.launch_inflight, State.lostFenced_rsvdWrite]
  rfl

@[simp] theorem State.dropReserved_cfg (s : State) (die blk base : Nat) : (s.dropReserved die blk base).cfg = s.cfg := by
  rw [s.dropReserved_eq, State.launch_cfg]; rfl

@[simp] theorem State.dropReserved_mem (s : State) (die blk base : Nat) : (s.dropReserved die blk base).mem = s.mem := by
  rw [s.dropReserved_eq, State.launch_mem]; rfl

/-! ### The write of a word as far as its encoding check (R6, R8, R10, R567) -/

/-- Dropping what is held for a field changes the held words alone. -/
theorem State.unhold_eq_held (s : State) (die blk base n : Nat) :
    ∃ h, s.unhold die blk base n = { s with csr := { s.csr with held := h } } := by
  induction n with
  | zero => exact ⟨s.csr.held, rfl⟩
  | succ n ih =>
    obtain ⟨h, hh⟩ := ih
    exact ⟨_, by rw [State.unhold, hh]⟩

/-- CFG_CTRL has no reserved encoding, so EN and LOAD under a running stage are never such a write (R87). -/
theorem State.not_reserved_cfgCtrl (s : State) (die n : Nat) :
    (reservedEnc die 0x02 0 n || s.reservedNow die 0x02 0 n) = false := rfl

/-- The state check lets the write of a field through (R567). -/
def State.LetsWrite (s : State) (die blk base n : Nat) (r : Row) : Prop :=
  r.rwl = 0 ∨ s.cfg.state.open = true ∨
    (r.onlyRwl = false ∧ (s.regN die blk base r.words ^^^ n) &&& r.rwl = 0)

/-- The guard of the state check fails exactly where it lets the write through. -/
theorem State.LetsWrite.guard_false {s : State} {die blk base n : Nat} {r : Row} (h : s.LetsWrite die blk base n r) :
    (r.rwl != 0 && !s.cfg.state.open &&
      (r.onlyRwl || (s.regN die blk base r.words ^^^ n) &&& r.rwl != 0)) = false := by
  obtain hrwl | hopen | ⟨hmixed, hsame⟩ := h
  · simp [hrwl]
  · simp [hopen]
  · simp [hmixed, hsame]

/-- A write that the state check lets through and that carries a reserved encoding is dropped. -/
theorem State.csrPut_of_reserved (s : State) (die blk base n : Nat) (r : Row) (hlet : s.LetsWrite die blk base n r)
    (hres : (reservedEnc die blk base n || s.reservedNow die blk base n) = true) :
    s.csrPut die blk base n r = s.dropReserved die blk base := by
  have hctrl : (decide (blk = 0x02) && base == 0 && bits n 1 0 != 0 && s.cfg.job.isSome) = false := by
    by_cases hb : blk = 0x02 ∧ base = 0
    · obtain ⟨rfl, rfl⟩ := hb
      simp [s.not_reserved_cfgCtrl die n] at hres
    · have : (decide (blk = 0x02) && base == 0) = false := by simpa using hb
      simp [this]
  simp [State.csrPut, hlet.guard_false, hctrl, hres]

/-- The write of a field's highest word is the write of the field, its lower words the held ones. -/
theorem State.csrSet_highest (s : State) (die blk off : Nat) (v : Word) (r : Row) (hr : regAt die blk off = some r)
    (hlast : r.word off + 1 = r.words) (hw : r.writable ≠ 0) :
    s.csrSet die blk off v = (s.unhold die blk (r.base off) (r.word off)).csrPut die blk (r.base off)
      (ofWordsLow (s.heldWords die blk (r.base off) (r.word off) ++ [v])) r := by
  simp [State.csrSet, hr, hw, hlast]

/-- Past the state check a write with a reserved encoding is dropped: what was held for the field goes before, and neither
check reads it. -/
theorem State.csrSet_of_reserved (s : State) (die blk off : Nat) (v : Word) (r : Row) (hr : regAt die blk off = some r)
    (hlast : r.word off + 1 = r.words) (hw : r.writable ≠ 0) (n : Nat)
    (hn : n = ofWordsLow (s.heldWords die blk (r.base off) (r.word off) ++ [v]))
    (hlet : s.LetsWrite die blk (r.base off) n r)
    (hres : (reservedEnc die blk (r.base off) n || s.reservedNow die blk (r.base off) n) = true) :
    ∃ h, s.csrSet die blk off v =
      ({ s with csr := { s.csr with held := h } } : State).dropReserved die blk (r.base off) := by
  obtain ⟨h, hheld⟩ := s.unhold_eq_held die blk (r.base off) (r.word off)
  refine ⟨h, ?_⟩
  rw [s.csrSet_highest die blk off v r hr hlast hw, hheld, ← hn]
  exact State.csrPut_of_reserved _ die blk (r.base off) n r hlet hres

/-- The Trifle's write of a register that is not refused writes its word. -/
theorem exec_registerWrite_trifle (s : State) (t : Nat) (a : Addr) (v : Word) (hcsr : isCsr a.toNat = true)
    (hmay : (s.to t).csrRefuses .trifle true a.toNat v = none) :
    exec (.registerWrite t .trifle a v) s =
      .next ((s.to t).csrSet (csrDie a.toNat) (csrBlk a.toNat) (csrOff a.toNat) v) := by
  have hone : wordsFrom a.toNat 1 = [a.toNat] := by simp [wordsFrom, Nat.mod_eq_of_lt a.isLt]
  show Host.Outcome.next ((s.to t).masterWrite .trifle a.toNat [v]) = _
  simp [State.masterWrite, hone, hcsr, wordAt, hmay, State.csrSets]

/-- Settles O55: past the state check the write is the drop, of a state that differs in the held words alone. -/
theorem reservedWrites : Obligations.ReservedWrites := by
  intro s t o a v r x d b off base n y rs due again hr hlast hw hlet hres
  obtain ⟨h, hdrop⟩ := x.csrSet_of_reserved d b off v r hr hlast hw n rfl hlet (by rwa [Bool.or_eq_true])
  have hexec (hcsr : isCsr a.toNat = true) (hmay : x.csrRefuses .trifle true a.toNat v = none) :
      exec (.registerWrite t .trifle a v) s = .next y := exec_registerWrite_trifle s t a v hcsr hmay
  have hy : y = ({ x with csr := { x.csr with held := h } } : State).dropReserved d b base := hdrop
  rw [hy] at hexec ⊢
  exact ⟨State.flag_dropReserved _ d b base, State.reg_dropReserved_other _ d b base o,
    State.reg_dropReserved_home _ d b base, by decide, State.inflight_dropReserved _ d b base,
    State.dropReserved_cfg _ d b base, State.dropReserved_mem _ d b base, hexec⟩

end Sys2Proof.Machine
end

section
/-!
A refusal at boot and the armed injection (R78, R84, R319, R461): why a failed load and a refused check do not leave every
register, O53 and O54. The boot choice rejects a slot on TRIAL in the boot record, and the encode of that write takes an
injection armed at the MRAM, whose ARM then reads 0.
-/

namespace Sys2Proof.Machine

/-! ### The device that refuses -/

/-- A boot that tries image slot A, on TRIAL in the boot record, while a job runs; since the job began the Trifle has armed an
injection at the encoder of the MRAM: HBM_INJT has CLASS 5, DIE 7 and ARM (R323). The rest is as reset leaves it. -/
def trialBoot (job : CfgJob) (st : DevState) : State :=
  let onTrial : BootCopy := { slot := [(2, { state := slotTrial, attempts := 1 })] }
  let s := State.reset.setReg 0 0x05 0x20 0x8075
  { s with
    cfg := { s.cfg with job := some job, state := st, staged := st == .loaded }
    boot := { s.boot with kind := [(1, { cand := [false] })], copyA := onTrial, copyB := onTrial } }

/-- A load of slot A that started at time 0. -/
def loadOfA : CfgJob := ⟨true, false, false, 0, false⟩

/-- A check of the structure staged from slot A that started at time 0. -/
def checkOfA : CfgJob := ⟨false, false, false, 0, false⟩

theorem exec_loadComplete (t : Nat) (s : State) : exec (.loadComplete t) s = .next (s.to t).loadComplete := rfl

theorem exec_checkComplete (t : Nat) (s : State) : exec (.checkComplete t) s = .next (s.to t).checkComplete := rfl

/-! ### What stops the load and the check -/

/-- The validity word of slot A was never written (R77). -/
theorem loadCheck_trialBoot :
    (((trialBoot loadOfA .boot).to 0).loadReads loadOfA.slot).loadCheck loadOfA.slot = some (0x010C, noItem 0) := by
  decide +kernel

/-- DIE_PRESENT is not as it was at the load: the hub was missing then (R80). -/
theorem checkResult_trialBoot :
    ((trialBoot checkOfA .loaded).to 0).checkResult checkOfA = some (0x0F09, cfgDetail 2 0 0) := by
  decide +kernel

/-! ### The injection is taken (R319) -/

theorem injt_trialBoot (job : CfgJob) (st : DevState) : ((trialBoot job st).to 0).injt = 0x8075 := rfl

/-- Once the failed load has rejected slot A, ARM reads 0. -/
theorem injt_loadComplete_trialBoot : ((trialBoot loadOfA .boot).to 0).loadComplete.injt = 0x0075 := by
  decide +kernel

/-- Once the refused check has rejected slot A, ARM reads 0. -/
theorem injt_checkComplete_trialBoot : ((trialBoot checkOfA .loaded).to 0).checkComplete.injt = 0x0075 := by
  decide +kernel

/-- HBM_INJT is a register: a register file that is left leaves it. -/
theorem State.injt_eq_of_csr_eq {s u : State} (h : u.csr = s.csr) : u.injt = s.injt := by
  simp only [State.injt, State.reg, h]

/-! ### The obligations -/

/-- Refutes O53: the load of a slot on TRIAL fails at boot, and the boot record's write takes the injection that was armed at
the MRAM, so that HBM_INJT goes from 0x8075 to 0x0075. -/
theorem not_failedLoads : ¬ Obligations.FailedLoads := by
  intro h
  obtain ⟨y, hexec, hcsr, -⟩ :=
    h (trialBoot loadOfA .boot) 0 0x010C (noItem 0) loadOfA rfl rfl loadCheck_trialBoot
  obtain rfl := Host.Outcome.next.inj ((exec_loadComplete 0 _).symm.trans hexec)
  have hinjt := State.injt_eq_of_csr_eq hcsr
  rw [injt_loadComplete_trialBoot, injt_trialBoot] at hinjt
  exact absurd hinjt (by decide)

/-- Refutes O54: the check of an image on TRIAL refuses it at boot, and the boot record's write takes the injection that was
armed at the MRAM, so that HBM_INJT goes from 0x8075 to 0x0075. -/
theorem not_refusedChecks : ¬ Obligations.RefusedChecks := by
  intro h
  obtain ⟨y, hexec, -, hcsr, -⟩ :=
    h (trialBoot checkOfA .loaded) 0 0x0F09 (cfgDetail 2 0 0) checkOfA rfl rfl checkResult_trialBoot rfl
  obtain rfl := Host.Outcome.next.inj ((exec_checkComplete 0 _).symm.trans hexec)
  have hinjt := State.injt_eq_of_csr_eq hcsr
  rw [injt_checkComplete_trialBoot, injt_trialBoot] at hinjt
  exact absurd hinjt (by decide)

end Sys2Proof.Machine
end

section
/-!
The shifts (R247, R248). What writing a result with Z, N and C changes, how a two-operand instruction that raises no ARITH
retires, each of the five shifts by a count said in one equation, and O4.
-/

namespace Sys2Proof.Machine

/-! ### Writing a result with Z and N (R245) -/

/-- The flags and every other bit of the status word after a result was written with Z and N. -/
theorem CoreSt.flag_putZN (k : CoreSt) (d : Nat) (r : Word) (i : Nat) :
    (k.putZN d r).flag i = if i = 2 then r.msb else if i = 1 then r == 0 else k.flag i := by
  have hsw : (k.putZN d r).flag i = (k.setZN r).flag i := congrArg (·.getLsbD i) (CoreSt.sw_setD _ d r)
  rw [hsw, CoreSt.setZN, CoreSt.flag_setFlag _ _ _ _ (by decide), CoreSt.flag_setFlag _ _ _ _ (by decide)]

/-- Writing a result with Z and N writes Dd and the status word. -/
theorem CoreSt.putZN_eq (k : CoreSt) (d : Nat) (r : Word) :
    k.putZN d r = { k.setD d r with sw := (k.putZN d r).sw } := by
  have hflags : k.putZN d r = ((k.setD d r).setFlag 1 (r == 0)).setFlag 2 r.msb := by
    simp only [CoreSt.putZN, CoreSt.setZN, CoreSt.setD_setFlag _ _ d _ r (by decide : 2 < 11),
      CoreSt.setD_setFlag _ _ d _ r (by decide : 1 < 11)]
  rw [hflags]; rfl

/-- Writing a result with Z and N leaves a requested halt alone. -/
@[simp] theorem CoreSt.haltReq_putZN (k : CoreSt) (d : Nat) (r : Word) : (k.putZN d r).haltReq = k.haltReq :=
  CoreSt.haltReq_setD _ d r

/-- Writing C where a value is given. -/
def CoreSt.setCarry (k : CoreSt) : Option Bool → CoreSt
  | some c => k.setC c
  | none => k

theorem CoreSt.flag_setCarry (k : CoreSt) (cf : Option Bool) (i : Nat) :
    (k.setCarry cf).flag i = if i = 0 then cf.getD (k.flag 0) else k.flag i := by
  cases cf with
  | none => by_cases hi : i = 0 <;> simp [CoreSt.setCarry, hi]
  | some c => exact CoreSt.flag_setFlag k 0 i c (by decide)

theorem CoreSt.setD_setCarry (k : CoreSt) (d : Nat) (r : Word) (cf : Option Bool) :
    (k.setCarry cf).setD d r = (k.setD d r).setCarry cf := by
  cases cf with
  | none => rfl
  | some c => exact CoreSt.setD_setFlag k 0 d c r (by decide)

@[simp] theorem CoreSt.haltReq_setCarry (k : CoreSt) (cf : Option Bool) : (k.setCarry cf).haltReq = k.haltReq := by
  cases cf <;> rfl

/-- A result with Z, N and, where one is given, C. -/
theorem CoreSt.result_setCarry_putZN (k : CoreSt) (d : Nat) (r : Word) (cf : Option Bool) :
    k.Result ((k.setCarry cf).putZN d r) d r cf (some (r == 0)) (some r.msb) none false false := by
  have hflag (i : Nat) : ((k.setCarry cf).putZN d r).sw.getLsbD i = if i = 2 then r.msb else if i = 1 then r == 0 else
      if i = 0 then cf.getD (k.sw.getLsbD 0) else k.sw.getLsbD i := by
    have h := CoreSt.flag_putZN (k.setCarry cf) d r i
    rwa [CoreSt.flag_setCarry] at h
  constructor
  · have hsetD : { (k.setD d r).setCarry cf with sw := ((k.setCarry cf).putZN d r).sw } =
        { k.setD d r with sw := ((k.setCarry cf).putZN d r).sw } := by cases cf <;> rfl
    rw [← hsetD, ← CoreSt.setD_setCarry]
    exact CoreSt.putZN_eq _ d r
  · have hrest (i : Nat) (hi : 6 ≤ i) : ((k.setCarry cf).putZN d r).sw.getLsbD i = k.sw.getLsbD i := by
      rw [hflag, if_neg (by omega), if_neg (by omega), if_neg (by omega)]
    refine ⟨?_, ?_, ?_, ?_, ?_, ?_, fun i _ hi => hrest i hi⟩ <;> rw [hflag] <;> simp

/-! ### A two-operand instruction that raises no ARITH (R247) -/

/-- Where an operation raises no ARITH, changes the core as R says and leaves a requested halt alone, its instruction
retires. -/
theorem retires_of_alu2 {i : Instr} {s : State} {t : Nat} {c : CoreId} {d : Reg} {x : Src} {op : AluOp}
    {P : CoreSt → Prop} {R : CoreSt → CoreSt → Prop} (hexec : exec i s = .next ((s.to t).alu2 c false d x op))
    (hcalm : ∀ k, P k → (op k d.toNat (k.dr d.toNat) (k.src x)).2 = 0)
    (hR : ∀ k, P k → R k (op k d.toNat (k.dr d.toNat) (k.src x)).1)
    (hhalt : ∀ k, (op k d.toNat (k.dr d.toNat) (k.src x)).1.haltReq = k.haltReq) :
    Retires i s t c (srcLen x) 3 P R := by
  intro hissues hring hP
  have ⟨_, _, _, hnoHalt⟩ := hissues
  refine ⟨_, hR _ hP, hexec.trans (congrArg _ ?_)⟩
  exact State.alu2_retires _ c false d x op _ hissues hring rfl (Prod.ext rfl (hcalm _ hP)) ((hhalt _).trans hnoHalt)

/-! ### Shifts (R248) -/

theorem opShift_eq (f : Word → Nat → Shifted) (k : CoreSt) (d : Nat) (a b : Word) :
    opShift f k d a b = ((k.setCarry (f a b.toNat).2).putZN d (f a b.toNat).1, 0) := by
  unfold opShift
  obtain ⟨r, _ | cf⟩ := f a b.toNat <;> rfl

/-- A shift instruction retires with the shifted Dd, Z, N and the C that its count gives. -/
theorem retires_of_shift {i : Instr} {s : State} {t : Nat} {c : CoreId} {d : Reg} {x : Src}
    {f : Word → Nat → Shifted} {r : Word → Nat → Word} {cf : Word → Nat → Option Bool}
    (hexec : exec i s = .next ((s.to t).alu2 c false d x (opShift f))) (hf : ∀ a n, f a n = (r a n, cf a n)) :
    Retires i s t c (srcLen x) 3 (fun _ => True) (fun k k' =>
      let v := r (k.dr d.toNat) (k.src x).toNat
      k.Result k' d.toNat v (cf (k.dr d.toNat) (k.src x).toNat) (some (v == 0)) (some v.msb) none false false) := by
  refine retires_of_alu2 hexec (fun k _ => ?_) (fun k _ => ?_) (fun k => ?_) <;> rw [opShift_eq]
  · rw [hf]
    exact CoreSt.result_setCarry_putZN k d.toNat _ _
  · simp

/-- SHL is the shift by the whole count: past 16 places nothing is left. -/
theorem shlBy_eq (a : Word) (n : Nat) :
    shlBy a n = (a <<< n, if n = 0 then none else some (decide (n ≤ 16) && a.getLsbD (16 - n))) := by
  have hpast : (if 16 < n then 0 else a <<< n) = a <<< n :=
    ite_eq_right_iff.mpr fun h => (BitVec.shiftLeft_eq_zero (Nat.le_of_lt h)).symm
  rw [shlBy, hpast]
  by_cases hn : n = 0 <;> simp [hn]

/-- SHR is the shift by the whole count: past 16 places nothing is left. -/
theorem shrBy_eq (a : Word) (n : Nat) :
    shrBy a n = (a >>> n, if n = 0 then none else some (decide (n ≤ 16) && a.getLsbD (n - 1))) := by
  have hpast : (if 16 < n then 0 else a >>> n) = a >>> n :=
    ite_eq_right_iff.mpr fun h => (BitVec.ushiftRight_eq_zero (Nat.le_of_lt h)).symm
  rw [shrBy, hpast]
  by_cases hn : n = 0 <;> simp [hn]

/-- From 16 places on an arithmetic shift repeats the sign. -/
theorem sshiftRight_min_16 (a : Word) (n : Nat) : a.sshiftRight (min n 16) = a.sshiftRight n := by
  obtain h | h := Nat.le_total n 16
  · rw [Nat.min_eq_left h]
  · rw [Nat.min_eq_right h]
    apply BitVec.eq_of_getLsbD_eq
    intro i _
    rw [BitVec.getLsbD_sshiftRight, BitVec.getLsbD_sshiftRight, if_neg (by omega), if_neg (by omega)]

/-- SAR is the arithmetic shift by the whole count. -/
theorem sarBy_eq (a : Word) (n : Nat) :
    sarBy a n = (a.sshiftRight n, if n = 0 then none else some (if n ≤ 16 then a.getLsbD (n - 1) else a.msb)) := by
  rw [sarBy, sshiftRight_min_16]
  by_cases hn : n = 0 <;> simp [hn]

/-- 16 places to the left, and any multiple of them, bring the operand back. -/
theorem rotateLeft_of_mod_16 (a : Word) {n : Nat} (hn : n % 16 = 0) : a.rotateLeft n = a := by
  apply BitVec.eq_of_getLsbD_eq
  intro i hi
  simp [hn, hi]

/-- 16 places to the right, and any multiple of them, bring the operand back. -/
theorem rotateRight_of_mod_16 (a : Word) {n : Nat} (hn : n % 16 = 0) : a.rotateRight n = a := by
  apply BitVec.eq_of_getLsbD_eq
  intro i hi
  simp [hn, hi]

/-- ROL is the rotation by the whole count. -/
theorem rolBy_eq (a : Word) (n : Nat) :
    rolBy a n = (a.rotateLeft n, if n % 16 = 0 then none else some ((a.rotateLeft n).getLsbD 0)) := by
  rw [rolBy, ← BitVec.rotateLeft_mod_eq_rotateLeft]
  by_cases hn : n % 16 = 0 <;> simp [hn, rotateLeft_of_mod_16]

/-- ROR is the rotation by the whole count. -/
theorem rorBy_eq (a : Word) (n : Nat) :
    rorBy a n = (a.rotateRight n, if n % 16 = 0 then none else some ((a.rotateRight n).getLsbD 15)) := by
  rw [rorBy, ← BitVec.rotateRight_mod_eq_rotateRight]
  by_cases hn : n % 16 = 0 <;> simp [hn, rotateRight_of_mod_16]

/-- Settles O4: each shift is its equation by a count, and a shift instruction retires with what its equation gives. -/
theorem shifts : Obligations.Shifts := by
  intro s t c d x a n put
  exact ⟨retires_of_shift rfl shlBy_eq, retires_of_shift rfl shrBy_eq, retires_of_shift rfl sarBy_eq,
    retires_of_shift rfl rolBy_eq, retires_of_shift rfl rorBy_eq⟩

end Sys2Proof.Machine
end

section
/-!
The storm count (R414). What takes a cycle's reports into the count, the rules by which everything that their reactions bring
about leaves the count alone, the reports that an acting injection adds (R424, R425), and O56.
-/

namespace Sys2Proof.Machine

/-! ### The count saturates -/

/-- A 32-bit counter that saturates is the sum cut off at the largest value. -/
theorem satAdd_eq_ofNat_min (x : BitVec 32) (k : Nat) : satAdd x k = BitVec.ofNat 32 (min 0xFFFFFFFF (x.toNat + k)) := by
  unfold satAdd
  by_cases hfits : x.toNat + k < 2 ^ 32
  · rw [if_pos hfits, Nat.min_eq_right (by omega)]
  · rw [if_neg hfits, Nat.min_eq_left (by omega)]
    rfl

/-! ### Rules for the parts of an operation -/

@[simp] theorem State.crb_ite (c : Prop) [Decidable c] (s u : State) :
    (if c then s else u).crb = if c then s.crb else u.crb := apply_ite State.crb c s u

@[simp] theorem CrbSt.storm_ite (c : Prop) [Decidable c] (a b : CrbSt) :
    (if c then a else b).storm = if c then a.storm else b.storm := apply_ite CrbSt.storm c a b

/-- A run over a list leaves what every round of it leaves. -/
theorem foldl_keeps {σ α β : Type} (part : σ → β) {f : σ → α → σ} (hf : ∀ s a, part (f s a) = part s) (l : List α)
    (s : σ) : part (l.foldl f s) = part s := by
  induction l generalizing s with
  | nil => rfl
  | cons a l ih => exact (ih _).trans (hf s a)

/-- What happens at a later stage of a step meets the tray as it stands. -/
@[simp] theorem State.during_crb (s : State) (t : Nat) (f : State → State) : (s.during t f).crb = (f (s.to t)).crb := rfl

@[simp] theorem State.setReg_crb (s : State) (die blk off : Nat) (v : Word) : (s.setReg die blk off v).crb = s.crb := rfl

@[simp] theorem State.fldAdd16_crb (s : State) (w k : Nat) : (s.fldAdd16 w k).crb = s.crb := rfl

@[simp] theorem State.gcode_crb (s : State) (c : Nat) (ue : Bool) (k : Nat) : (s.gcode c ue k).crb = s.crb := rfl

@[simp] theorem State.takeInj_crb (s : State) : s.takeInj.1.crb = s.crb := rfl

/-! ### A report on its line is not counted before its latch (R402) -/

@[simp] theorem State.launch_storm (s : State) (die : Nat) (fid : Word) (rdie rblk : Nat) :
    (s.launch die fid rdie rblk).crb.storm = s.crb.storm := by
  rw [s.launch_eq]; simp

@[simp] theorem State.raise_storm (s : State) (die blk src : Nat) : (s.raise die blk src).crb.storm = s.crb.storm :=
  s.launch_storm ..

@[simp] theorem State.raiseOwn_storm (s : State) (fid : Word) (inj : Bool) (die : Nat) :
    (s.raiseOwn fid inj die).crb.storm = s.crb.storm := rfl

/-! ### Records and entries (R180, R419, R506) -/

@[simp] theorem State.bbxLose_storm (s : State) : s.bbxLose.crb.storm = s.crb.storm := by
  simp [State.bbxLose]

@[simp] theorem State.bbxReq_storm (s : State) (kind : Nat) (body : List Word) :
    (s.bbxReq kind body).crb.storm = s.crb.storm := by
  simp [State.bbxReq]

@[simp] theorem State.ledgerPut_storm (s : State) (type : Nat) (flags : Word) (body : List Word) :
    (s.ledgerPut type flags body).crb.storm = s.crb.storm := by
  simp [State.ledgerPut]

@[simp] theorem State.logPut_storm (s : State) (e : LogEntry) : (s.logPut e).crb.storm = s.crb.storm := by
  simp [State.logPut]

@[simp] theorem State.faultRecord_storm (s : State) (f : Word) (level : Nat) (root : Word) :
    (s.faultRecord f level root).crb.storm = s.crb.storm := s.ledgerPut_storm ..

@[simp] theorem State.reactionEntry_storm (s : State) (T : Nat) (r : Report) (level : Nat) (esc escNow : Bool)
    (root : Word) : (s.reactionEntry T r level esc escNow root).crb.storm = s.crb.storm := s.bbxReq_storm ..

@[simp] theorem State.fenceEntry_storm (s : State) (x : Cut) : (s.fenceEntry x).crb.storm = s.crb.storm :=
  s.bbxReq_storm ..

@[simp] theorem State.updEntry_storm (s : State) (event : Word) : (s.updEntry event).crb.storm = s.crb.storm := by
  simp [State.updEntry]

/-! ### The verdict message of a forced STOP (R160 to R162, R295) -/

@[simp] theorem State.encodeFlits_storm (s : State) (d : Nat) (a : Agent) (fs : List Flit) :
    (s.encodeFlits d a fs).1.crb.storm = s.crb.storm := by
  cases fs with
  | nil => rfl
  | cons f fs => simp [State.encodeFlits, apply_ite Prod.fst]

@[simp] theorem State.push_storm (s : State) (d q : Nat) (a : Agent) (fs : List (List Word)) (lastOnFinal poison : Bool)
    (t : Nat) : (s.push d q a fs lastOnFinal poison t).crb.storm = s.crb.storm := by
  unfold State.push
  dsimp only
  split <;> simp

@[simp] theorem State.blockPush_storm (s : State) (d q : Nat) (a : Agent) (fs : List (List Word)) (last : Bool) (t : Nat) :
    (s.blockPush d q a fs last t).1.crb.storm = s.crb.storm := by
  simp [State.blockPush, apply_ite Prod.fst]

@[simp] theorem State.vmsgTo_storm (s : State) (ws : List Word) (t m : Nat) :
    (s.vmsgTo ws t m).crb.storm = s.crb.storm := by
  simp [State.vmsgTo]

@[simp] theorem State.sendVerdict_storm (s : State) (m : VMsg) (ws : List Word) :
    (s.sendVerdict m ws).crb.storm = s.crb.storm := by
  simp [State.sendVerdict]

@[simp] theorem State.forceStop_storm (s : State) (t : Nat) (msg : Bool) :
    (s.forceStop t msg).crb.storm = s.crb.storm := by
  simp [State.forceStop]

/-! ### SAFE (R66, R87, R160, R420) -/

@[simp] theorem State.respond_crb (s : State) (port : MgmtPort) (cmd seq status : Word) (results : List Word) :
    (s.respond port cmd seq status results).crb = s.crb := rfl

@[simp] theorem State.finishOf_crb (s : State) (cmds : List Word) (status : Word) (results : List Word) :
    (s.finishOf cmds status results).crb = s.crb := by
  unfold State.finishOf
  cases s.cfg.running with
  | none => rfl
  | some r => simp

@[simp] theorem State.finishRun_crb (s : State) (status : Word) (results : List Word) :
    (s.finishRun status results).crb = s.crb := s.finishOf_crb ..

@[simp] theorem State.finishMode_crb (s : State) (status : Word) (results : List Word) :
    (s.finishMode status results).crb = s.crb := s.finishOf_crb ..

@[simp] theorem State.jobStop_storm (s : State) (tin : Bool) : (s.jobStop tin).crb.storm = s.crb.storm := by
  unfold State.jobStop
  cases s.cfg.job with
  | none => rfl
  | some j => simp

@[simp] theorem State.eoutFault_storm (s : State) (pulse : Bool) : (s.eoutFault pulse).crb.storm = s.crb.storm := rfl

@[simp] theorem State.enterSafe_storm (s : State) (pulse : Bool) : (s.enterSafe pulse).crb.storm = s.crb.storm := by
  simp [State.enterSafe]

/-! ### Fences (R26 to R32) -/

@[simp] theorem State.lksCount_crb (s : State) (e : Nat) (trans : Bool) : (s.lksCount e trans).crb = s.crb := by
  simp [State.lksCount]

@[simp] theorem State.selftestStop_crb (s : State) (e : Nat) : (s.selftestStop e).crb = s.crb := by
  simp [State.selftestStop]

@[simp] theorem State.wdtStop_crb (s : State) (e : Nat) : (s.wdtStop e).crb = s.crb := rfl

@[simp] theorem State.engFence_crb (s : State) (e : Nat) : (s.engFence e).crb = s.crb := by
  simp [State.engFence]

@[simp] theorem State.storeNotice_crb (s : State) (c a : Nat) : (s.storeNotice c a).crb = s.crb := rfl

@[simp] theorem State.dropFlight_crb (s : State) (d : Nat) : (s.dropFlight d).crb = s.crb := by
  unfold State.dropFlight
  refine foldl_keeps State.crb (fun s q => ?_) s.queue s
  simp

@[simp] theorem State.dropBuffered_crb (s : State) (d : Nat) : (s.dropBuffered d).crb = s.crb := by
  unfold State.dropBuffered
  refine foldl_keeps State.crb (fun s c => foldl_keeps State.crb (fun s e => ?_) c.2.wb s) s.core s
  simp

@[simp] theorem State.closePorts_crb (s : State) (d : Nat) : (s.closePorts d).crb = s.crb := by
  simp [State.closePorts]

/-- A fence itself changes dies, engines, queues and cores, and nothing of the tray. -/
@[simp] theorem State.cutOne_crb (s : State) (x : Cut) : (s.cutOne x).crb = s.crb := by
  simp [State.cutOne, foldl_keeps State.crb State.engFence_crb]

@[simp] theorem State.cutAll_crb (s : State) (xs : List Cut) : (s.cutAll xs).1.crb = s.crb := by
  induction xs generalizing s with
  | nil => rfl
  | cons x xs ih =>
    unfold State.cutAll
    split
    · exact ih s
    · exact (ih _).trans (s.cutOne_crb x)

@[simp] theorem State.afterFence_storm (s : State) (pulse : Bool) : (s.afterFence pulse).crb.storm = s.crb.storm := by
  simp [State.afterFence]

@[simp] theorem State.fenceAll_storm (s : State) (xs : List Cut) (pulse : Bool) :
    (s.fenceAll xs pulse).crb.storm = s.crb.storm := by
  simp [State.fenceAll, foldl_keeps (fun s : State => s.crb.storm) State.fenceEntry_storm]

/-! ### The reactions of a cycle (R408, R412 to R417) -/

@[simp] theorem State.startFlush_storm (s : State) (kind : ResetKind) (event : Nat) :
    (s.startFlush kind event).crb.storm = s.crb.storm := by
  unfold State.startFlush
  split <;> simp

@[simp] theorem State.levelEffects_storm (s : State) (ls : List (Word × Nat × Bool)) :
    (s.levelEffects ls).crb.storm = s.crb.storm := by
  simp [State.levelEffects]

@[simp] theorem State.issue_storm (s : State) (T : Nat) (l : Latched) : (s.issue T l).1.crb.storm = s.crb.storm := by
  unfold State.issue
  split
  · cases s.freeTimer <;> rfl
  · rfl

@[simp] theorem State.issueAll_storm (s : State) (T : Nat) (ls : List Latched) :
    (s.issueAll T ls).1.crb.storm = s.crb.storm := by
  induction ls generalizing s with
  | nil => rfl
  | cons l ls ih => exact (ih _).trans (s.issue_storm T l)

@[simp] theorem State.recordIssue_storm (s : State) (T : Nat) (i : Issue) :
    (s.recordIssue T i).crb.storm = s.crb.storm := by
  simp [State.recordIssue]

@[simp] theorem State.react_storm (s : State) (T : Nat) (ls : List Latched) : (s.react T ls).crb.storm = s.crb.storm := by
  simp [State.react, State.resetIf, foldl_keeps (fun s : State => s.crb.storm) (fun s i => s.recordIssue_storm T i)]

@[simp] theorem State.firstFault_storm (s : State) (T : Nat) (ls : List Latched) :
    (s.firstFault T ls).crb.storm = s.crb.storm := by
  unfold State.firstFault
  split
  · rfl
  · cases pickFirst ls <;> rfl

/-- Classified reports change the count no more, whatever the second classifier decides of them. -/
@[simp] theorem State.reactions_storm (s : State) (T : Nat) (other : OtherClass) (ls : List Latched) :
    (s.reactions T other ls).crb.storm = s.crb.storm := by
  simp [State.reactions]

/-! ### A latch cycle (R411, R413, R424) -/

theorem length_ins (r : Report) (rs : List Report) : (sortReports.ins r rs).length = rs.length + 1 := by
  induction rs with
  | nil => rfl
  | cons q qs ih =>
    unfold sortReports.ins
    split
    · rfl
    · simp [ih]

/-- Sorting the reports of a cycle keeps every one of them. -/
@[simp] theorem length_sortReports (rs : List Report) : (sortReports rs).length = rs.length := by
  induction rs with
  | nil => rfl
  | cons r rs ih => simp [sortReports, length_ins, ih]

/-- Every report of a cycle is latched, a repeat as well. -/
@[simp] theorem State.length_latchAll (s : State) (T : Nat) (rs : List Report) : (s.latchAll T rs).2.length = rs.length := by
  induction rs generalizing s with
  | nil => rfl
  | cons r rs ih => simp [State.latchAll, ih]

@[simp] theorem State.latchAll_storm (s : State) (T : Nat) (rs : List Report) :
    (s.latchAll T rs).1.crb.storm = s.crb.storm := by
  induction rs generalizing s with
  | nil => rfl
  | cons r rs ih => simp [State.latchAll, ih]

/-- A die is in its start-up tests by the register file alone. -/
theorem State.testMode_of_csr_eq {s u : State} (h : u.csr = s.csr) (f : Word) : u.testMode f = s.testMode f := by
  simp only [State.testMode, State.flag, State.reg, h]

/-- The state with the reports of a cycle from dies in their start-up tests counted in CRB_TESTCNTd. -/
def State.testsCounted (s : State) (rs : List Report) : State :=
  (rs.filter (fun r => s.testMode r.fid)).foldl (fun (s : State) r =>
    { s with crb := { s.crb with testCnt := s.crb.testCnt.modify (dflt 0) (fidDie r.fid) satInc } }) s

@[simp] theorem State.testsCounted_storm (s : State) (rs : List Report) : (s.testsCounted rs).crb.storm = s.crb.storm :=
  foldl_keeps (fun s : State => s.crb.storm) (fun _ _ => by rfl) _ s

@[simp] theorem State.testsCounted_csr (s : State) (rs : List Report) : (s.testsCounted rs).csr = s.csr :=
  foldl_keeps State.csr (fun _ _ => by rfl) _ s

/-- The reports of a cycle that are latched. -/
def State.latchable (s : State) (rs : List Report) : List Report := rs.filter (fun r => !(s.testMode r.fid))

/-- The count takes every report of a cycle but those of dies in their start-up tests. -/
theorem State.latchCycle_storm (s : State) (T : Nat) (other : OtherClass) (rs : List Report) :
    (s.latchCycle T other rs).crb.storm = satAdd s.crb.storm (s.latchable rs).length := by
  let u := s.testsCounted rs
  let a := u.latchAll T (sortReports (u.latchable rs))
  have hsame : u.latchable rs = s.latchable rs := by
    simp only [State.latchable, State.testMode_of_csr_eq (s.testsCounted_csr rs), u]
  calc (s.latchCycle T other rs).crb.storm
      = satAdd a.1.crb.storm a.2.length := State.reactions_storm ..
    _ = satAdd s.crb.storm (s.latchable rs).length := by simp [a, hsame, u]

/-! ### The acting edge of an injection (R425) -/

@[simp] theorem State.logPut_csr (s : State) (e : LogEntry) : (s.logPut e).csr = s.csr := by
  unfold State.logPut
  dsimp only
  split
  · split <;> rfl
  · rfl

/-- The hub's registers say nothing of a compute die's start-up tests. -/
theorem State.testMode_setReg_hub (s : State) (blk off : Nat) (v : Word) (hkey : csrKey 0 blk off < csrKey 1 0 0)
    (f : Word) : (s.setReg 0 blk off v).testMode f = s.testMode f := by
  by_cases hcompute : isCompute (fidDie f) = true
  · have hdie : 1 ≤ fidDie f := by
      simp only [isCompute, Bool.and_eq_true, decide_eq_true_eq] at hcompute
      exact hcompute.1
    have hother : csrKey (fidDie f) 0x32 0 ≠ csrKey 0 blk off := by
      unfold csrKey at hkey ⊢
      omega
    have hreg : (s.setReg 0 blk off v).reg (fidDie f) 0x32 0 = s.reg (fidDie f) 0x32 0 :=
      SMap.get_set_other _ _ _ _ _ hother
    simp only [State.testMode, State.flag, hreg]
  · simp [State.testMode, hcompute]

/-- CRB_INJC as the acting edge leaves it, with nothing pending any more. -/
def State.injectionTaken (s : State) : State :=
  { s.setReg 0 0x03 0xA (s.reg 0 0x03 0xA &&& 0x7FFF) with crb := { s.crb with injAt := none } }

/-- The three modes of an injection: a report of the source that CRB_INJF names, a DRY one that adds none, and a line
declared broken, of which LINE_FAULT is the report. -/
theorem State.inject_eq (s : State) (T : Nat) :
    s.inject T =
      if s.fld 0 0x03 0xA 1 0 = 0 then
        (s.injectionTaken, [⟨s.reg 0 0x03 9, T, true, BitVec.ofNat 3 (lineDie (s.reg 0 0x03 9)), 0,
          s.injectionTaken.lostFenced (s.reg 0 0x03 9)⟩])
      else if s.fld 0 0x03 0xA 1 0 = 1 then (s.injectionTaken.injectDry T (s.reg 0 0x03 9), [])
      else (s.injectionTaken, [⟨BitVec.ofNat 16 (0x0190 + lineDie (s.reg 0 0x03 9)), T, true, 0, 0x03, false⟩]) := rfl

@[simp] theorem State.inject_storm (s : State) (T : Nat) : (s.inject T).1.crb.storm = s.crb.storm := by
  simp [State.inject_eq, apply_ite Prod.fst, State.injectDry, State.injectionTaken]

/-- An acting injection leaves every die's start-up tests as they are. -/
theorem State.testMode_inject (s : State) (T : Nat) (f : Word) : (s.inject T).1.testMode f = s.testMode f := by
  have htaken : s.injectionTaken.testMode f = s.testMode f :=
    (State.testMode_of_csr_eq rfl f).trans (s.testMode_setReg_hub 0x03 0xA _ (by decide) f)
  rw [s.inject_eq]
  split
  · exact htaken
  split
  · exact (State.testMode_of_csr_eq (State.logPut_csr ..) f).trans htaken
  · exact htaken

theorem lineDie_lt_8 (f : Word) : lineDie f < 8 := by
  have hdie : fidDie f < 8 := Nat.mod_lt _ (by decide)
  unfold lineDie
  dsimp only
  split
  · exact Nat.zero_lt_succ 7
  split
  · exact Nat.lt_succ_self 7
  split
  · exact Nat.lt_of_le_of_lt (Nat.sub_le _ 1) hdie
  · exact hdie

/-- LINE_FAULT is a source of the hub, which has no start-up tests of this kind (R424). -/
theorem State.testMode_lineFault (s : State) {d : Nat} (hd : d < 8) :
    s.testMode (BitVec.ofNat 16 (0x0190 + d)) = false := by
  have hhub : ∀ d < 8, isCompute (fidDie (BitVec.ofNat 16 (0x0190 + d))) = false := by decide
  simp [State.testMode, hhub d hd]

/-- How many reports of an injection that acts now are latched. -/
def State.injectCount (s : State) : Nat :=
  if s.fld 0 0x03 0xA 1 0 = 0 then b2n (!(s.testMode (s.reg 0 0x03 9))) else b2n (s.fld 0 0x03 0xA 1 0 != 1)

/-- Of what an injection adds, only a report of a die in its start-up tests is not latched. -/
theorem State.length_latchable_inject (s : State) (T : Nat) : (s.latchable (s.inject T).2).length = s.injectCount := by
  rw [s.inject_eq, State.injectCount, State.latchable]
  split
  · cases h : s.testMode (s.reg 0 0x03 9) <;> simp [h, b2n]
  split
  case isTrue hdry => simp [hdry, b2n]
  case isFalse hdry => simp [hdry, b2n, s.testMode_lineFault (lineDie_lt_8 _)]

/-! ### The obligation -/

/-- The state with the reports of cycle T taken off their lines. -/
def State.linesTaken (s : State) (T : Nat) : State :=
  { s with crb := { s.crb with inflight := s.crb.inflight.filter (fun r => r.latchAt != T) } }

/-- What stands before the latches of cycle T: the state after the acting edge of an injection, and the reports it adds. -/
def State.beforeLatch (s : State) (T : Nat) : State × List Report :=
  if s.crb.injAt = some T then (s.linesTaken T).inject T else (s.linesTaken T, [])

theorem State.beforeLatch_storm (s : State) (T : Nat) : (s.beforeLatch T).1.crb.storm = s.crb.storm := by
  unfold State.beforeLatch
  split
  · exact State.inject_storm ..
  · rfl

theorem State.latchable_beforeLatch (s : State) (T : Nat) (rs : List Report) :
    (s.beforeLatch T).1.latchable rs = s.latchable rs := by
  unfold State.beforeLatch
  split
  · simp only [State.latchable, State.testMode_inject, State.testMode_of_csr_eq (s := s) (u := s.linesTaken T) rfl]
  · rfl

/-- The reports due at T on a line in service. -/
def State.dueReports (s : State) (T : Nat) : List Report :=
  (s.crb.inflight.filter (fun r => r.latchAt == T)).filter (fun r => !(s.lineBroken r))

/-- A latch cycle that has come is taken in with its due reports and what an injection adds. -/
theorem State.takeReports_eq (s : State) (other : OtherClass) (T : Nat) (hnext : s.nextLatch = some T)
    (hcome : T ≤ s.now) :
    s.takeReports other = (s.beforeLatch T).1.latchCycle T other (s.dueReports T ++ (s.beforeLatch T).2) := by
  unfold State.takeReports
  rw [hnext]
  exact if_neg (Nat.not_lt.mpr hcome)

/-- Taking in a latch cycle that has come adds its due reports, and those of an injection that acts in it, to the count. -/
theorem State.takeReports_storm (s : State) (other : OtherClass) (T : Nat) (hnext : s.nextLatch = some T)
    (hcome : T ≤ s.now) :
    (s.takeReports other).crb.storm = satAdd s.crb.storm
      ((s.latchable (s.dueReports T)).length + (if s.crb.injAt = some T then s.injectCount else 0)) := by
  have hinj : (s.latchable (s.beforeLatch T).2).length = if s.crb.injAt = some T then s.injectCount else 0 := by
    unfold State.beforeLatch
    split
    · exact (s.linesTaken T).length_latchable_inject T
    · rfl
  rw [s.takeReports_eq other T hnext hcome, State.latchCycle_storm, s.beforeLatch_storm, s.latchable_beforeLatch, ← hinj,
    ← List.length_append, State.latchable, State.latchable, State.latchable, List.filter_append]

/-- Settles O56: a latch cycle adds its latched reports to the count, and what they bring about leaves it. -/
theorem stormCount : Obligations.StormCount := by
  intro s t T other x c due mode inj hnext hcome
  have hdue : (x.latchable (x.dueReports T)).length = due := by
    simp [State.latchable, State.dueReports, List.filter_filter, due, c, Bool.and_comm]
  refine ⟨x.takeReports other, rfl, ?_⟩
  dsimp only
  rw [x.takeReports_storm other T hnext hcome, satAdd_eq_ofNat_min, hdue, ← Nat.add_assoc]
  rfl

end Sys2Proof.Machine
end
